-- ==== Sys2Proof/Word.lean ====
section
/-! DEFINITION. The names of the plain words and numbers of the ZDC-2426: bytes, samples, channels, converters. -/

namespace Sys2Proof

/-- One byte of a frame, a record or a line. -/
abbrev Byte := BitVec 8

/-- A raw converter sample, two's complement, −8,388,608..8,388,607 (R118). -/
abbrev Raw := BitVec 24

/-- A record sample or a feed sample, two's complement, −32,768..32,767 (R20, R160). -/
abbrev Sample := BitVec 16

/-- A channel, CH0 to CH23. -/
abbrev Chan := Fin 24

/-- A converter, CV0 to CV25. -/
abbrev Conv := Fin 26

end Sys2Proof
end

