-- ==== Sys2Proof/Config.lean ====
section
/-! DEFINITION. What the part fixes in numbers (00 section 1, R24, R120, R141, R167 to R173, R181) and the one value
the spec leaves open. -/

namespace Sys2Proof.Config

/-- Slots of the block store (R24). -/
abbrev storeSlots : Nat := 65536

/-- Sample instants of a period, and samples of a block or a pattern page (R4, R17). -/
abbrev periodLength : Nat := 320

/-- Number of values of a wrapping or saturating 32-bit count. -/
abbrev wrap32 : Nat := 4294967296

/-- A boundary or an OPEN_CAPTURE whose next custody number is above this meets the capture limit (R2, R14). -/
abbrev custodyLimit : Nat := 4294967246

/-- Sample instants of a court day (R141). -/
abbrev dayLength : Nat := 1382400000

/-- Court days before the day count returns to 0 (R141). -/
abbrev dayCount : Nat := 65536

/-- Sample instants of a long trim and of a short one (R120). -/
abbrev longTrim : Nat := 2560
abbrev shortTrim : Nat := 640

/-- Greatest magnitude of a trim offset (R121). -/
abbrev offsetLimit : Int := 24000

/-- The trim clock's greatest value (R118). -/
abbrev trimClockMax : Nat := 281474976710655

/-- Greatest value of the rotation timer, in periods (R125). -/
abbrev rotationTimerMax : Nat := 180000

/-- The expiry of the missing-pulse timer and of the holdover timer, in sample instants (R147). -/
abbrev missingLimit : Nat := 24000
abbrev holdoverLimit : Nat := 57600000

/-- Entries of the command queue, the reply queue and the deferred-reply table (R167, R169, R170). -/
abbrev cmdQueueMax : Nat := 4
abbrev replyQueueMax : Nat := 8
abbrev deferredMax : Nat := 4

/-- Greatest payload of a frame, in bytes (R163). -/
abbrev payloadMax : Nat := 1024

/-- Entries of a notice's list, of the reclaim list and of the floor log (R41, R78, R102, R115, R134, R152). -/
abbrev noticeListMax : Nat := 8
abbrev reclaimListMax : Nat := 32
abbrev floorLogMax : Nat := 32

/-- FREE VALUE (log entry 12). R145 reads the offset d "as a signed value of at most half that span" and does not say
which sign the difference of exactly half the span takes: true stands for the positive one. Nothing is known of it. -/
opaque halfSpanPositive : Bool

end Sys2Proof.Config
end

