-- ==== Sys2Proof/Syntax.lean ====
section
/-! DEFINITION. The commands of the block: one constructor per row of spec/opcode_table.json. -/

namespace Sys2Proof

/-- A command or event. The rows the command engine executes have no operand of their own: the frame at the head of the
command queue carries the tag and the parameters (R168, log entry 5). -/
inductive Instr where
  /-- Power-on or RESET_N (R23). -/
  | fullReset
  /-- A tick of the steered sample clock (R19); `raw` holds the sample each converter produces at it (R118). -/
  | sampleInstant (raw : Vector Raw 26)
  /-- A boundary that is not final (R5). -/
  | periodBoundary
  /-- The final boundary of a capture (R13). -/
  | finalBoundary
  /-- The end of a trim that has run its sample instants (R121). -/
  | trimEnd
  /-- A scan of the lane arbiter (R173). -/
  | laneScan
  /-- The end of a FIRST block frame (R51). -/
  | blockFrameEnd
  /-- The end of a REREAD block frame (R60). -/
  | rereadFrameEnd
  /-- The end of a reply frame (R169). -/
  | replyFrameEnd
  /-- The end of a notice frame (R171). -/
  | noticeFrameEnd
  /-- The capture reset after the RESTART reply (R179). -/
  | captureReset
  /-- The head age reaches the wait (R48). -/
  | headAgeWait
  /-- The host asserts HOLD (R174). -/
  | holdAssert
  /-- The host releases HOLD (R174). -/
  | holdRelease
  /-- A byte other than C5h in HUNTING (R165). -/
  | strayByte (b : Byte)
  /-- A framing error or a break on LRX (R165). -/
  | lineError
  /-- The second length byte of a frame announces `len` (R166). -/
  | oversizeLength (len : BitVec 16)
  /-- More than 2 ms between two bytes of a frame (R166). -/
  | frameGapTimeout
  /-- The check byte of a frame arrives (R166). -/
  | frameComplete (kind tag : Byte) (payload : List Byte) (check : Byte)
  /-- An ANSWERED entry moves to the reply queue (R170). -/
  | deferredReplyMove
  /-- A command whose code names no command (R168). -/
  | unknownCommand
  | identify
  | linkStatus
  | noticeMask
  | laneSchedule
  | restart
  | openCapture
  | closeCapture
  | setChannel
  | getChannel
  | loadPattern
  | routePattern
  | setProceeding
  | proceedingStatus
  | storePolicy
  | storeStatus
  | streamControl
  | release
  | readHeld
  | putMarker
  | markerStatus
  | floorConfig
  | floorStatus
  | trimConfig
  | converterStatus
  | trimNow
  | converterRestore
  | setTime
  | timeStatus
  | feedConfig
  /-- A carriage return on TMSG ends a line (R142). `line` holds the characters since the last carriage return, `none`
  for a character that arrived with a framing error or during a break. -/
  | timeMessage (line : List (Option Byte))
  /-- A pulse on TREF (R143), `frac`/256 of a sample interval after the last sample instant at or before it. -/
  | trefPulse (frac : BitVec 8)
  /-- The missing-pulse timer expires (R147). -/
  | missingPulse
  /-- The holdover timer expires (R147). -/
  | holdoverLimit
  /-- A byte C5h in HUNTING (R165). -/
  | syncByte
  deriving DecidableEq, Repr

end Sys2Proof
end

