-- ==== Sys2Proof/WellFormed.lean ====
section
/-! DEFINITION. Which operands a command can have at all (R142, R163, R165, R166). -/

namespace Sys2Proof

/-- The operand check of a command: a stray byte is not the sync byte (R165); an oversize length is above 1,024 and a
complete frame's is not (R166); a line holds no carriage return, which would have ended it (R142). -/
def Instr.wf : Instr → Bool
  | .strayByte b => b != 0xC5#8
  | .oversizeLength len => decide (Config.payloadMax < len.toNat)
  | .frameComplete _ _ payload _ => decide (payload.length ≤ Config.payloadMax)
  | .timeMessage line => !line.contains (some 0x0D#8)
  | .fullReset | .sampleInstant _ | .periodBoundary | .finalBoundary | .trimEnd | .laneScan | .blockFrameEnd
  | .rereadFrameEnd | .replyFrameEnd | .noticeFrameEnd | .captureReset | .headAgeWait | .holdAssert | .holdRelease
  | .lineError | .frameGapTimeout | .deferredReplyMove | .unknownCommand | .identify | .linkStatus | .noticeMask
  | .laneSchedule | .restart | .openCapture | .closeCapture | .setChannel | .getChannel | .loadPattern
  | .routePattern | .setProceeding | .proceedingStatus | .storePolicy | .storeStatus | .streamControl | .release
  | .readHeld | .putMarker | .markerStatus | .floorConfig | .floorStatus | .trimConfig | .converterStatus | .trimNow
  | .converterRestore | .setTime | .timeStatus | .feedConfig | .trefPulse _ | .missingPulse | .holdoverLimit
  | .syncByte => true

end Sys2Proof
end

