-- ==== Sys2Proof/Decode.lean ====
section
/-! DEFINITION. Reading a command from the table's bits: spec/opcode_table.json gives no row any bits ("fields": [] in
every row, no "fixed"), so no word spells a command. -/

namespace Sys2Proof

/-- The command that the table's bits spell: none, for every width and word. -/
def decodeTableWord (_nbits _w : Nat) : Option Instr := none

end Sys2Proof
end

