-- ==== Sys2Proof/Machine/State.lean ====
section
/-! DEFINITION. The state of the ZDC-2426 as plain data, block by block as section 2 of the spec's scope file lists
them, its faults and refusals, and the state after a full reset. -/

namespace Sys2Proof.Machine

/-- A channel's priority class in the store (1.7). -/
inductive Class where
  | keep | normal | shed
  deriving DecidableEq, Repr

/-- The capture state (R1). -/
inductive CaptureState where
  | standby | capturing
  deriving DecidableEq, Repr

/-- The proceeding (4.1). -/
inductive Proceeding where
  | standby | recess | session | sidebar | inCamera
  deriving DecidableEq, Repr

/-- A record's tag (R74, R75). -/
inductive Tag where
  | recess | session | restricted
  deriving DecidableEq, Repr

/-- A channel's activity state (R91). -/
inductive Activity where
  | quiet | active | hanging
  deriving DecidableEq, Repr

/-- The time quality of a record, without the STEPPED flag (R149). -/
inductive TimeQuality where
  | unset | free | holdover | locked
  deriving DecidableEq, Repr

/-- The discipline state of the timebase (9.4). -/
inductive Discipline where
  | free | acquiring | locked | holdover
  deriving DecidableEq, Repr

/-- The level state of the store (R37). -/
inductive LevelState where
  | normal | shedding | keepOnly | exhausted
  deriving DecidableEq, Repr

/-- The state of a converter (R118). -/
inductive ConvState where
  | untrimmed | trimming | spare | shadow | serving | faulted
  deriving DecidableEq, Repr

/-- The kind of a trim (R120). -/
inductive TrimKind where
  | long | short
  deriving DecidableEq, Repr

/-- The rotation state (R125). -/
inductive RotationState where
  | idle | due | shadowing
  deriving DecidableEq, Repr

/-- What a marker records (7.1). -/
inductive MarkerKind where
  | exhibit | oath | objection | ruling | speaker | note
  deriving DecidableEq, Repr

/-- The eight notice kinds, highest sending priority first (R171). -/
inductive NoticeKind where
  | capture | store | converter | time | proceeding | marker | floor | link
  deriving DecidableEq, Repr

/-- The three sources of the lane (R173). -/
inductive Source where
  | r | n | b
  deriving DecidableEq, Repr

/-- The result codes of 11.3. -/
inductive Result where
  | ok | accepted | superseded | busy | state | range | badLength | unknown | notReady | full | notHeld | noSpare
  deriving DecidableEq, Repr

/-! ## Records (R6, R111, R184, R185) -/

/-- The flags of an audio record (R184, byte 28). -/
structure RecordFlags where
  pattern : Bool
  handover : Bool
  convFault : Bool
  stepped : Bool
  deriving DecidableEq, Repr

/-- An audio record as it stands from its posting (R6, R184). -/
structure AudioRecord where
  channel : Chan
  capture : Nat
  custody : Nat
  sequence : Nat
  period : Nat
  gap : Nat
  day : Nat
  instant : Nat
  quality : TimeQuality
  tag : Tag
  flags : RecordFlags
  converter : Conv
  gain : Nat
  level : Nat
  activity : Activity
  holder : Option Chan
  peak : Nat
  clipped : Nat
  check : BitVec 32
  samples : List Sample
  deriving DecidableEq, Repr

/-- A marker (7.1). -/
structure Marker where
  kind : MarkerKind
  channel : Option Chan
  text : List Byte
  deriving DecidableEq, Repr

/-- A marker record as it stands from its posting (R111, R185). -/
structure MarkerRecord where
  capture : Nat
  custody : Nat
  sequence : Nat
  period : Nat
  day : Nat
  instant : Nat
  quality : TimeQuality
  tag : Tag
  entries : List (Fin 8 × Marker)
  check : BitVec 32
  deriving DecidableEq, Repr

/-- What a slot holds from posting on (R24). -/
inductive Record where
  | audio (r : AudioRecord)
  | marker (r : MarkerRecord)
  deriving DecidableEq, Repr

/-! ## Channel processors, with every other block's state that is kept per channel -/

/-- The nine settings of a channel (1.7). -/
structure Settings where
  enable : Bool
  gain : Nat
  cls : Class
  bench : Bool
  floorEligible : Bool
  feedInclude : Bool
  openCode : Nat
  closeCode : Nat
  hang : Nat
  deriving DecidableEq, Repr

/-- The pending settings of a channel: any subset of the nine fields (R10). -/
structure PendingSettings where
  enable : Option Bool
  gain : Option Nat
  cls : Option Class
  bench : Option Bool
  floorEligible : Option Bool
  feedInclude : Option Bool
  openCode : Option Nat
  closeCode : Option Nat
  hang : Option Nat
  deriving DecidableEq, Repr

/-- A channel's source: its microphone or a pattern page (R18). -/
inductive Route where
  | mic
  | page (p : Fin 4)
  deriving DecidableEq, Repr

/-- A pending route and the number of the ROUTE_PATTERN that placed it (R10). -/
structure PendingRoute where
  route : Route
  request : Nat
  deriving DecidableEq, Repr

/-- The running block's results (R21). -/
structure RunningBlock where
  energy : Nat
  peak : Nat
  clipped : Nat
  deriving DecidableEq, Repr

/-- One channel: its settings, routes and block, and its share of the capture engine, the store, the chain unit and the
trim unit. -/
structure Channel where
  /-- Settings in force (1.7). -/
  settings : Settings
  /-- Pending settings (R10). -/
  pendingSettings : PendingSettings
  /-- Route in force (R18). -/
  route : Route
  /-- Pending route (R10). -/
  pendingRoute : Option PendingRoute
  /-- The running block, if one runs (R21). -/
  block : Option RunningBlock
  /-- Level code of the most recently completed block (R16, R22). -/
  lastLevel : Nat
  /-- Sequence count (R9). -/
  seqCount : Nat
  /-- The sequence number last given to a period of this capture (R6, R14). -/
  lastSeq : Option Nat
  /-- Gap tally (R9). -/
  gapTally : Nat
  /-- The FILLING slot the channel owns, with the samples written so far (R27). -/
  filling : Option (List Sample)
  /-- Starvation count (R38). -/
  starvation : Nat
  /-- The supply mark: true is STARVED (R38). -/
  starved : Bool
  /-- Membership of the newly-starved set (R41). -/
  newlyStarved : Bool
  /-- Chain value (R82). -/
  chain : BitVec 32
  /-- Activity state and hang counter (R91). -/
  activity : Activity
  hangCounter : Nat
  /-- Mismatch count (R125). -/
  mismatch : Nat
  /-- Handover mark (R133). -/
  handover : Bool
  /-- Membership of the no-spare set (R132). -/
  noSpare : Bool
  deriving DecidableEq, Repr

/-! ## Capture engine -/

/-- What the capture engine reads from the timebase at sample instant 0 of a period (R4, R149). -/
structure Stamp where
  day : Nat
  instant : Nat
  quality : TimeQuality
  stepped : Bool
  deriving DecidableEq, Repr

/-- Why a capture ended (R14). -/
inductive EndReason where
  | closed | limit
  deriving DecidableEq, Repr

/-- Why the proceeding changed (R78). -/
inductive ChangeCause where
  | opened | command | closed | limit
  deriving DecidableEq, Repr

/-- One entry of the PROCEEDING notice's change list (R78). -/
structure ProceedingChange where
  capture : Nat
  period : Nat
  before : Proceeding
  after : Proceeding
  cause : ChangeCause
  deriving DecidableEq, Repr

/-- A channel's last sequence and trailing gap in the CAPTURE notice (R14). -/
structure ChannelTail where
  lastSeq : Option Nat
  gap : Nat
  deriving DecidableEq, Repr

/-- The CAPTURE notice's held contents (R14). -/
structure CaptureContents where
  reason : EndReason
  capture : Nat
  period : Nat
  tails : List ChannelTail
  deriving DecidableEq, Repr

/-- The capture engine (1.1, 4.1, 4.5). -/
structure Capture where
  state : CaptureState
  number : Nat
  period : Nat
  /-- Number of the next sample instant of the period; 320 when the boundary is due (R4). -/
  instant : Nat
  closeRequest : Bool
  proceeding : Proceeding
  pendingProceeding : Option Proceeding
  stamp : Stamp
  pages : Vector (Vector Sample 320) 4
  /-- Number the next ROUTE_PATTERN takes (log entry 29). -/
  nextRequest : Nat
  changes : List ProceedingChange
  changesUnlisted : Nat
  notice : Option CaptureContents
  deriving DecidableEq, Repr

/-! ## Block store and stream unit -/

/-- A POSTED slot: its record and the tick at which it was posted (R28, R47). -/
structure PostedSlot where
  record : Record
  postedAt : Nat
  deriving DecidableEq, Repr

/-- A HELD slot (R24). -/
structure HeldSlot where
  record : Record
  pins : Nat
  releasePending : Bool
  deriving DecidableEq, Repr

/-- The block store (chapter 2). FILLING audio slots stand with their owner channels. -/
structure Store where
  free : Nat
  posted : List PostedSlot
  sending : Option Record
  custody : List HeldSlot
  lastCustody : Nat
  shed : Nat
  keep : Nat
  reclaim : Bool
  reclaimCount : Nat
  reclaimList : List Nat
  notListed : Nat
  deriving DecidableEq, Repr

/-- The stream unit (R46). -/
structure Stream where
  enable : Bool
  threshold : Nat
  wait : Nat
  lastSent : Nat
  deriving DecidableEq, Repr

/-! ## Marker unit -/

/-- One taking of the MARKER notice (R115). -/
structure Taking where
  capture : Nat
  sequence : Nat
  custody : Nat
  period : Nat
  slots : List (Fin 8)
  deriving DecidableEq, Repr

/-- The marker unit and the marker chain (chapter 7, R82). -/
structure Markers where
  slots : Vector (Option Marker) 8
  sequence : Nat
  refusals : Nat
  takings : List Taking
  unlisted : Nat
  chain : BitVec 32
  deriving DecidableEq, Repr

/-! ## Floor unit -/

/-- Why the floor changed hands (R98, R99). -/
inductive FloorCause where
  | opened | handoff | takeover | lapse
  deriving DecidableEq, Repr

/-- One record of the floor log (R102). -/
structure FloorRecord where
  capture : Nat
  period : Nat
  proceeding : Proceeding
  holder : Option Chan
  previous : Option Chan
  cause : FloorCause
  level : Nat
  deriving DecidableEq, Repr

/-- The floor unit (R94). -/
structure Floor where
  holder : Option Chan
  challenger : Option (Chan × Nat)
  margin : Nat
  takeover : Nat
  log : List FloorRecord
  overrun : Nat
  lastDecision : Option Nat
  deriving DecidableEq, Repr

/-! ## Converter bank and trim unit -/

/-- One converter (R118); `runFirst` and `runEqual` carry the examination of R130 through a period. -/
structure Converter where
  state : ConvState
  offset : Int
  doneAt : Option Nat
  stuck : Nat
  runFirst : Raw
  runEqual : Bool
  deriving DecidableEq, Repr

/-- A trim in progress (R120). -/
structure Engine where
  conv : Conv
  kind : TrimKind
  remaining : Nat
  sum : Int
  deriving DecidableEq, Repr

/-- The rotation record's spare, target and channel (R125). -/
structure Shadow where
  spare : Conv
  target : Conv
  channel : Chan
  deriving DecidableEq, Repr

/-- An event of the CONVERTER notice (R134). -/
inductive ConverterEvent where
  | faulted | handover | noSpare
  deriving DecidableEq, Repr

/-- The cause of a CONVERTER event (R134). -/
inductive ConverterCause where
  | none | trim | stuck | mismatch | rotation | unmatched | replacement
  deriving DecidableEq, Repr

/-- One entry of the CONVERTER notice's event list (R134). -/
structure ConverterEntry where
  event : ConverterEvent
  cause : ConverterCause
  conv : Conv
  channel : Option Chan
  other : Option Conv
  capture : Nat
  period : Nat
  deriving DecidableEq, Repr

/-- The converter bank and the trim unit (chapter 8). -/
structure TrimUnit where
  convs : Vector Converter 26
  map : Vector Conv 24
  mapBuilt : Bool
  engine : Option Engine
  trimClock : Nat
  rotation : RotationState
  named : Option Conv
  shadow : Option Shadow
  matchSum : Nat
  timer : Nat
  interval : Nat
  limit : Nat
  events : List ConverterEntry
  unlisted : Nat
  deriving DecidableEq, Repr

/-! ## Timebase -/

/-- The last accepted pulse: its tick, e (absent for an opening pulse) and d (R151). -/
structure Pulse where
  tick : Nat
  e : Option Int
  d : Int
  deriving DecidableEq, Repr

/-- An event of the TIME notice (R152). -/
inductive TimeEvent where
  | state | step
  deriving DecidableEq, Repr

/-- The cause of a TIME event (R152). -/
inductive TimeCause where
  | pulse | missing | limit | lock | offset | set
  deriving DecidableEq, Repr

/-- One entry of the TIME notice's event list (R152, R186). -/
structure TimeEntry where
  event : TimeEvent
  cause : TimeCause
  before : Discipline
  after : Discipline
  size : Int
  capture : Nat
  period : Nat
  day : Nat
  instant : Nat
  deriving DecidableEq, Repr

/-- A held time message: day and second (R142). -/
structure HeldMessage where
  day : Nat
  second : Nat
  deriving DecidableEq, Repr

/-- The timebase (chapter 9). `day` and `instant` are the count the next sample instant carries (log entry 11). -/
structure Timebase where
  discipline : Discipline
  day : Nat
  instant : Nat
  isSet : Bool
  freqTrim : Int
  good : Nat
  lockHistory : Bool
  /-- Arrival of the last accepted pulse in 1/256 sample units (R143). -/
  refMark : Option Nat
  missingTimer : Nat
  holdoverTimer : Nat
  held : Option HeldMessage
  /-- A carriage return came directly before the line being collected (log entry 9). -/
  afterCr : Bool
  lastPulse : Option Pulse
  stepMark : Bool
  malformed : Nat
  unnamed : Nat
  offWindow : Nat
  steps : Nat
  events : List TimeEntry
  unlisted : Nat
  deriving DecidableEq, Repr

/-! ## Feed mixer -/

/-- The feed mixer and the feed output (chapter 10). -/
structure Feed where
  multiplier : Nat
  /-- The masking shift, `none` for off. -/
  masking : Option Nat
  noise : BitVec 16
  satCount : Nat
  /-- The feed sample formed at the last sample instant (R160). -/
  formed : Sample
  /-- The sample in the feed frame that began at the last sample instant (R160). -/
  sent : Sample
  deriving DecidableEq, Repr

/-! ## Link controller -/

/-- The frame receiver (11.2). -/
inductive Receiver where
  | hunting | assembling
  deriving DecidableEq, Repr

/-- A complete command frame: its tag and payload (R167). -/
structure Command where
  tag : Byte
  payload : List Byte
  deriving DecidableEq, Repr

/-- A reply (R183). -/
structure Reply where
  tag : Byte
  code : Byte
  result : Result
  data : List Byte
  deriving DecidableEq, Repr

/-- An entry of the reply queue: a reply, or a REREAD copy of a custody slot by its number (R169, R58). -/
inductive ReplyEntry where
  | reply (r : Reply)
  | copy (custody : Nat)
  deriving DecidableEq, Repr

/-- The request a deferred reply belongs to (R170). -/
inductive Request where
  | settings
  | route (request : Nat)
  | proceeding (requested : Proceeding)
  | close
  deriving DecidableEq, Repr

/-- An entry of the deferred-reply table: WAITING while `answer` is `none`, ANSWERED with its answer after (R170). -/
structure Deferred where
  tag : Byte
  code : Byte
  request : Request
  answer : Option Reply
  deriving DecidableEq, Repr

/-- The seven link error counters (R172). -/
structure Counters where
  stray : Nat
  check : Nat
  oversize : Nat
  gap : Nat
  line : Nat
  busy : Nat
  replyLost : Nat
  deriving DecidableEq, Repr

/-- One of the seven link error counters (R172). -/
inductive CounterName where
  | stray | check | oversize | gap | line | busy | replyLost
  deriving DecidableEq, Repr

/-- Whose frame is on the lane (R169, R171, R179, R50). -/
inductive LaneUse where
  | first
  | reread
  | reply
  | restartReply
  | notice
  deriving DecidableEq, Repr

/-- The outbound frame in progress: its source and all its bytes (R163, log entry 10). -/
structure LaneFrame where
  use : LaneUse
  bytes : List Byte
  deriving DecidableEq, Repr

/-- The restarting phase (R179): not restarting, the formed reply waits, its frame is on the lane, the capture reset is
due. -/
inductive RestartPhase where
  | off
  | replyDue (r : Reply)
  | replyGoing
  | resetDue
  deriving DecidableEq, Repr

/-- The link controller (chapter 11). -/
structure Link where
  receiver : Receiver
  cmdQueue : List Command
  replyQueue : List ReplyEntry
  deferred : List Deferred
  /-- Enable flags, CAPTURE at bit 7 down to LINK at bit 0 (R171, R181). -/
  enabled : BitVec 8
  /-- Pending flags, in the same order. -/
  raised : BitVec 8
  counters : Counters
  /-- The counters' change since the last LINK notice was sent (R172). -/
  changes : Counters
  schedule : Vector Source 16
  position : Fin 16
  lane : Option LaneFrame
  restart : RestartPhase
  /-- The HOLD line: true while the host asserts it (R174). -/
  hold : Bool
  deriving DecidableEq, Repr

/-! ## The machine -/

/-- The whole part. -/
structure State where
  /-- Commands waiting to be taken, first in, first out. -/
  pending : List Instr
  /-- Sample instants since the last full reset (log entry 8). -/
  ticks : Nat
  cap : Capture
  chans : Vector Channel 24
  store : Store
  stream : Stream
  marks : Markers
  floor : Floor
  trim : TrimUnit
  time : Timebase
  feed : Feed
  link : Link
  deriving DecidableEq, Repr

/-- What stops the part: nothing does (every error the spec names is an effect on state), so no meaning raises a fault
and the type has no constructor. -/
inductive Fault where
  deriving DecidableEq, Repr

/-- What the model refuses. -/
inductive Refusal where
  /-- Raised by an arm of `exec` whose row has no meaning yet; safe, since a run stops there. -/
  | notModelled (mnemonic : String)
  deriving DecidableEq, Repr

/-! ## Full reset -/

/-- The full-reset settings of a channel (1.7). -/
def Settings.reset : Settings :=
  ⟨true, 4096, .normal, false, true, false, 30, 26, 25⟩

/-- No field pending (R10). -/
def PendingSettings.empty : PendingSettings :=
  ⟨none, none, none, none, none, none, none, none, none⟩

/-- A channel after a full reset (R23, R45, R89, R107, R140). -/
def Channel.reset : Channel where
  settings := Settings.reset
  pendingSettings := PendingSettings.empty
  route := .mic
  pendingRoute := none
  block := none
  lastLevel := 0
  seqCount := 0
  lastSeq := none
  gapTally := 0
  filling := none
  starvation := 0
  starved := false
  newlyStarved := false
  chain := 0xFFFFFFFF#32
  activity := .quiet
  hangCounter := 0
  mismatch := 0
  handover := false
  noSpare := false

/-- A converter after a full reset (R118). -/
def Converter.reset : Converter := ⟨.untrimmed, 0, none, 0, 0#24, false⟩

/-- The seven counters at 0 (R172). -/
def Counters.zero : Counters := ⟨0, 0, 0, 0, 0, 0, 0⟩

/-- The full-reset schedule (R173). -/
def Link.resetSchedule : Vector Source 16 :=
  #v[.r, .b, .b, .n, .b, .b, .r, .b, .b, .b, .r, .b, .b, .n, .b, .b]

/-- The part right after a full reset: every block at its full-reset values, the start-up trim of CV0 begun. The values the
spec does not give, the sample of the feed frame in progress and the stopped missing-pulse timer among them, are those of
log entry 27. -/
def State.reset : State where
  pending := []
  ticks := 0
  cap := {
    state := .standby, number := 0, period := 0, instant := 0, closeRequest := false
    proceeding := .standby, pendingProceeding := none
    stamp := ⟨0, 0, .unset, false⟩
    pages := Vector.replicate 4 (Vector.replicate 320 0#16)
    nextRequest := 0, changes := [], changesUnlisted := 0, notice := none }
  chans := Vector.replicate 24 Channel.reset
  store := {
    free := Config.storeSlots, posted := [], sending := none, custody := [], lastCustody := 0
    shed := 4096, keep := 1024, reclaim := false, reclaimCount := 0, reclaimList := [], notListed := 0 }
  stream := ⟨false, 1, 40, 0⟩
  marks := {
    slots := Vector.replicate 8 none, sequence := 0, refusals := 0, takings := [], unlisted := 0
    chain := 0xFFFFFFFF#32 }
  floor := {
    holder := none, challenger := none, margin := 6, takeover := 5, log := [], overrun := 0, lastDecision := none }
  trim := {
    convs := (Vector.replicate 26 Converter.reset).set 0 { Converter.reset with state := .trimming }
    map := Vector.ofFn fun c => c.castLE (by decide)
    mapBuilt := false
    engine := some ⟨0, .long, Config.longTrim, 0⟩
    trimClock := 0, rotation := .idle, named := none, shadow := none, matchSum := 0, timer := 0
    interval := 600, limit := 2048, events := [], unlisted := 0 }
  time := {
    discipline := .free, day := 0, instant := 0, isSet := false, freqTrim := 0, good := 0, lockHistory := false
    refMark := none, missingTimer := 0, holdoverTimer := 0, held := none, afterCr := false, lastPulse := none
    stepMark := false, malformed := 0, unnamed := 0, offWindow := 0, steps := 0, events := [], unlisted := 0 }
  feed := ⟨4096, some 4, 0xACE1#16, 0, 0#16, 0#16⟩
  link := {
    receiver := .hunting, cmdQueue := [], replyQueue := [], deferred := [], enabled := 0xFF#8, raised := 0#8
    counters := Counters.zero, changes := Counters.zero, schedule := Link.resetSchedule, position := 15
    lane := none, restart := .off, hold := false }

end Sys2Proof.Machine
end

