-- ==== Sys2Proof/Machine/Codec.lean ====
section
/-! DEFINITION. Byte order, the code tables, the two checks, and the layouts of frames and records (R83 to R85, R163,
R164, R181, R184, R185). -/

namespace Sys2Proof.Machine

/-! ## Field encoding (R181) -/

/-- `k` bytes of a number, high byte first. -/
def be : Nat → Nat → List Byte
  | 0, _ => []
  | k + 1, n => BitVec.ofNat 8 (n / 256 ^ k) :: be k n

/-- `k` bytes of a signed number, two's complement, high byte first. -/
def beInt (k : Nat) (i : Int) : List Byte := be k (i % (256 ^ k : Nat)).toNat

/-- A number from its bytes, high byte first. -/
def ofBytes (bs : List Byte) : Nat := bs.foldl (fun n b => n * 256 + b.toNat) 0

/-- An on-or-off field. -/
def onOff (b : Bool) : List Byte := [if b then 0x01#8 else 0x00#8]

/-- An optional field: a presence byte, and the value when present. -/
def optional {α : Type} (enc : α → List Byte) : Option α → List Byte
  | none => [0x00#8]
  | some a => 0x01#8 :: enc a

/-- A list: a count byte, then the entries. -/
def counted {α : Type} (enc : α → List Byte) (l : List α) : List Byte :=
  be 1 l.length ++ l.flatMap enc

/-- The value of a set: member n is bit n. -/
def setValue (members : List Nat) : Nat := members.foldl (fun v n => v ||| 2 ^ n) 0

/-- A set of channels in 3 bytes. -/
def chanSet (p : Chan → Bool) : List Byte :=
  be 3 (setValue ((List.finRange 24).filter p |>.map Fin.val))

/-- A channel that may be absent or none: 255 when it is. -/
def chanOr255 (c : Option Chan) : List Byte := be 1 (c.elim 255 Fin.val)

/-- A converter that may be absent: 255 when it is. -/
def convOr255 (c : Option Conv) : List Byte := be 1 (c.elim 255 Fin.val)

/-! ## Code tables (12.1, 12.2) -/

def Tag.code : Tag → Nat
  | .recess => 0 | .session => 1 | .restricted => 2

def TimeQuality.code : TimeQuality → Nat
  | .unset => 0 | .free => 1 | .holdover => 2 | .locked => 3

def Discipline.code : Discipline → Nat
  | .free => 0 | .acquiring => 1 | .locked => 2 | .holdover => 3

def Activity.code : Activity → Nat
  | .quiet => 0 | .active => 1 | .hanging => 2

def Proceeding.code : Proceeding → Nat
  | .standby => 0 | .recess => 1 | .session => 2 | .sidebar => 3 | .inCamera => 4

def CaptureState.code : CaptureState → Nat
  | .standby => 0 | .capturing => 1

def Class.code : Class → Nat
  | .keep => 0 | .normal => 1 | .shed => 2

def Route.code : Route → Nat
  | .page p => p.val | .mic => 255

def MarkerKind.code : MarkerKind → Nat
  | .exhibit => 1 | .oath => 2 | .objection => 3 | .ruling => 4 | .speaker => 5 | .note => 6

def LevelState.code : LevelState → Nat
  | .normal => 0 | .shedding => 1 | .keepOnly => 2 | .exhausted => 3

def ConvState.code : ConvState → Nat
  | .untrimmed => 0 | .trimming => 1 | .spare => 2 | .shadow => 3 | .serving => 4 | .faulted => 5

def TrimKind.code : TrimKind → Nat
  | .long => 1 | .short => 2

def RotationState.code : RotationState → Nat
  | .idle => 0 | .due => 1 | .shadowing => 2

def Source.code : Source → Nat
  | .r => 0x52 | .n => 0x4E | .b => 0x42

def EndReason.code : EndReason → Nat
  | .closed => 1 | .limit => 2

def ChangeCause.code : ChangeCause → Nat
  | .opened => 1 | .command => 2 | .closed => 3 | .limit => 4

def FloorCause.code : FloorCause → Nat
  | .opened => 1 | .handoff => 2 | .takeover => 3 | .lapse => 4

def ConverterEvent.code : ConverterEvent → Nat
  | .faulted => 1 | .handover => 2 | .noSpare => 0x0B

def ConverterCause.code : ConverterCause → Nat
  | .none => 0 | .trim => 1 | .stuck => 2 | .mismatch => 3 | .rotation => 4 | .unmatched => 5 | .replacement => 6

def TimeEvent.code : TimeEvent → Nat
  | .state => 1 | .step => 2

def TimeCause.code : TimeCause → Nat
  | .pulse => 1 | .missing => 2 | .limit => 3 | .lock => 4 | .offset => 5 | .set => 6

def NoticeKind.code : NoticeKind → Nat
  | .capture => 1 | .store => 2 | .converter => 3 | .time => 4 | .proceeding => 5 | .marker => 6 | .floor => 7
  | .link => 8

def Result.code : Result → Nat
  | .ok => 0 | .accepted => 1 | .superseded => 2 | .busy => 3 | .state => 4 | .range => 5 | .badLength => 6
  | .unknown => 7 | .notReady => 8 | .full => 9 | .notHeld => 10 | .noSpare => 11

/-- Code of the masking shift: FFh for off. -/
def maskingCode (k : Option Nat) : Nat := k.getD 255

/-! ## Reading codes: `none` where the byte codes no value of the field -/

def readOnOff : Nat → Option Bool
  | 0 => some false | 1 => some true | _ => none

def readClass : Nat → Option Class
  | 0 => some .keep | 1 => some .normal | 2 => some .shed | _ => none

def readRoute (n : Nat) : Option Route :=
  if h : n < 4 then some (.page ⟨n, h⟩) else if n = 255 then some .mic else none

/-- A requested proceeding: STANDBY cannot be requested (R66). -/
def readRequested : Nat → Option Proceeding
  | 1 => some .recess | 2 => some .session | 3 => some .sidebar | 4 => some .inCamera | _ => none

def readMarkerKind : Nat → Option MarkerKind
  | 1 => some .exhibit | 2 => some .oath | 3 => some .objection | 4 => some .ruling | 5 => some .speaker
  | 6 => some .note | _ => none

def readSource (n : Nat) : Option Source :=
  if n = 0x52 then some .r else if n = 0x4E then some .n else if n = 0x42 then some .b else none

/-- A masking shift: 0..15, or off. -/
def readMasking (n : Nat) : Option (Option Nat) :=
  if n < 16 then some (some n) else if n = 255 then some none else none

/-- A channel number, or none of the 24. -/
def readChan (n : Nat) : Option Chan := if h : n < 24 then some ⟨n, h⟩ else none

/-- A converter number, or none of the 26. -/
def readConv (n : Nat) : Option Conv := if h : n < 26 then some ⟨n, h⟩ else none

/-! ## The CRC-32 of the chain (R83) -/

/-- One shift of the chain register. -/
def crc32Shift (r : BitVec 32) : BitVec 32 :=
  if r.msb then (r <<< 1) ^^^ 0x04C11DB7#32 else r <<< 1

/-- Takes one byte into the top eight bits, then shifts eight times. -/
def crc32Byte (r : BitVec 32) (b : Byte) : BitVec 32 :=
  let r := r ^^^ (b.zeroExtend 32 <<< 24)
  crc32Shift (crc32Shift (crc32Shift (crc32Shift (crc32Shift (crc32Shift (crc32Shift (crc32Shift r)))))))

/-- The chain check of the covered bytes from a chain value. -/
def crc32 (start : BitVec 32) (bs : List Byte) : BitVec 32 := bs.foldl crc32Byte start

/-! ## The CRC-8 of a frame (R164) -/

/-- One shift of the frame register. -/
def crc8Shift (r : BitVec 8) : BitVec 8 :=
  if r.msb then (r <<< 1) ^^^ 0x07#8 else r <<< 1

/-- Takes one byte, then shifts eight times. -/
def crc8Byte (r : BitVec 8) (b : Byte) : BitVec 8 :=
  let r := r ^^^ b
  crc8Shift (crc8Shift (crc8Shift (crc8Shift (crc8Shift (crc8Shift (crc8Shift (crc8Shift r)))))))

/-- The check of a frame's covered bytes. -/
def crc8 (bs : List Byte) : BitVec 8 := bs.foldl crc8Byte 0#8

/-! ## Frames (R163) -/

/-- The bytes the frame check covers: kind, tag, length, payload. -/
def frameCovered (kind tag : Byte) (payload : List Byte) : List Byte :=
  kind :: tag :: (be 2 payload.length ++ payload)

/-- A whole frame. -/
def frameBytes (kind tag : Byte) (payload : List Byte) : List Byte :=
  0xC5#8 :: (frameCovered kind tag payload ++ [crc8 (frameCovered kind tag payload)])

/-- A REPLY frame's payload: command code, result code, data (R183). -/
def Reply.payload (r : Reply) : List Byte :=
  r.code :: BitVec.ofNat 8 r.result.code :: r.data

/-! ## Records (R184, R185) -/

/-- Byte 28 of an audio record. -/
def RecordFlags.code (f : RecordFlags) : Nat :=
  f.pattern.toNat + 2 * f.handover.toNat + 4 * f.convFault.toNat + 8 * f.stepped.toNat

/-- The two bytes of a sample. -/
def sampleBytes (s : Sample) : List Byte := be 2 s.toNat

/-- Bytes 8 to 38 of an audio record: sequence to clipped count. -/
def AudioRecord.middle (r : AudioRecord) : List Byte :=
  be 4 r.sequence ++ be 4 r.period ++ be 4 r.gap ++ be 2 r.day ++ be 4 r.instant ++ be 1 r.quality.code
    ++ be 1 r.tag.code ++ be 1 r.flags.code ++ be 1 r.converter.val ++ be 2 r.gain ++ be 1 r.level
    ++ be 1 r.activity.code ++ chanOr255 r.holder ++ be 2 r.peak ++ be 2 r.clipped

/-- Bytes 0 to 3 of an audio record: kind AUDIO, channel, capture number. -/
def AudioRecord.lead (r : AudioRecord) : List Byte := 0x01#8 :: (be 1 r.channel.val ++ be 2 r.capture)

/-- The 683 bytes of an audio record. -/
def AudioRecord.bytes (r : AudioRecord) : List Byte :=
  r.lead ++ be 4 r.custody ++ r.middle ++ be 4 r.check.toNat ++ r.samples.flatMap sampleBytes

/-- The 675 bytes its chain check covers (R84). -/
def AudioRecord.covered (r : AudioRecord) : List Byte :=
  r.lead ++ r.middle ++ r.samples.flatMap sampleBytes

/-- One entry of a marker record. -/
def markerEntry (e : Fin 8 × Marker) : List Byte :=
  be 1 e.1.val ++ be 1 e.2.kind.code ++ chanOr255 e.2.channel ++ be 1 e.2.text.length ++ e.2.text

/-- Bytes 0 to 3 of a marker record: kind MARKER, channel 255, capture number. -/
def MarkerRecord.lead (r : MarkerRecord) : List Byte := 0x02#8 :: 0xFF#8 :: be 2 r.capture

/-- Sequence to the last entry of a marker record; its gap count is 0. -/
def MarkerRecord.middle (r : MarkerRecord) : List Byte :=
  be 4 r.sequence ++ be 4 r.period ++ be 4 0 ++ be 2 r.day ++ be 4 r.instant ++ be 1 r.quality.code
    ++ be 1 r.tag.code ++ counted markerEntry r.entries

/-- The bytes of a marker record. -/
def MarkerRecord.bytes (r : MarkerRecord) : List Byte :=
  r.lead ++ be 4 r.custody ++ r.middle ++ be 4 r.check.toNat

/-- The bytes its chain check covers (R85). -/
def MarkerRecord.covered (r : MarkerRecord) : List Byte := r.lead ++ r.middle

/-- The bytes of a record. -/
def Record.bytes : Record → List Byte
  | .audio r => r.bytes
  | .marker r => r.bytes

/-- A record's custody number (R30). -/
def Record.custody : Record → Nat
  | .audio r => r.custody
  | .marker r => r.custody

/-- A BLOCK frame's payload: the delivery byte, FIRST 01h or REREAD 02h, and the record. -/
def blockPayload (delivery : Byte) (r : Record) : List Byte := delivery :: r.bytes

end Sys2Proof.Machine
end

