-- ==== Sys2Proof/Machine/Operands.lean ====
section
/-! DEFINITION. How operands are read and values formed: the parameters of a command frame (R181, R182), the arithmetic
from converter sample to level code (R19 to R21), the feed arithmetic (R155 to R159), trim results (R121), court time
(R141, R145). -/

namespace Sys2Proof.Machine

/-! ## Parameters of a command frame -/

/-- Byte `i` of the payload; byte 0 is the command code. -/
def Command.byte (f : Command) (i : Nat) : Nat := (f.payload.getD i 0#8).toNat

/-- The number held in `k` bytes of the payload from byte `i` on, high byte first. -/
def Command.num (f : Command) (i k : Nat) : Nat := ofBytes ((f.payload.drop i).take k)

/-- The command code in a reply: the code byte as received, FFh when the payload is empty (R182, R183). -/
def Command.code (f : Command) : Byte := f.payload.headD 0xFF#8

/-- Whether channel `c` is in the set held in bytes 1 to 3 (R181). -/
def Command.selects (f : Command) (c : Chan) : Bool := (f.num 1 3).testBit c.val

/-- Pattern sample `j` of a LOAD_PATTERN (R182). -/
def Command.sample (f : Command) (j : Nat) : Sample := BitVec.ofNat 16 (f.num (2 + 2 * j) 2)

/-! ## Saturation and counting -/

/-- A saturating count one higher. -/
def satInc (max n : Nat) : Nat := if n < max then n + 1 else n

/-- A wrapping 32-bit count one higher. -/
def wrapInc (n : Nat) : Nat := (n + 1) % Config.wrap32

/-- A value narrowed to a range. -/
def clamp (lo hi x : Int) : Int := if hi < x then hi else if x < lo then lo else x

/-! ## From converter sample to record sample (R19, R20) -/

/-- A raw sample less the trim offset, saturated to 24 bits (R19). -/
def corrected (r : Raw) (offset : Int) : Int := clamp (-8388608) 8388607 (r.toInt - offset)

/-- A pattern sample in converter units (R19). -/
def patternInput (s : Sample) : Int := s.toInt * 256

/-- The scaled value y of R20, before narrowing. -/
def scaled (x0 : Int) (gain : Nat) : Int := (x0 * gain + 524288) / 1048576

/-- Whether narrowing to 16 bits changes a value. -/
def clips (y : Int) : Bool := decide (32767 < y) || decide (y < -32768)

/-- A value narrowed to 16 bits. -/
def narrow (y : Int) : Sample := BitVec.ofInt 16 (clamp (-32768) 32767 y)

/-! ## Block results (R21) -/

/-- A running block at sample instant 0. -/
def RunningBlock.start : RunningBlock := ⟨0, 0, 0⟩

/-- A running block after one sample: `s` the record sample, `clip` whether it was saturated. -/
def RunningBlock.add (b : RunningBlock) (s : Sample) (clip : Bool) : RunningBlock :=
  ⟨b.energy + s.toInt.natAbs * s.toInt.natAbs, max b.peak s.toInt.natAbs, b.clipped + clip.toNat⟩

/-- The level code of a block's energy (R21). -/
def levelCode (energy : Nat) : Nat :=
  let q := energy / 320
  if q = 0 then 0
  else
    let b := Nat.log2 q
    let h := if 1 ≤ b ∧ 2 ^ (b - 1) ≤ q - 2 ^ b then 1 else 0
    2 * b + h + 1

/-! ## Feed arithmetic (R156, R158, R159) -/

/-- The feed sum scaled by the multiplier, before narrowing (R156). -/
def feedScaled (sum : Int) (multiplier : Nat) : Int := (sum * multiplier + 2048) / 4096

/-- The noise value shifted right by `k` places (R159). -/
def noiseShifted (noise : BitVec 16) (k : Nat) : Int := noise.toInt / 2 ^ k

/-- One advance of the noise register (R158). -/
def noiseNext (r : BitVec 16) : BitVec 16 :=
  if r.getLsbD 0 then (r >>> 1) ^^^ 0xB400#16 else r >>> 1

/-! ## Trims (R120, R121) -/

/-- The sample instants of a trim (R120). -/
def TrimKind.length : TrimKind → Nat
  | .long => Config.longTrim
  | .short => Config.shortTrim

/-- The result of a trim: the mean of its samples, halves rounded upward (R121). -/
def trimResult (kind : TrimKind) (sum : Int) : Int := (sum + (kind.length / 2 : Nat)) / kind.length

/-! ## Court time (R141, R145) -/

/-- A count of sample instants since day 0, instant 0. -/
def absTime (day instant : Nat) : Nat := day * Config.dayLength + instant

/-- The span of court time: 65,536 days. -/
def courtSpan : Nat := Config.dayCount * Config.dayLength

/-- The day and the instant one sample instant later (R141). -/
def nextInstant (day instant : Nat) : Nat × Nat :=
  if instant + 1 < Config.dayLength then (day, instant + 1)
  else ((day + 1) % Config.dayCount, 0)

/-- The offset of a reference against a local time: their difference modulo 65,536 days, read as a signed value of at
most half that span (R145); the sign at exactly half is the free value of log entry 12. -/
def courtOffset (reference loc : Nat) : Int :=
  let m := ((reference : Int) - loc) % courtSpan
  if 2 * m < courtSpan then m
  else if 2 * m = courtSpan then (if Config.halfSpanPositive then m else m - courtSpan)
  else m - courtSpan

end Sys2Proof.Machine
end

