-- ==== Sys2Proof/Machine/Flags.lean ====
section
/-! DEFINITION. States computed from other state: record tags (R74, R75), the level state (R37), the time quality (R149),
the activity evaluation (R92), the notice flags (R171, R181), pending settings over settings in force (R7, R15). -/

namespace Sys2Proof.Machine

/-- SESSION, SIDEBAR and IN_CAMERA are the record states (4.1). -/
def Proceeding.isRecord : Proceeding → Bool
  | .session | .sidebar | .inCamera => true
  | .standby | .recess => false

/-- The tag of an audio record (R74); STANDBY makes no record. -/
def audioTag (p : Proceeding) (bench : Bool) : Tag :=
  match p, bench with
  | .standby, _ | .recess, _ => .recess
  | .session, _ => .session
  | .sidebar, true => .restricted
  | .sidebar, false => .session
  | .inCamera, _ => .restricted

/-- The tag of a marker record (R75); STANDBY makes no record. -/
def markerTag : Proceeding → Tag
  | .standby | .recess => .recess
  | .session | .sidebar => .session
  | .inCamera => .restricted

/-- Whether a SET_PROCEEDING from `f` to another state `r` is allowed (R67). -/
def transitionAllowed (f r : Proceeding) : Bool :=
  match f, r with
  | .recess, .session | .recess, .inCamera => true
  | .session, .recess | .session, .sidebar | .session, .inCamera => true
  | .sidebar, .recess | .sidebar, .session => true
  | .inCamera, .recess | .inCamera, .session => true
  | _, _ => false

/-- The level state of a free count under two levels (R37). -/
def levelOf (free shed keep : Nat) : LevelState :=
  if shed < free then .normal
  else if keep < free then .shedding
  else if 0 < free then .keepOnly
  else .exhausted

/-- The level state of the store (R37). -/
def Store.level (st : Store) : LevelState := levelOf st.free st.shed st.keep

/-- The time quality (R149); see log entry 32 for the combinations the table does not list. -/
def Timebase.quality (t : Timebase) : TimeQuality :=
  if t.isSet then
    match t.discipline with
    | .locked => .locked
    | .holdover => .holdover
    | .acquiring => if t.lockHistory then .holdover else .free
    | .free => .free
  else .unset

/-- The activity state and the hang counter after a block of level code `code` (R92). -/
def activityNext (st : Settings) (a : Activity) (counter code : Nat) : Activity × Nat :=
  match a with
  | .quiet => if st.openCode ≤ code then (.active, 0) else (.quiet, 0)
  | .active =>
    if st.closeCode ≤ code then (.active, 0)
    else if st.hang = 0 then (.quiet, 0)
    else (.hanging, st.hang)
  | .hanging =>
    if st.closeCode ≤ code then (.active, 0)
    else if 1 < counter then (.hanging, counter - 1)
    else (.quiet, 0)

/-- Settings with the pending fields over them (R7, R15). -/
def Settings.over (s : Settings) (p : PendingSettings) : Settings where
  enable := p.enable.getD s.enable
  gain := p.gain.getD s.gain
  cls := p.cls.getD s.cls
  bench := p.bench.getD s.bench
  floorEligible := p.floorEligible.getD s.floorEligible
  feedInclude := p.feedInclude.getD s.feedInclude
  openCode := p.openCode.getD s.openCode
  closeCode := p.closeCode.getD s.closeCode
  hang := p.hang.getD s.hang

/-- Pending fields with newly selected ones over them (R10). -/
def PendingSettings.merge (old new : PendingSettings) : PendingSettings where
  enable := new.enable <|> old.enable
  gain := new.gain <|> old.gain
  cls := new.cls <|> old.cls
  bench := new.bench <|> old.bench
  floorEligible := new.floorEligible <|> old.floorEligible
  feedInclude := new.feedInclude <|> old.feedInclude
  openCode := new.openCode <|> old.openCode
  closeCode := new.closeCode <|> old.closeCode
  hang := new.hang <|> old.hang

/-- The field-select mask of pending settings (R182). -/
def PendingSettings.mask (p : PendingSettings) : Nat :=
  p.enable.isSome.toNat + 2 * p.gain.isSome.toNat + 4 * p.cls.isSome.toNat + 8 * p.bench.isSome.toNat
    + 16 * p.floorEligible.isSome.toNat + 32 * p.feedInclude.isSome.toNat + 64 * p.openCode.isSome.toNat
    + 128 * p.closeCode.isSome.toNat + 256 * p.hang.isSome.toNat

/-- Bit of a notice kind in the byte of flags: CAPTURE at bit 7 down to LINK at bit 0 (R181). -/
def NoticeKind.bit (k : NoticeKind) : Nat := 8 - k.code

/-- The byte with one kind's flag set. -/
def NoticeKind.flag (k : NoticeKind) : BitVec 8 := BitVec.twoPow 8 k.bit

/-- The kinds, highest sending priority first (R171). -/
def noticeKinds : List NoticeKind := [.capture, .store, .converter, .time, .proceeding, .marker, .floor, .link]

/-- Whether a kind's flag is set in a byte of flags. -/
def flagSet (flags : BitVec 8) (k : NoticeKind) : Bool := flags.getLsbD k.bit

/-- The highest-priority kind both pending and enabled, if there is one (R171). -/
def Link.nextNotice (l : Link) : Option NoticeKind :=
  noticeKinds.find? fun k => flagSet l.raised k && flagSet l.enabled k

end Sys2Proof.Machine
end

