-- ==== Sys2Proof/Machine/Ops.lean ====
section
/-! DEFINITION. The shared operations: reading and changing one channel or converter, raising notices and their lists,
replies and deferred replies, running the head of the command queue, and the slots of the block store. -/

namespace Sys2Proof.Machine

/-! ## Channels and converters -/

/-- Channel `c`. -/
def State.chan (s : State) (c : Chan) : Channel := s.chans.get c

/-- Changes channel `c` alone. -/
def State.modChan (s : State) (c : Chan) (f : Channel → Channel) : State :=
  { s with chans := s.chans.set c (f (s.chan c)) }

/-- Changes every channel. -/
def State.mapChans (s : State) (f : Chan → Channel → Channel) : State :=
  { s with chans := Vector.ofFn fun c => f c (s.chan c) }

/-- The channels in ascending order. -/
def allChans : List Chan := List.finRange 24

/-- The converters in ascending order. -/
def allConvs : List Conv := List.finRange 26

/-- Converter `v`. -/
def State.conv (s : State) (v : Conv) : Converter := s.trim.convs.get v

/-- Changes converter `v` alone. -/
def State.modConv (s : State) (v : Conv) (f : Converter → Converter) : State :=
  { s with trim := { s.trim with convs := s.trim.convs.set v (f (s.conv v)) } }

/-- Changes every converter. -/
def State.mapConvs (s : State) (f : Conv → Converter → Converter) : State :=
  { s with trim := { s.trim with convs := Vector.ofFn fun v => f v (s.conv v) } }

/-- The converter the map names for channel `c` (R124). -/
def State.convOf (s : State) (c : Chan) : Conv := s.trim.map.get c

/-- The converter serving channel `c`; absent before the map is built (R122, R124). -/
def State.servingConv (s : State) (c : Chan) : Option Conv := if s.trim.mapBuilt then some (s.convOf c) else none

/-- The channel a converter is assigned to, once the map is built (R118). -/
def State.channelOf (s : State) (v : Conv) : Option Chan :=
  if s.trim.mapBuilt then allChans.find? fun c => s.convOf c == v else none

/-- Whether a capture runs (R1). -/
def State.capturing (s : State) : Bool := s.cap.state == .capturing

/-! ## Notices (R171, R172) -/

/-- Sets the pending flag of a notice kind, enabled or not (R171). -/
def State.raise (s : State) (k : NoticeKind) : State :=
  { s with link := { s.link with raised := s.link.raised ||| k.flag } }

/-- A bounded list and its unlisted count after an entry: a full list loses its oldest (R78, R115, R134, R152). -/
def pushListed {α : Type} (l : List α) (unlisted : Nat) (x : α) : List α × Nat :=
  if l.length < Config.noticeListMax then (l ++ [x], unlisted)
  else (l.drop 1 ++ [x], satInc 255 unlisted)

/-- Adds an entry to the PROCEEDING change list and raises PROCEEDING (R78). -/
def State.addChange (s : State) (e : ProceedingChange) : State :=
  let l := pushListed s.cap.changes s.cap.changesUnlisted e
  { s with cap := { s.cap with changes := l.1, changesUnlisted := l.2 } }.raise .proceeding

/-- Adds an entry to the CONVERTER event list and raises CONVERTER (R134). -/
def State.addConverter (s : State) (e : ConverterEntry) : State :=
  let l := pushListed s.trim.events s.trim.unlisted e
  { s with trim := { s.trim with events := l.1, unlisted := l.2 } }.raise .converter

/-- Adds an entry to the TIME event list and raises TIME (R152). -/
def State.addTime (s : State) (e : TimeEntry) : State :=
  let l := pushListed s.time.events s.time.unlisted e
  { s with time := { s.time with events := l.1, unlisted := l.2 } }.raise .time

/-- Adds a taking to the MARKER taking list and raises MARKER (R115). -/
def State.addTaking (s : State) (e : Taking) : State :=
  let l := pushListed s.marks.takings s.marks.unlisted e
  { s with marks := { s.marks with takings := l.1, unlisted := l.2 } }.raise .marker

/-- Writes a floor record to the floor log and raises FLOOR (R102, R103). -/
def State.addFloor (s : State) (e : FloorRecord) : State :=
  (if s.floor.log.length < Config.floorLogMax then
    { s with floor := { s.floor with log := s.floor.log ++ [e] } }
  else
    { s with floor := { s.floor with log := s.floor.log.drop 1 ++ [e], overrun := satInc 255 s.floor.overrun } }).raise
    .floor

/-- The value of one counter. -/
def Counters.get (k : Counters) : CounterName → Nat
  | .stray => k.stray | .check => k.check | .oversize => k.oversize | .gap => k.gap | .line => k.line
  | .busy => k.busy | .replyLost => k.replyLost

/-- The counters with one of them set. -/
def Counters.put (k : Counters) (n : Nat) : CounterName → Counters
  | .stray => { k with stray := n } | .check => { k with check := n } | .oversize => { k with oversize := n }
  | .gap => { k with gap := n } | .line => { k with line := n } | .busy => { k with busy := n }
  | .replyLost => { k with replyLost := n }

/-- A rise of a counter, which raises LINK unless the counter stands at 65,535 (R172). -/
def State.count (s : State) (c : CounterName) : State :=
  if s.link.counters.get c < 65535 then
    { s with link := { s.link with
        counters := s.link.counters.put (s.link.counters.get c + 1) c
        changes := s.link.changes.put (satInc 65535 (s.link.changes.get c)) c } }.raise .link
  else s

/-! ## Replies (R168 to R170) -/

/-- Places an entry at the tail of the reply queue (R169). -/
def State.enqueue (s : State) (e : ReplyEntry) : State :=
  { s with link := { s.link with replyQueue := s.link.replyQueue ++ [e] } }

/-- Places a command's reply at the tail of the reply queue, with its tag and code (R168, R183). -/
def State.reply (s : State) (f : Command) (r : Result) (data : List Byte := []) : State :=
  s.enqueue (.reply ⟨f.tag, f.code, r, data⟩)

/-- The answer of a deferred entry (R170). -/
def Deferred.reply (e : Deferred) (r : Result) (data : List Byte := []) : Reply := ⟨e.tag, e.code, r, data⟩

/-- Whether an entry is WAITING (R170). -/
def Deferred.waiting (e : Deferred) : Bool := e.answer.isNone

/-- Answers a taken boundary-effective command: deferred with the option while the table has a free entry, ACCEPTED at
once otherwise (R11, R170). -/
def State.answerTaken (s : State) (f : Command) (option : Bool) (req : Request) (data : List Byte := []) : State :=
  if option ∧ s.link.deferred.length < Config.deferredMax then
    { s with link := { s.link with deferred := s.link.deferred ++ [⟨f.tag, f.code, req, none⟩] } }
  else s.reply f .accepted data

/-- Answers the WAITING entries picked by `p` SUPERSEDED during a command's execution: the answers go to the reply queue
in the order in which the requests were taken, and the entries leave the table (R69, R170). -/
def State.supersede (s : State) (p : Deferred → Bool) (data : Deferred → List Byte) : State :=
  { s with link := { s.link with
      replyQueue := s.link.replyQueue
        ++ (s.link.deferred.filter fun e => e.waiting && p e).map fun e => .reply (e.reply .superseded (data e))
      deferred := s.link.deferred.filter fun e => !(e.waiting && p e) } }

/-- Answers WAITING entries at a boundary: an entry `answer` gives an answer to becomes ANSWERED with it (R170). -/
def State.answerAtBoundary (s : State) (answer : Deferred → Option Reply) : State :=
  { s with link := { s.link with
      deferred := s.link.deferred.map fun e => if e.waiting then { e with answer := answer e } else e } }

/-- The reply data of SET_PROCEEDING as they stand now (4.2). -/
def State.proceedingData (s : State) (requested : Proceeding) : List Byte :=
  be 1 requested.code ++ be 1 s.cap.proceeding.code ++ optional (fun p => be 1 p.code) s.cap.pendingProceeding
    ++ be 4 s.cap.period

/-! ## The command engine (R168) -/

/-- The command engine executes nothing while restarting (R179) and while an ANSWERED entry waits (R168). -/
def State.engineFree (s : State) : Bool :=
  s.link.restart == .off && s.link.deferred.all Deferred.waiting

/-- The reply queue has room for `n` more entries (R168). -/
def State.room (s : State) (n : Nat) : Bool := decide (s.link.replyQueue.length + n ≤ Config.replyQueueMax)

/-- The state once the head of the command queue has left it (R168). -/
def State.popCommand (s : State) : State :=
  { s with link := { s.link with cmdQueue := s.link.cmdQueue.tail } }

/-- Executes the head of the command queue if its code is `code` and it may execute: BAD_LENGTH when its payload does not
fit, else `body`. Otherwise the head waits and nothing changes (R168, R182). -/
def runCommand (code : Byte) (need : Command → State → Nat) (fits : Command → Bool) (body : Command → State → State)
    (s : State) : State :=
  match s.link.cmdQueue with
  | [] => s
  | f :: _ =>
    if f.payload.head? = some code ∧ s.engineFree ∧ s.room (need f s) then
      if fits f then body f s.popCommand else s.popCommand.reply f .badLength
    else s

/-- One reply-queue entry: the command's own reply. -/
def ownReply (_ : Command) (_ : State) : Nat := 1

/-- A fixed payload length, code included (R182). -/
def lengthIs (n : Nat) (f : Command) : Bool := f.payload.length == n

/-! ## The block store -/

/-- Forms the free count again; a change of level state raises STORE (R37, R40). -/
def State.setFree (s : State) (n : Nat) : State :=
  let s' := { s with store := { s.store with free := n } }
  if s'.store.level = s.store.level then s' else s'.raise .store

/-- Whether reclaim may take a slot (R35). -/
def HeldSlot.eligible (h : HeldSlot) : Bool := h.pins == 0 && !h.releasePending

/-- The oldest eligible slot of a custody list, and the list without it (R35). -/
def takeEligible : List HeldSlot → Option (HeldSlot × List HeldSlot)
  | [] => none
  | h :: rest =>
    if h.eligible then some (h, rest)
    else (takeEligible rest).map fun p => (p.1, h :: p.2)

/-- A request decided by reclaim: the state with the slot taken out of custody, or none when it is refused (R35). -/
def State.reclaimSlot (s : State) : Option State :=
  if s.store.reclaim then
    (takeEligible s.store.custody).map fun p =>
      { s with store := { s.store with
          custody := p.2
          reclaimCount := satInc 4294967295 s.store.reclaimCount
          reclaimList := if s.store.reclaimList.length < Config.reclaimListMax
            then s.store.reclaimList ++ [p.1.record.custody] else s.store.reclaimList
          notListed := if s.store.reclaimList.length < Config.reclaimListMax
            then s.store.notListed else satInc 65535 s.store.notListed } }.raise .store
  else none

/-- A slot request of a class: the state with one slot less FREE or in custody, or none when it is refused (R33). -/
def State.slotRequest (s : State) (c : Class) : Option State :=
  match c with
  | .shed => if s.store.shed < s.store.free then some (s.setFree (s.store.free - 1)) else none
  | .normal => if s.store.keep < s.store.free then some (s.setFree (s.store.free - 1)) else none
  | .keep => if 0 < s.store.free then some (s.setFree (s.store.free - 1)) else s.reclaimSlot

/-- The custody number the next record takes (R30). -/
def State.nextCustody (s : State) : Nat := s.store.lastCustody + 1

/-- Posts a record that carries the next custody number: its slot joins the tail of the posted queue (R5, R28, R30). -/
def State.post (s : State) (r : Record) : State :=
  { s with store := { s.store with
      posted := s.store.posted ++ [⟨r, s.ticks⟩]
      lastCustody := s.nextCustody } }

/-- The number of FILLING slots. -/
def State.fillingCount (s : State) : Nat := (allChans.filter fun c => (s.chan c).filling.isSome).length

/-- The record of the custody slot numbered `k`, if there is one. -/
def Store.heldRecord (st : Store) (k : Nat) : Option Record :=
  (st.custody.find? fun h => h.record.custody == k).map HeldSlot.record

/-! ## Court time as it stands -/

/-- What a record stamped now takes from the timebase (R4, R111). -/
def State.stampNow (s : State) : Stamp := ⟨s.time.day, s.time.instant, s.time.quality, s.time.stepMark⟩

end Sys2Proof.Machine
end

