-- ==== Sys2Proof/Machine/TrimUnit.lean ====
section
/-! DEFINITION. The converter bank and the trim unit: the trim engine, the map, rotation, faults (chapter 8). -/

namespace Sys2Proof.Machine

/-- The lowest-numbered SPARE converter (R126, R131). -/
def State.lowestSpare (s : State) : Option Conv := allConvs.find? fun v => (s.conv v).state == .spare

/-- The engine is reserved exactly while a rotation is SHADOWING (R120). -/
def State.engineReserved (s : State) : Bool := s.trim.rotation == .shadowing

/-- A command that would start a trim finds the engine unavailable (R120). -/
def State.engineBusy (s : State) : Bool := s.trim.engine.isSome || s.engineReserved

/-- Begins a trim: the converter is TRIMMING and the engine takes its first sample at the next sample instant (R120). -/
def State.startTrim (s : State) (v : Conv) (k : TrimKind) : State :=
  let s := s.modConv v fun x => { x with state := .trimming }
  { s with trim := { s.trim with engine := some ⟨v, k, k.length, 0⟩ } }

/-- A trim has run its sample instants (R121). -/
def State.trimDue (s : State) : Bool :=
  match s.trim.engine with
  | some e => e.remaining == 0
  | none => false

/-- The converter a channel takes as it stands: SERVING with stuck count 0 (R123, R130). -/
def State.serve (s : State) (c : Chan) (v : Conv) : State :=
  let s := s.modConv v fun x => { x with state := .serving, stuck := 0 }
  { s with trim := { s.trim with map := s.trim.map.set c v } }

/-- A channel keeps its FAULTED converter and joins the no-spare set, with a NO_SPARE event; a member stays without
further events (R132). -/
def State.joinNoSpare (s : State) (period : Nat) (c : Chan) : State :=
  if (s.chan c).noSpare then s
  else (s.modChan c fun x => { x with noSpare := true }).addConverter
    ⟨.noSpare, .none, s.convOf c, some c, none, s.cap.number, period⟩

/-- One channel's turn in the map build (R123). -/
def State.mapChannel (period : Nat) (s : State) (c : Chan) : State :=
  let own : Conv := c.castLE (by decide)
  if (s.conv own).state = .spare then s.serve c own
  else if (s.conv 24).state = .spare then s.serve c 24
  else if (s.conv 25).state = .spare then s.serve c 25
  else
    let s := { s with trim := { s.trim with map := s.trim.map.set c own } }
    s.joinNoSpare period c

/-- The map build, when the start-up trim of CV25 ends (R123). -/
def State.buildMap (s : State) (period : Nat) : State :=
  let s := allChans.foldl (State.mapChannel period) s
  { s with trim := { s.trim with mapBuilt := true } }

/-- What follows the end of a trim while the start-up trims run: the next converter's, or the map build (R122, R123). -/
def State.afterTrim (s : State) (period : Nat) (v : Conv) : State :=
  if s.trim.mapBuilt then s
  else if v = 25 then s.buildMap period
  else s.startTrim (v + 1) .long

/-- Ends the trim in the engine: its result makes the converter SPARE or FAULTED (R121); `period` is the period number
an event of it carries. -/
def State.completeTrim (s : State) (period : Nat) : State :=
  match s.trim.engine with
  | none => s
  | some e =>
    let m := trimResult e.kind e.sum
    let s := { s with trim := { s.trim with engine := none } }
    let s :=
      if -Config.offsetLimit ≤ m ∧ m ≤ Config.offsetLimit then
        s.modConv e.conv fun x => { x with state := .spare, offset := m, doneAt := some s.trim.trimClock }
      else
        (s.modConv e.conv fun x => { x with state := .faulted }).addConverter
          ⟨.faulted, .trim, e.conv, none, none, s.cap.number, period⟩
    s.afterTrim period e.conv

/-! ## Faults while serving (R130, R131) -/

/-- The examination of one converter at the end of a period (R130). -/
def State.examine (period : Nat) (s : State) (v : Conv) : State :=
  match s.channelOf v with
  | none => s
  | some c =>
    if (s.conv v).state = .serving ∧ (s.chan c).settings.enable then
      if (s.conv v).runEqual then
        if (s.conv v).stuck + 1 < 2 then s.modConv v fun x => { x with stuck := x.stuck + 1 }
        else (s.modConv v fun x => { x with stuck := 2, state := .faulted }).addConverter
          ⟨.faulted, .stuck, v, some c, none, s.cap.number, period⟩
      else s.modConv v fun x => { x with stuck := 0 }
    else s

/-- The examination of every converter, in ascending order (log entry 18). -/
def State.stuckExamination (s : State) (period : Nat) : State :=
  allConvs.foldl (State.examine period) s

/-- Channel `c` takes converter `v` in place of the one it had, with a HANDOVER event (R128, R131, R133). -/
def State.handOver (s : State) (period : Nat) (c : Chan) (v : Conv) (cause : ConverterCause) : State :=
  let old := s.convOf c
  let s := s.serve c v
  (s.modChan c fun x => { x with handover := true, mismatch := 0, noSpare := false }).addConverter
    ⟨.handover, cause, v, some c, some old, s.cap.number, period⟩

/-- The rotation after it ends or is abandoned: no spare, target or channel (R128, R129). -/
def State.endRotation (s : State) (r : RotationState) : State :=
  { s with trim := { s.trim with rotation := r, shadow := none } }

/-- The converter in SHADOW, while the rotation is SHADOWING. -/
def State.shadowing (s : State) : Option Shadow :=
  if s.trim.rotation = .shadowing then s.trim.shadow else none

/-- The rotation's target has faulted: the spare in SHADOW takes its channel without a match (R131, step 4). -/
def State.replaceTarget (s : State) (period : Nat) : State :=
  match s.shadowing with
  | none => s
  | some r =>
    if (s.conv r.target).state = .faulted then (s.handOver period r.channel r.spare .unmatched).endRotation .idle
    else s

/-- One channel's replacement (R131, step 4): the lowest SPARE, else the spare in SHADOW, else the no-spare set. -/
def State.replace (period : Nat) (s : State) (c : Chan) : State :=
  if (s.conv (s.convOf c)).state = .faulted then
    match s.lowestSpare with
    | some v => s.handOver period c v .replacement
    | none =>
      match s.shadowing with
      | some r =>
        let s := (s.handOver period c r.spare .replacement).endRotation .due
        { s with trim := { s.trim with named := none } }
      | none => s.joinNoSpare period c
  else s

/-- Step 4 of R131: the rotation's target first, then enabled channels, then disabled ones, each in ascending order;
`enabled` is the setting for the new period. -/
def State.replaceFaulted (s : State) (period : Nat) (enabled : Chan → Bool) : State :=
  let s := s.replaceTarget period
  ((allChans.filter enabled) ++ allChans.filter fun c => !enabled c).foldl (State.replace period) s

/-! ## Rotation (R125 to R129) -/

/-- Step 3 of R131: the timer rises, and an IDLE rotation may become DUE (R125). -/
def State.advanceTimer (s : State) : State :=
  let n := satInc Config.rotationTimerMax s.trim.timer
  { s with trim := { s.trim with
      timer := n
      rotation := if s.trim.interval ≠ 0 ∧ s.trim.rotation = .idle ∧ s.trim.interval * 50 ≤ n then .due
        else s.trim.rotation } }

/-- Step 5 of R131: the match of a rotation still SHADOWING is evaluated (R128). -/
def State.evaluateMatch (s : State) (period : Nat) : State :=
  match s.shadowing with
  | none => s
  | some r =>
    (if s.trim.matchSum ≤ s.trim.limit * Config.periodLength then
      (s.handOver period r.channel r.spare .rotation).startTrim r.target .short
    else if (s.chan r.channel).mismatch = 0 then
      (s.startTrim r.spare .long).modChan r.channel fun x => { x with mismatch := 1 }
    else
      ((s.modConv r.target fun x => { x with state := .faulted }).addConverter
        ⟨.faulted, .mismatch, r.target, some r.channel, none, s.cap.number, period⟩).handOver
        period r.channel r.spare .mismatch).endRotation .idle

/-- Whether a converter may be a rotation's target: SERVING, on a channel enabled in the new period (R126). -/
def State.targetable (s : State) (enabled : Chan → Bool) (v : Conv) : Bool :=
  (s.conv v).state == .serving && (s.channelOf v).any enabled

/-- The trim completion time that orders targets; a SERVING converter has one. -/
def State.trimTime (s : State) (v : Conv) : Nat := (s.conv v).doneAt.getD 0

/-- The targetable converter with the smallest trim completion time, the lower number at equal times (R126). -/
def State.oldestTarget (s : State) (enabled : Chan → Bool) : Option Conv :=
  (allConvs.filter (s.targetable enabled)).foldl
    (fun best v => match best with
      | none => some v
      | some b => if s.trimTime v < s.trimTime b then some v else some b) none

/-- The target of a rotation about to begin: the named one while it may be, else the oldest trim (R126). -/
def State.rotationTarget (s : State) (enabled : Chan → Bool) : Option Conv :=
  match s.trim.named with
  | some v => if s.targetable enabled v then some v else s.oldestTarget enabled
  | none => s.oldestTarget enabled

/-- Step 6 of R131: a DUE rotation begins when the engine is idle, a converter is SPARE and a target exists (R126). -/
def State.beginRotation (s : State) (enabled : Chan → Bool) : State :=
  if s.trim.rotation = .due ∧ s.trim.engine = none then
    match s.lowestSpare with
    | none => s
    | some v =>
      match s.rotationTarget enabled with
      | none => { s with trim := { s.trim with named := none } }
      | some t =>
        match s.channelOf t with
        | none => s
        | some c =>
          let s := s.modConv v fun x => { x with state := .shadow }
          { s with trim := { s.trim with
              rotation := .shadowing, shadow := some ⟨v, t, c⟩, matchSum := 0, named := none, timer := 0 } }
  else s

/-- The trim unit's work at a boundary that is not final (R131); `period` is the new period's number and `enabled` the
enable settings in force for it. -/
def State.trimBoundaryWork (s : State) (period : Nat) (enabled : Chan → Bool) : State :=
  let s := if s.trimDue then s.completeTrim period else s
  let s := s.stuckExamination period
  let s := s.advanceTimer
  let s := s.replaceFaulted period enabled
  let s := s.evaluateMatch period
  s.beginRotation enabled

/-- A rotation abandoned at a final boundary or by a restart: the spare in SHADOW returns to SPARE, the rotation is IDLE
with no named target (R129, R140). -/
def State.abandonRotation (s : State) : State :=
  let s := s.mapConvs fun _ x => if x.state = .shadow then { x with state := .spare } else x
  { s with trim := { s.trim with rotation := .idle, shadow := none, named := none } }

/-- The trim unit's work at a final boundary: the examination (R130) and the end of a rotation (R129). -/
def State.trimFinalWork (s : State) : State :=
  (s.stuckExamination s.cap.period).abandonRotation

/-- Every stuck count at 0 (R130). -/
def State.clearStuck (s : State) : State := s.mapConvs fun _ x => { x with stuck := 0 }

/-- The trim unit's work at an OPEN_CAPTURE: stuck counts 0, the rotation IDLE with the timer at 0 and no named target,
and replacements from SPARE converters (R125, R133). -/
def State.trimOpenWork (s : State) : State :=
  let s := s.clearStuck.endRotation .idle
  let s := { s with trim := { s.trim with named := none, timer := 0 } }
  s.replaceFaulted s.cap.period fun c => (s.chan c).settings.enable

end Sys2Proof.Machine
end

