-- ==== Sys2Proof/Machine/Boundary.lean ====
section
/-! DEFINITION. The period boundary: completed blocks (R21, R22, R92), posting (R5, R6, R86), the commit (R7), markers
(R8, R111), allocation (R9, R38), the floor decision (R95 to R102), and the meanings of PERIOD_BOUNDARY and
FINAL_BOUNDARY. -/

namespace Sys2Proof.Machine

/-! ## When a boundary is due -/

/-- Sample instant 319 of the running period has passed (R4). -/
def State.boundaryDue (s : State) : Bool := s.capturing && s.cap.instant == Config.periodLength

/-- The capture limit: the next custody number is greater than 4,294,967,246 (R2, R14). -/
def State.atLimit (s : State) : Bool := decide (Config.custodyLimit < s.nextCustody)

/-- The next boundary is the final one (R12, R14). -/
def State.finalDue (s : State) : Bool := s.cap.closeRequest || s.atLimit

/-! ## Completed blocks (R21, R22, R92) -/

/-- A channel after its block completes: the level code is kept and evaluated under the settings of the period. -/
def Channel.complete (ch : Channel) : Channel :=
  match ch.block with
  | none => ch
  | some b =>
    let code := levelCode b.energy
    let a := activityNext ch.settings ch.activity ch.hangCounter code
    { ch with lastLevel := code, activity := a.1, hangCounter := a.2 }

/-- Every running block completes (R22). -/
def State.completeBlocks (s : State) : State := s.mapChans fun _ ch => ch.complete

/-! ## Step (a): posting (R5, R6, R86, R133) -/

/-- The header of channel `c`'s record, complete but for its check (R6). `before` is the state in which the boundary
began: its map and handover marks are those of the period. -/
def State.audioRecord (s before : State) (c : Chan) (samples : List Sample) : AudioRecord :=
  let ch := s.chan c
  let b := ch.block.getD RunningBlock.start
  { channel := c
    capture := s.cap.number
    custody := s.nextCustody
    sequence := ch.lastSeq.getD 0
    period := s.cap.period
    gap := ch.gapTally
    day := s.cap.stamp.day
    instant := s.cap.stamp.instant
    quality := s.cap.stamp.quality
    tag := audioTag s.cap.proceeding ch.settings.bench
    flags := ⟨ch.route != .mic, (before.chan c).handover, (s.conv (before.convOf c)).state == .faulted,
      s.cap.stamp.stepped⟩
    converter := before.convOf c
    gain := ch.settings.gain
    level := ch.lastLevel
    activity := ch.activity
    holder := s.floor.holder
    peak := b.peak
    clipped := b.clipped
    check := 0#32
    samples := samples }

/-- An audio record with its chain check from a chain value (R84, R86). -/
def AudioRecord.chained (r : AudioRecord) (start : BitVec 32) : AudioRecord :=
  { r with check := crc32 start r.covered }

/-- Step (a) for channel `c`: its FILLING slot is posted, the chain value moves on, the gap tally is set to 0 and a
handover mark set before the boundary is taken. A channel without a FILLING slot posts nothing and keeps its mark. -/
def State.postChannel (before : State) (s : State) (c : Chan) : State :=
  match (s.chan c).filling with
  | none => s.modChan c fun ch => { ch with handover := ch.handover || (before.chan c).handover, block := none }
  | some samples =>
    let r := (s.audioRecord before c samples).chained (s.chan c).chain
    (s.post (.audio r)).modChan c fun ch =>
      { ch with filling := none, gapTally := 0, chain := r.check, block := none }

/-- Step (a): the channels in ascending order (R5). -/
def State.postBlocks (s before : State) : State := allChans.foldl (State.postChannel before) s

/-- The handover marks as this boundary's own trim work will set them (R133, log entry 15). -/
def State.clearMarks (s : State) : State := s.mapChans fun _ ch => { ch with handover := false }

/-! ## Step (b): the commit (R7, R71, R93) -/

/-- A channel whose pending settings come into force; a channel disabled becomes QUIET (R7, R93). -/
def Channel.commitSettings (ch : Channel) : Channel :=
  let st := ch.settings.over ch.pendingSettings
  { ch with
    settings := st
    pendingSettings := PendingSettings.empty
    activity := if st.enable then ch.activity else .quiet
    hangCounter := if st.enable then ch.hangCounter else 0 }

/-- The enable setting of a channel after the commit (R131). -/
def State.enabledNext (s : State) (c : Chan) : Bool := ((s.chan c).settings.over (s.chan c).pendingSettings).enable

/-- Part 1 of step (b); a converter whose channel the commit disables has its stuck count set to 0 (R130). Its channel is
the one it serves after the boundary's trim work: log entry 42. -/
def State.commitSettings (s : State) : State :=
  let off := fun v : Conv => (s.channelOf v).any fun c => (s.chan c).settings.enable && !s.enabledNext c
  (s.mapConvs fun v x => if off v then { x with stuck := 0 } else x).mapChans fun _ ch => ch.commitSettings

/-- Part 2 of step (b): pending routes come into force. -/
def State.commitRoutes (s : State) : State :=
  s.mapChans fun _ ch =>
    { ch with route := (ch.pendingRoute.map PendingRoute.route).getD ch.route, pendingRoute := none }

/-- Part 3 of step (b): a pending proceeding comes into force (R71, R78). -/
def State.commitProceeding (s : State) : State :=
  match s.cap.pendingProceeding with
  | none => s
  | some p =>
    ({ s with cap := { s.cap with proceeding := p, pendingProceeding := none } }).addChange
      ⟨s.cap.number, s.cap.period, s.cap.proceeding, p, .command⟩

/-- Every route in force reverts to microphone (R7, R13). -/
def State.revertRoutes (s : State) : State := s.mapChans fun _ ch => { ch with route := .mic }

/-- The answer a deferred entry receives at a commit: OK, with the data of a SET_PROCEEDING as they stand (R7, R71). -/
def State.commitAnswer (s : State) (e : Deferred) : Option Reply :=
  match e.request with
  | .settings | .route _ => some (e.reply .ok)
  | .proceeding p => some (e.reply .ok (s.proceedingData p))
  | .close => none

/-- Step (b) (R7). -/
def State.commit (s : State) : State :=
  let s := s.commitSettings.commitRoutes.commitProceeding
  let s := if s.cap.proceeding.isRecord then s.revertRoutes else s
  s.answerAtBoundary s.commitAnswer

/-! ## Step (c): markers (R8, R111 to R113, R115) -/

/-- The FULL marker slots in ascending order, with their markers. -/
def Markers.fullEntries (m : Markers) : List (Fin 8 × Marker) :=
  (List.finRange 8).filterMap fun i => (m.slots.get i).map fun x => (i, x)

/-- The marker record of the FULL slots, complete but for its check (R111). -/
def State.markerRecord (s : State) (period : Nat) (tag : Tag) (st : Stamp) : MarkerRecord :=
  { capture := s.cap.number
    custody := s.nextCustody
    sequence := s.marks.sequence
    period := period
    day := st.day
    instant := st.instant
    quality := st.quality
    tag := tag
    entries := s.marks.fullEntries
    check := 0#32 }

/-- A marker record with its chain check from the marker chain value (R85, R86). -/
def MarkerRecord.chained (r : MarkerRecord) (start : BitVec 32) : MarkerRecord :=
  { r with check := crc32 start r.covered }

/-- A granted marker request: the record is built and posted, the slots taken are EMPTY, the marker sequence rises, and
MARKER is raised with the taking (R111, R115). -/
def State.postMarkers (s : State) (period : Nat) (tag : Tag) (st : Stamp) : State :=
  let r := (s.markerRecord period tag st).chained s.marks.chain
  let t := s.post (.marker r)
  { t with marks := { t.marks with
      slots := Vector.replicate 8 none, sequence := s.marks.sequence + 1, chain := r.check } }.addTaking
    ⟨s.cap.number, s.marks.sequence, r.custody, period, r.entries.map Prod.fst⟩

/-- Step (c): one KEEP request when a marker slot is FULL; a refusal is counted (R8, R113). -/
def State.takeMarkers (s : State) (period : Nat) (tag : Tag) (st : Stamp) : State :=
  if s.marks.fullEntries.isEmpty then s
  else
    match s.slotRequest .keep with
    | some s' => s'.postMarkers period tag st
    | none => { s with marks := { s.marks with refusals := satInc 65535 s.marks.refusals } }

/-! ## Step (d): allocation (R9, R38) -/

/-- The period's sequence number is given, granted or refused (R9). -/
def Channel.countPeriod (ch : Channel) : Channel :=
  { ch with lastSeq := some ch.seqCount, seqCount := wrapInc ch.seqCount }

/-- A granted channel: it owns an empty FILLING slot and its supply mark is SUPPLIED (R9, R38). -/
def Channel.granted (ch : Channel) : Channel := { ch.countPeriod with filling := some [], starved := false }

/-- A refused channel: gap tally and starvation count rise, and a SUPPLIED mark becomes STARVED (R9, R38). -/
def Channel.refused (ch : Channel) : Channel :=
  { ch.countPeriod with
    gapTally := wrapInc ch.gapTally
    starvation := satInc 4294967295 ch.starvation
    starved := true
    newlyStarved := ch.newlyStarved || !ch.starved }

/-- The request of channel `c` for the new period (R9, R38). -/
def State.requestSlot (s : State) (c : Chan) : State :=
  match s.slotRequest (s.chan c).settings.cls with
  | some s' => s'.modChan c Channel.granted
  | none =>
    let t := s.modChan c Channel.refused
    if (s.chan c).starved then t else t.raise .store

/-- The enabled channels of a class in ascending order. -/
def State.ofClass (s : State) (k : Class) : List Chan :=
  allChans.filter fun c => (s.chan c).settings.enable && (s.chan c).settings.cls == k

/-- The order of the audio requests: KEEP, then NORMAL, then SHED (R9, R34). -/
def State.requestOrder (s : State) : List Chan := s.ofClass .keep ++ s.ofClass .normal ++ s.ofClass .shed

/-- Step (d) (R9). -/
def State.allocate (s : State) : State := s.requestOrder.foldl State.requestSlot s

/-! ## The floor decision (R95 to R102) -/

/-- A candidate: enabled and floor-eligible in the settings for the new period (R96). -/
def State.candidate (s : State) (c : Chan) : Bool := (s.chan c).settings.enable && (s.chan c).settings.floorEligible

/-- The channel with the highest level code among several, the lowest number at equal codes (R96). -/
def State.loudest (s : State) (cs : List Chan) : Option Chan :=
  cs.foldl
    (fun best c => match best with
      | none => some c
      | some b => if (s.chan b).lastLevel < (s.chan c).lastLevel then some c else some b) none

/-- The ACTIVE candidates in ascending order (R96). -/
def State.activeCandidates (s : State) : List Chan :=
  allChans.filter fun c => s.candidate c && (s.chan c).activity == .active

/-- Sets the holder and writes the floor record of the change (R102). -/
def State.changeHolder (s : State) (h : Option Chan) (cause : FloorCause) : State :=
  ({ s with floor := { s.floor with holder := h, challenger := none } }).addFloor
    ⟨s.cap.number, s.cap.period, s.cap.proceeding, h, s.floor.holder, cause,
      h.elim 0 fun c => (s.chan c).lastLevel⟩

/-- The holder keeps the floor unless a challenger has qualified often enough (R98). -/
def State.contest (s : State) (h : Chan) : State :=
  let q := s.activeCandidates.filter fun c =>
    c != h && decide ((s.chan h).lastLevel + s.floor.margin ≤ (s.chan c).lastLevel)
  match s.loudest q with
  | none => { s with floor := { s.floor with challenger := none } }
  | some c =>
    let n := match s.floor.challenger with
      | some (c', n) => if c' = c then n + 1 else 1
      | none => 1
    if s.floor.takeover ≤ n then s.changeHolder (some c) .takeover
    else { s with floor := { s.floor with challenger := some (c, n) } }

/-- The floor is free, or its holder lapses (R99). -/
def State.openFloor (s : State) : State :=
  match s.floor.holder, s.loudest s.activeCandidates with
  | some _, some c => s.changeHolder (some c) .handoff
  | some _, none => s.changeHolder none .lapse
  | none, some c => s.changeHolder (some c) .opened
  | none, none => { s with floor := { s.floor with challenger := none } }

/-- The floor decision of a boundary that is not final (R95, R97). -/
def State.floorDecision (s : State) : State :=
  let t := match s.floor.holder with
    | some h => if s.candidate h ∧ (s.chan h).activity ≠ Activity.quiet then s.contest h else s.openFloor
    | none => s.openFloor
  { t with floor := { t.floor with lastDecision := some s.cap.period } }

/-! ## The two boundaries -/

/-- The whole boundary that is not final: completed blocks, trim unit work, steps (a) to (d), the floor decision. -/
def State.periodBoundary (s : State) : State :=
  let next := wrapInc s.cap.period
  let t := s.completeBlocks.clearMarks.trimBoundaryWork next s.enabledNext
  let t := t.postBlocks s
  let t := { t with cap := { t.cap with period := next } }
  let t := t.commit
  let t := t.takeMarkers t.cap.period (markerTag t.cap.proceeding) t.stampNow
  let t := t.allocate.floorDecision
  { t with cap := { t.cap with instant := 0 } }

/-- PERIOD_BOUNDARY (R5): it falls after sample instant 319 of a period whose boundary is not final. -/
def execPeriodBoundary (s : State) : Host.Outcome State Fault Refusal :=
  .next (if s.boundaryDue ∧ !s.finalDue then s.periodBoundary else s)

/-- Step 2 of the final boundary: pending routes and the pending proceeding are discarded (R13, R72). -/
def State.discardPending (s : State) : State :=
  let s := { s with cap := { s.cap with pendingProceeding := none } }
  let s := s.mapChans fun _ ch => { ch with pendingRoute := none }
  s.answerAtBoundary fun e =>
    match e.request with
    | .route _ => some (e.reply .superseded)
    | .proceeding p => some (e.reply .superseded (s.proceedingData p))
    | .settings | .close => none

/-- Step 3 of the final boundary: pending settings commit, their deferred replies are answered OK (R13). -/
def State.commitFinalSettings (s : State) : State :=
  s.commitSettings.answerAtBoundary fun e =>
    match e.request with
    | .settings => some (e.reply .ok)
    | .route _ | .proceeding _ | .close => none

/-- The CAPTURE notice's contents, fixed at the final boundary (R14). -/
def State.captureContents (s : State) (reason : EndReason) : CaptureContents :=
  ⟨reason, s.cap.number, s.cap.period, allChans.map fun c => ⟨(s.chan c).lastSeq, (s.chan c).gapTally⟩⟩

/-- The proceeding's change to STANDBY at a final boundary (R72, R78). -/
def State.standbyChange (s : State) (cause : ChangeCause) : State :=
  ({ s with cap := { s.cap with state := .standby, proceeding := .standby } }).addChange
    ⟨s.cap.number, s.cap.period, s.cap.proceeding, .standby, cause⟩

/-- Steps 6 and 7 of the final boundary: STANDBY, routes to microphone, the floor without a holder (R100), handover marks
clear (R133), the CAPTURE notice, and the answer of a deferred CLOSE_CAPTURE (R13, R14). -/
def State.toStandby (s : State) (reason : EndReason) (cause : ChangeCause) : State :=
  let t := (s.standbyChange cause).revertRoutes.clearMarks
  let t := { t with
    floor := { t.floor with holder := none, challenger := none }
    cap := { t.cap with instant := 0, notice := some (s.captureContents reason) } }
  (t.raise .capture).answerAtBoundary fun e =>
    match e.request with
    | .close => some (e.reply .ok (be 4 s.cap.period))
    | .settings | .route _ | .proceeding _ => none

/-- The whole final boundary (R13). -/
def State.finalBoundary (s : State) : State :=
  let t := s.completeBlocks.trimFinalWork
  let t := t.postBlocks s
  let t := t.discardPending.commitFinalSettings
  let t := t.takeMarkers t.cap.period (markerTag t.cap.proceeding) t.cap.stamp
  if s.cap.closeRequest then t.toStandby .closed .closed else t.toStandby .limit .limit

/-- FINAL_BOUNDARY (R13, R14): the boundary after a close request or at the capture limit. -/
def execFinalBoundary (s : State) : Host.Outcome State Fault Refusal :=
  .next (if s.boundaryDue ∧ s.finalDue then s.finalBoundary else s)

end Sys2Proof.Machine
end

