-- ==== Sys2Proof/Machine/Sampling.lean ====
section
/-! DEFINITION. The tick of the sample clock: record samples (R19 to R21), the feed (R155 to R160), the match sum
(R127), the trim engine (R120), court time and the timers (R141, R147), and the meaning of SAMPLE_INSTANT. -/

namespace Sys2Proof.Machine

/-! ## Which events stand before the next tick -/

/-- The missing-pulse timer runs in ACQUIRING and LOCKED (R147). -/
def Timebase.pulseAwaited (t : Timebase) : Bool := t.discipline == .acquiring || t.discipline == .locked

/-- The missing-pulse timer has reached 24,000 (R147). -/
def Timebase.missingDue (t : Timebase) : Bool := t.pulseAwaited && decide (Config.missingLimit ≤ t.missingTimer)

/-- The holdover timer has reached 57,600,000 in HOLDOVER (R147). A pulse may come before the limit is taken: log entry
43. -/
def Timebase.limitDue (t : Timebase) : Bool :=
  t.discipline == .holdover && decide (Config.holdoverLimit ≤ t.holdoverTimer)

/-- No boundary, trim end or timer expiry is due, so the next sample instant may come (log entry 3). -/
def State.tickFree (s : State) : Bool :=
  !s.boundaryDue && !s.trimDue && !s.time.missingDue && !s.time.limitDue

/-! ## Record samples (R19 to R21) -/

/-- What a converter samples (R118). -/
inductive ConverterInput where
  | mic (c : Chan)
  | reference
  | unused
  deriving DecidableEq, Repr

/-- The input of a converter: an assigned one samples its channel's microphone, one in SHADOW that of the channel it
shadows, one that is TRIMMING the internal reference (R118); the rest sample nothing the part uses (log entry 40). -/
def State.inputOf (s : State) (v : Conv) : ConverterInput :=
  match (s.conv v).state with
  | .trimming => .reference
  | .shadow => (s.trim.shadow.map fun r => ConverterInput.mic r.channel).getD .unused
  | _ => ((s.channelOf v).map ConverterInput.mic).getD .unused

/-- A channel processor runs while CAPTURING and its channel is enabled (R19). -/
def State.runs (s : State) (c : Chan) : Bool := s.capturing && (s.chan c).settings.enable

/-- The input x0 of the gain stage: the corrected sample of the assigned converter, or the page's sample (R19). -/
def State.sampleInput (s : State) (raw : Vector Raw 26) (c : Chan) : Int :=
  match (s.chan c).route with
  | .mic => corrected (raw.get (s.convOf c)) (s.conv (s.convOf c)).offset
  | .page p => patternInput ((s.cap.pages.get p).toList.getD s.cap.instant 0#16)

/-- The scaled value y of channel `c` at this sample instant (R20). -/
def State.sampleScaled (s : State) (raw : Vector Raw 26) (c : Chan) : Int :=
  scaled (s.sampleInput raw c) (s.chan c).settings.gain

/-- The record sample of channel `c` at this sample instant (R20). -/
def State.recordSample (s : State) (raw : Vector Raw 26) (c : Chan) : Sample := narrow (s.sampleScaled raw c)

/-- A running channel takes one sample: into its FILLING slot when it holds one, and into the running block, which is
set to 0 at sample instant 0 (R19, R21). -/
def Channel.take (ch : Channel) (instant : Nat) (y : Int) : Channel :=
  let b := if instant = 0 then RunningBlock.start else ch.block.getD RunningBlock.start
  { ch with
    filling := ch.filling.map fun l => l ++ [narrow y]
    block := some (b.add (narrow y) (clips y)) }

/-- Every channel processor that runs takes its sample (R19). -/
def State.takeSamples (s : State) (raw : Vector Raw 26) : State :=
  s.mapChans fun c ch => if s.runs c then ch.take s.cap.instant (s.sampleScaled raw c) else ch

/-! ## The feed (R155 to R160) -/

/-- Whether a channel contributes to the feed sum (R155). -/
def State.contributes (s : State) (c : Chan) : Bool :=
  s.runs c && (s.chan c).settings.feedInclude && (s.cap.proceeding != .sidebar || !(s.chan c).settings.bench)

/-- The feed sum of this sample instant (R155). -/
def State.feedSum (s : State) (raw : Vector Raw 26) : Int :=
  allChans.foldl (fun t c => if s.contributes c then t + (s.recordSample raw c).toInt else t) 0

/-- The feed sample of a sample instant and whether it saturates (R156, R157, R159). In SIDEBAR with masking on the noise is
added whatever the bench group: log entry 44. -/
def feedSample (f : Feed) (p : Proceeding) (sum : Int) : Sample × Bool :=
  let y := feedScaled sum f.multiplier
  match p, f.masking with
  | .standby, _ | .recess, _ | .inCamera, _ => (0#16, false)
  | .session, _ | .sidebar, none => (narrow y, clips y)
  | .sidebar, some k =>
    let total := (narrow y).toInt + noiseShifted f.noise k
    (narrow total, clips y || clips total)

/-- The feed mixer's work of a sample instant: the frame of this instant carries the sample formed at the last one; the
noise register advances (R156 to R160). -/
def Feed.tick (f : Feed) (p : Proceeding) (sum : Int) : Feed :=
  let r := feedSample f p sum
  { f with
    sent := f.formed
    formed := r.1
    satCount := if r.2 then satInc 4294967295 f.satCount else f.satCount
    noise := noiseNext f.noise }

/-! ## Converters (R120, R127, R130) -/

/-- The examination of a period follows one raw sample (R130). -/
def Converter.follow (x : Converter) (instant : Nat) (r : Raw) : Converter :=
  if instant = 0 then { x with runFirst := r, runEqual := true }
  else { x with runEqual := x.runEqual && r == x.runFirst }

/-- The difference added to the match sum of a shadow period (R127). -/
def State.matchTerm (s : State) (raw : Vector Raw 26) (r : Shadow) : Nat :=
  (corrected (raw.get r.target) (s.conv r.target).offset
    - corrected (raw.get r.spare) (s.conv r.spare).offset).natAbs

/-- The trim engine takes one raw sample of the converter it trims (R120). -/
def Engine.take (e : Engine) (raw : Vector Raw 26) : Engine :=
  if e.remaining = 0 then e
  else { e with remaining := e.remaining - 1, sum := e.sum + (raw.get e.conv).toInt }

/-- The converters and the trim unit at a sample instant. -/
def State.tickTrim (s : State) (raw : Vector Raw 26) : State :=
  let t := if s.capturing then s.mapConvs fun v x => x.follow s.cap.instant (raw.get v) else s
  { t with trim := { t.trim with
      matchSum := if s.capturing
        then s.trim.matchSum + (s.shadowing.elim 0 fun r => s.matchTerm raw r) else s.trim.matchSum
      engine := s.trim.engine.map fun e => e.take raw
      trimClock := satInc Config.trimClockMax s.trim.trimClock } }

/-! ## Court time (R141, R147, R149) -/

/-- The timebase after a sample instant: the count advances, the timer that runs rises (R141, R147). -/
def Timebase.tick (t : Timebase) : Timebase :=
  let n := nextInstant t.day t.instant
  { t with
    day := n.1
    instant := n.2
    missingTimer := if t.pulseAwaited then t.missingTimer + 1 else t.missingTimer
    holdoverTimer := if t.discipline = .holdover then t.holdoverTimer + 1 else t.holdoverTimer }

/-- What the records of the period that begins take from the timebase at its sample instant 0: period 0 never carries
STEPPED (R149, log entry 38). -/
def State.periodStamp (s : State) : Stamp :=
  { s.stampNow with stepped := s.time.stepMark && s.cap.period != 0 }

/-- At sample instant 0 of a period the capture engine reads the timebase and clears the step mark (R4, R149). -/
def State.takeStamp (s : State) : State :=
  if s.capturing ∧ s.cap.instant = 0 then
    { s with cap := { s.cap with stamp := s.periodStamp }, time := { s.time with stepMark := false } }
  else s

/-- The whole sample instant. -/
def State.tick (s : State) (raw : Vector Raw 26) : State :=
  let t := ((s.takeSamples raw).tickTrim raw).takeStamp
  { t with
    ticks := s.ticks + 1
    feed := s.feed.tick s.cap.proceeding (s.feedSum raw)
    time := t.time.tick
    cap := { t.cap with instant := if s.capturing then s.cap.instant + 1 else s.cap.instant } }

/-- SAMPLE_INSTANT (R19): a tick; it waits while a boundary, a trim end or a timer expiry is due (log entry 3). -/
def execSampleInstant (raw : Vector Raw 26) (s : State) : Host.Outcome State Fault Refusal :=
  .next (if s.tickFree then s.tick raw else s)

end Sys2Proof.Machine
end

