-- ==== Sys2Proof/Machine/Notices.lean ====
section
/-! DEFINITION. The contents of the eight notices, built when their frames start, and what their sending clears (R41,
R79, R104, R115, R135, R153, R172, R186). -/

namespace Sys2Proof.Machine

/-- A set of marker slots in one byte (R181). -/
def slotSet (slots : List (Fin 8)) : List Byte := be 1 (setValue (slots.map Fin.val))

/-- CAPTURE: the held contents (R14). -/
def CaptureContents.bytes (k : CaptureContents) : List Byte :=
  be 1 k.reason.code ++ be 2 k.capture ++ be 4 k.period
    ++ k.tails.flatMap fun t => optional (be 4) t.lastSeq ++ be 4 t.gap

/-- STORE (R41). -/
def State.storeContents (s : State) : List Byte :=
  be 1 s.store.level.code ++ be 4 s.store.free ++ be 4 s.store.custody.length ++ be 2 s.store.shed
    ++ be 2 s.store.keep ++ onOff s.store.reclaim ++ chanSet (fun c => (s.chan c).starved)
    ++ chanSet (fun c => (s.chan c).newlyStarved) ++ counted (be 4) s.store.reclaimList
    ++ be 2 s.store.notListed ++ be 4 s.store.reclaimCount

/-- A CONVERTER event entry (R186). -/
def ConverterEntry.bytes (e : ConverterEntry) : List Byte :=
  be 1 e.event.code ++ be 1 e.cause.code ++ be 1 e.conv.val ++ chanOr255 e.channel ++ convOr255 e.other
    ++ be 2 e.capture ++ be 4 e.period

/-- The 24 entries of the map, 255 where no converter is assigned yet (R135, R181). -/
def State.mapBytes (s : State) : List Byte := allChans.flatMap fun c => convOr255 (s.servingConv c)

/-- CONVERTER (R135). -/
def State.converterContents (s : State) : List Byte :=
  counted ConverterEntry.bytes s.trim.events ++ be 1 s.trim.unlisted
    ++ (allConvs.flatMap fun v => be 1 (s.conv v).state.code) ++ s.mapBytes
    ++ chanSet (fun c => (s.chan c).noSpare) ++ be 1 s.trim.rotation.code

/-- A TIME event entry (R186). -/
def TimeEntry.bytes (e : TimeEntry) : List Byte :=
  be 1 e.event.code ++ be 1 e.cause.code ++ be 1 e.before.code ++ be 1 e.after.code ++ beInt 6 e.size
    ++ be 2 e.capture ++ be 4 e.period ++ be 2 e.day ++ be 4 e.instant

/-- TIME (R153); the court day and instant are the count held (log entry 11). -/
def State.timeContents (s : State) : List Byte :=
  counted TimeEntry.bytes s.time.events ++ be 1 s.time.unlisted ++ be 1 s.time.discipline.code
    ++ be 1 s.time.quality.code ++ be 2 s.time.day ++ be 4 s.time.instant ++ beInt 4 s.time.freqTrim
    ++ be 2 s.time.steps

/-- A PROCEEDING change entry (R186). -/
def ProceedingChange.bytes (e : ProceedingChange) : List Byte :=
  be 2 e.capture ++ be 4 e.period ++ be 1 e.before.code ++ be 1 e.after.code ++ be 1 e.cause.code

/-- PROCEEDING (R79). -/
def State.proceedingContents (s : State) : List Byte :=
  be 1 s.cap.proceeding.code ++ optional (fun p => be 1 p.code) s.cap.pendingProceeding ++ be 2 s.cap.number
    ++ be 4 s.cap.period ++ counted ProceedingChange.bytes s.cap.changes ++ be 1 s.cap.changesUnlisted

/-- A MARKER taking (R186). -/
def Taking.bytes (e : Taking) : List Byte :=
  be 2 e.capture ++ be 4 e.sequence ++ be 4 e.custody ++ be 4 e.period ++ slotSet e.slots

/-- MARKER (R115). -/
def State.markerContents (s : State) : List Byte :=
  be 2 s.cap.number ++ counted Taking.bytes s.marks.takings ++ be 1 s.marks.unlisted
    ++ slotSet (s.marks.fullEntries.map Prod.fst) ++ be 2 s.marks.refusals

/-- A floor record (R186). -/
def FloorRecord.bytes (e : FloorRecord) : List Byte :=
  be 2 e.capture ++ be 4 e.period ++ be 1 e.proceeding.code ++ chanOr255 e.holder ++ chanOr255 e.previous
    ++ be 1 e.cause.code ++ be 1 e.level

/-- The records a FLOOR notice takes: the oldest of the log, at most 8 (R104). -/
def Floor.taken (f : Floor) : List FloorRecord := f.log.take Config.noticeListMax

/-- FLOOR (R104). -/
def State.floorContents (s : State) : List Byte :=
  be 2 s.cap.number ++ be 4 s.cap.period ++ chanOr255 s.floor.holder
    ++ counted FloorRecord.bytes s.floor.taken ++ be 1 s.floor.overrun
    ++ be 1 (s.floor.log.length - s.floor.taken.length)

/-- The seven counters in order (R186). -/
def Counters.bytes (k : Counters) : List Byte :=
  be 2 k.stray ++ be 2 k.check ++ be 2 k.oversize ++ be 2 k.gap ++ be 2 k.line ++ be 2 k.busy ++ be 2 k.replyLost

/-- LINK (R172). -/
def State.linkContents (s : State) : List Byte := s.link.counters.bytes ++ s.link.changes.bytes

/-- The contents of a notice as they stand (R171). -/
def State.noticeContents (s : State) : NoticeKind → List Byte
  | .capture => (s.cap.notice.map CaptureContents.bytes).getD []
  | .store => s.storeContents
  | .converter => s.converterContents
  | .time => s.timeContents
  | .proceeding => s.proceedingContents
  | .marker => s.markerContents
  | .floor => s.floorContents
  | .link => s.linkContents

/-- A NOTICE frame's payload: the kind, then the contents (R163, R186). -/
def State.noticePayload (s : State) (k : NoticeKind) : List Byte :=
  BitVec.ofNat 8 k.code :: s.noticeContents k

/-- Clears a kind's pending flag (R171). -/
def State.lower (s : State) (k : NoticeKind) : State :=
  { s with link := { s.link with raised := s.link.raised &&& ~~~k.flag } }

/-- What the sending of a notice clears: the flag, and the owner's lists and counts (R41, R79, R104, R115, R135, R153,
R172). FLOOR's flag is set again at once while the log still holds records (R103). -/
def State.noticeSent (s : State) (k : NoticeKind) : State :=
  let s := s.lower k
  match k with
  | .capture => { s with cap := { s.cap with notice := none } }
  | .store =>
    { s.mapChans (fun _ ch => { ch with newlyStarved := false }) with
      store := { s.store with reclaimList := [], notListed := 0 } }
  | .converter => { s with trim := { s.trim with events := [], unlisted := 0 } }
  | .time => { s with time := { s.time with events := [], unlisted := 0 } }
  | .proceeding => { s with cap := { s.cap with changes := [], changesUnlisted := 0 } }
  | .marker => { s with marks := { s.marks with takings := [], unlisted := 0 } }
  | .floor =>
    let rest := s.floor.log.drop Config.noticeListMax
    let t := { s with floor := { s.floor with log := rest, overrun := 0 } }
    if rest.isEmpty then t else t.raise .floor
  | .link => { s with link := { s.link with changes := Counters.zero } }

end Sys2Proof.Machine
end

