-- ==== Sys2Proof/Machine/Lane.lean ====
section
/-! DEFINITION. The lane: readiness of the three sources (R48, R169, R171), the scan (R173), frame ends (R51, R60,
R169, R171, R179), HOLD (R174) and the move of answered deferred replies (R170). -/

namespace Sys2Proof.Machine

/-! ## Readiness -/

/-- The head age in milliseconds, 16 sample instants to one; absent when the posted queue is empty (R47). -/
def State.headAge (s : State) : Option Nat := s.store.posted.head?.map fun p => (s.ticks - p.postedAt) / 16

/-- The head age has reached the wait (R48). -/
def State.waitReached (s : State) : Bool := s.headAge.any fun a => decide (s.stream.wait ≤ a)

/-- The stream source is ready (R48). -/
def State.streamReady (s : State) : Bool :=
  s.stream.enable && !s.store.posted.isEmpty
    && (decide (s.stream.threshold ≤ s.store.posted.length) || s.waitReached || !s.capturing)

/-- Whether a source of the lane is ready while the lane is idle (R48, R169, R171). -/
def State.sourceReady (s : State) : Source → Bool
  | .r => !s.link.replyQueue.isEmpty
  | .n => s.link.nextNotice.isSome
  | .b => s.streamReady

/-! ## The scan (R173) -/

/-- The schedule entries in the order a scan looks at them: cyclically from the entry after the position. -/
def scanOrder (position : Fin 16) : List (Fin 16) :=
  (List.finRange 16).map fun i => position + 1 + i

/-- The first entry whose source is ready (R173). -/
def State.scanWinner (s : State) : Option (Fin 16) :=
  (scanOrder s.link.position).find? fun i => s.sourceReady (s.link.schedule.get i)

/-- Puts a frame on the lane. -/
def State.startFrame (s : State) (use : LaneUse) (kind tag : Byte) (payload : List Byte) : State :=
  { s with link := { s.link with lane := some ⟨use, frameBytes kind tag payload⟩ } }

/-- The head of the posted queue goes out as a FIRST block frame: its slot leaves the queue and is SENDING (R50). -/
def State.sendBlock (s : State) : State :=
  match s.store.posted with
  | [] => s
  | p :: rest =>
    { s with store := { s.store with posted := rest, sending := some p.record } }.startFrame
      .first 0x83#8 0x00#8 (blockPayload 0x01#8 p.record)

/-- The head of the reply queue goes out: a reply as a REPLY frame, a copy as a REREAD frame read from its slot now; the
entry keeps its place until the frame ends (R58, R169). -/
def State.sendReply (s : State) : State :=
  match s.link.replyQueue with
  | [] => s
  | .reply r :: _ => s.startFrame .reply 0x81#8 r.tag r.payload
  | .copy k :: _ =>
    s.startFrame .reread 0x83#8 0x00#8 (((s.store.heldRecord k).map fun r => blockPayload 0x02#8 r).getD [])

/-- The highest-priority pending, enabled notice goes out, its contents built now (R171). -/
def State.sendNotice (s : State) : State :=
  match s.link.nextNotice with
  | none => s
  | some k => (s.noticeSent k).startFrame .notice 0x82#8 0x00#8 (s.noticePayload k)

/-- The frame of a source. -/
def State.sendSource (s : State) : Source → State
  | .r => s.sendReply
  | .n => s.sendNotice
  | .b => s.sendBlock

/-- A scan by the schedule: the winner's frame starts and the position becomes its entry; with no ready source nothing
changes (R173). -/
def State.scanSchedule (s : State) : State :=
  match s.scanWinner with
  | none => s
  | some i =>
    let t := s.sendSource (s.link.schedule.get i)
    { t with link := { t.link with position := i } }

/-- A scan: none while HOLD is asserted or a frame is in progress; while restarting only the RESTART reply starts (R173,
R174, R179). -/
def State.scan (s : State) : State :=
  if s.link.hold ∨ s.link.lane.isSome then s
  else
    match s.link.restart with
    | .off => s.scanSchedule
    | .replyDue r =>
      let t := s.startFrame .restartReply 0x81#8 r.tag r.payload
      { t with link := { t.link with restart := .replyGoing } }
    | .replyGoing | .resetDue => s

/-- LANE_SCAN (R173): the scan made because a source became ready while the lane was idle (log entry 4). -/
def execLaneScan (s : State) : Host.Outcome State Fault Refusal := .next s.scan

/-! ## Frame ends -/

/-- Whose frame is in progress. -/
def State.laneUse (s : State) : Option LaneUse := s.link.lane.map LaneFrame.use

/-- The lane is idle again. -/
def State.endFrame (s : State) : State := { s with link := { s.link with lane := none } }

/-- A FIRST block frame has ended: the SENDING slot joins the tail of the custody list and the last sent number becomes
its custody number (R51). -/
def State.enterCustody (s : State) : State :=
  match s.store.sending with
  | none => s
  | some r =>
    { s with
      store := { s.store with sending := none, custody := s.store.custody ++ [⟨r, 0, false⟩] }
      stream := { s.stream with lastSent := r.custody } }

/-- BLOCK_FRAME_END (R51): the end of the FIRST block frame in progress, and the scan that follows it (R173). -/
def execBlockFrameEnd (s : State) : Host.Outcome State Fault Refusal :=
  .next (if s.laneUse = some .first then s.enterCustody.endFrame.scan else s)

/-- One pin of custody number `k` ends (R60). -/
def HeldSlot.unpin (k : Nat) (h : HeldSlot) : HeldSlot :=
  if h.record.custody = k then { h with pins := h.pins - 1 } else h

/-- Whether a slot becomes FREE once its last pin has ended (R60). -/
def HeldSlot.freed (h : HeldSlot) : Bool := h.pins == 0 && h.releasePending

/-- The end of a pin of custody number `k`: the count falls by 1, and a release-pending slot without pins becomes FREE
(R60). -/
def State.endPin (s : State) (k : Nat) : State :=
  let l := s.store.custody.map (HeldSlot.unpin k)
  let gone := l.filter fun h => h.record.custody == k && h.freed
  let t := { s with store := { s.store with custody := l.filter fun h => !(h.record.custody == k && h.freed) } }
  t.setFree (s.store.free + gone.length)

/-- The head entry of the reply queue leaves it (R169). -/
def State.popReply (s : State) : State :=
  { s with link := { s.link with replyQueue := s.link.replyQueue.tail } }

/-- REREAD_FRAME_END (R60): the end of the REREAD frame in progress; its entry leaves the reply queue and its pin ends;
then the arbiter scans (R173). -/
def execRereadFrameEnd (s : State) : Host.Outcome State Fault Refusal :=
  .next (match s.laneUse, s.link.replyQueue with
    | some .reread, .copy k :: _ => (s.popReply.endPin k).endFrame.scan
    | _, _ => s)

/-- REPLY_FRAME_END (R169): the end of the REPLY frame in progress; its entry leaves the reply queue, and the arbiter
scans (R173). The end of the RESTART reply makes the capture reset due, before which no frame starts (R179). -/
def execReplyFrameEnd (s : State) : Host.Outcome State Fault Refusal :=
  .next (match s.laneUse, s.link.replyQueue with
    | some .reply, .reply _ :: _ => s.popReply.endFrame.scan
    | some .restartReply, _ =>
      let t := s.endFrame
      { t with link := { t.link with restart := .resetDue } }
    | _, _ => s)

/-- NOTICE_FRAME_END (R171): the end of the NOTICE frame in progress, and the scan that follows it (R173). -/
def execNoticeFrameEnd (s : State) : Host.Outcome State Fault Refusal :=
  .next (if s.laneUse = some .notice then s.endFrame.scan else s)

/-! ## HOLD, the wait, the deferred replies -/

/-- HOLD_ASSERT (R174): no further frame starts. -/
def execHoldAssert (s : State) : Host.Outcome State Fault Refusal :=
  .next { s with link := { s.link with hold := true } }

/-- HOLD_RELEASE (R174): frames may start again, and with the lane idle the arbiter scans at once. -/
def execHoldRelease (s : State) : Host.Outcome State Fault Refusal :=
  .next ({ s with link := { s.link with hold := false } }).scan

/-- HEAD_AGE_WAIT (R48): the head age reaches the wait. The readiness it brings is read from the head age by the LANE_SCAN
that follows (log entry 4), so the event itself changes no state. -/
def execHeadAgeWait (s : State) : Host.Outcome State Fault Refusal := .next s

/-- Takes the first ANSWERED entry out of the table, with its answer (R170). -/
def takeAnswered : List Deferred → Option (Reply × List Deferred)
  | [] => none
  | e :: rest =>
    match e.answer with
    | some r => some (r, rest)
    | none => (takeAnswered rest).map fun p => (p.1, e :: p.2)

/-- The oldest ANSWERED entry moves into the reply queue when that has a free entry (R170). -/
def State.moveDeferred (s : State) : State :=
  match takeAnswered s.link.deferred with
  | none => s
  | some p =>
    if s.room 1 then ({ s with link := { s.link with deferred := p.2 } }).enqueue (.reply p.1) else s

/-- DEFERRED_REPLY_MOVE (R170). -/
def execDeferredReplyMove (s : State) : Host.Outcome State Fault Refusal := .next s.moveDeferred

end Sys2Proof.Machine
end

