-- ==== Sys2Proof/Machine/Receiver.lean ====
section
/-! DEFINITION. The frame receiver: what arrives on LRX (R165 to R167). -/

namespace Sys2Proof.Machine

/-- Sets the receiver's state. -/
def State.receive (s : State) (r : Receiver) : State := { s with link := { s.link with receiver := r } }

/-- The receiver is inside a frame (11.2). -/
def State.assembling (s : State) : Bool := s.link.receiver == .assembling

/-- SYNC_BYTE (R165): a byte C5h in HUNTING starts a frame. -/
def execSyncByte (s : State) : Host.Outcome State Fault Refusal :=
  .next (if s.assembling then s else s.receive .assembling)

/-- STRAY_BYTE (R165): a byte other than C5h in HUNTING is counted in STRAY. -/
def execStrayByte (b : Byte) (s : State) : Host.Outcome State Fault Refusal :=
  .next (if (Instr.strayByte b).wf ∧ !s.assembling then s.count .stray else s)

/-- LINE_ERROR (R165, R166): a framing error or a break is counted in LINE and leaves the receiver HUNTING. -/
def execLineError (s : State) : Host.Outcome State Fault Refusal :=
  .next ((s.count .line).receive .hunting)

/-- OVERSIZE_LENGTH (R166): a length above 1,024 discards the frame and is counted in OVERSIZE. -/
def execOversizeLength (len : BitVec 16) (s : State) : Host.Outcome State Fault Refusal :=
  .next (if (Instr.oversizeLength len).wf ∧ s.assembling then (s.count .oversize).receive .hunting else s)

/-- FRAME_GAP_TIMEOUT (R166): more than 2 ms between two bytes discards the frame and is counted in GAP. -/
def execFrameGapTimeout (s : State) : Host.Outcome State Fault Refusal :=
  .next (if s.assembling then (s.count .gap).receive .hunting else s)

/-- The receiver answers a command frame itself with BUSY: the reply joins the reply queue if that has a free entry, and
is dropped and counted in REPLY_LOST otherwise (R167). -/
def State.busyReply (s : State) (f : Command) : State :=
  let s := s.count .busy
  if s.room 1 then s.reply f .busy else s.count .replyLost

/-- Offers a correct command frame to the command queue (R167). -/
def State.offer (s : State) (f : Command) : State :=
  if s.link.cmdQueue.length < Config.cmdQueueMax then
    { s with link := { s.link with cmdQueue := s.link.cmdQueue ++ [f] } }
  else s.busyReply f

/-- The test of a complete frame: the check, then the kind (R166). -/
def State.acceptFrame (s : State) (kind tag : Byte) (payload : List Byte) (check : Byte) : State :=
  if check ≠ crc8 (frameCovered kind tag payload) then s.count .check
  else if kind ≠ 0x01#8 then s.count .stray
  else s.offer ⟨tag, payload⟩

/-- FRAME_COMPLETE (R166, R167): the check byte of the frame being assembled arrives. -/
def execFrameComplete (kind tag : Byte) (payload : List Byte) (check : Byte) (s : State) :
    Host.Outcome State Fault Refusal :=
  .next (if (Instr.frameComplete kind tag payload check).wf ∧ s.assembling then
    (s.receive .hunting).acceptFrame kind tag payload check else s)

end Sys2Proof.Machine
end

