-- ==== Sys2Proof/Machine/Resets.lean ====
section
/-! DEFINITION. The two resets: FULL_RESET, and the capture reset that ends a restart, block by block (R23, R45, R64, R81,
R89, R107, R117, R140, R154, R162, R180). -/

namespace Sys2Proof.Machine

/-- FULL_RESET (R23): every block at its full-reset values, whatever is in progress. The HOLD pin keeps the level the
host drives (log entry 31). -/
def execFullReset (s : State) : Host.Outcome State Fault Refusal :=
  .next { State.reset with
    pending := s.pending
    link := { State.reset.link with hold := s.link.hold } }

/-- A channel's restart values: settings, mismatch count and no-spare membership are kept (R23, R45, R89, R107, R140). -/
def Channel.restarted (ch : Channel) : Channel :=
  { Channel.reset with settings := ch.settings, mismatch := ch.mismatch, noSpare := ch.noSpare }

/-- The capture engine's restart values (R23, R81): the pattern pages are kept. -/
def Capture.restarted (k : Capture) : Capture := { State.reset.cap with pages := k.pages }

/-- The block store's restart values (R44, R45): the policy is kept. -/
def Store.restarted (st : Store) : Store :=
  { State.reset.store with shed := st.shed, keep := st.keep, reclaim := st.reclaim }

/-- The stream unit's restart values (R63, R64): threshold and wait are kept. -/
def Stream.restarted (u : Stream) : Stream := { u with enable := false, lastSent := 0 }

/-- The floor unit's restart values (R107): margin and takeover periods are kept. -/
def Floor.restarted (f : Floor) : Floor := { State.reset.floor with margin := f.margin, takeover := f.takeover }

/-- The link controller at the capture reset (R179, R180): the reply queue is emptied, the pending flags are cleared, the
position becomes 15 and the restarting phase ends. -/
def Link.restarted (l : Link) : Link :=
  { l with replyQueue := [], raised := 0#8, position := 15, lane := none, restart := .off }

/-- The trim unit at the capture reset (R140): SHADOW becomes SPARE, stuck counts 0, the rotation IDLE, the event list
empty; the rest is kept, the match sum with it (log entry 41). -/
def State.trimRestarted (s : State) : State :=
  let s := s.abandonRotation.clearStuck
  { s with trim := { s.trim with events := [], unlisted := 0 } }

/-- The capture reset: each block's restart values. The noise register, the feed output, the timebase and a trim in
progress run on (R140, R154, R162). -/
def State.captureReset (s : State) : State :=
  let t := s.trimRestarted.mapChans fun _ ch => ch.restarted
  { t with
    cap := s.cap.restarted
    store := s.store.restarted
    stream := s.stream.restarted
    marks := State.reset.marks
    floor := s.floor.restarted
    time := { s.time with events := [], unlisted := 0 }
    link := s.link.restarted }

/-- CAPTURE_RESET (R179): performed when the RESTART reply has ended. -/
def execCaptureReset (s : State) : Host.Outcome State Fault Refusal :=
  .next (if s.link.restart = .resetDue then s.captureReset else s)

end Sys2Proof.Machine
end

