-- ==== Sys2Proof/Machine/LinkCommands.lean ====
section
/-! DEFINITION. The link commands: UNKNOWN, IDENTIFY (R175), LINK_STATUS (R176), NOTICE_MASK (R177), LANE_SCHEDULE
(R178), RESTART (R179). -/

namespace Sys2Proof.Machine

/-- The command codes of R182. -/
def commandCodes : List Byte :=
  [0x01, 0x02, 0x03, 0x04, 0x05, 0x10, 0x11, 0x12, 0x13, 0x14, 0x15, 0x20, 0x21, 0x30, 0x31, 0x32, 0x33, 0x34, 0x40,
    0x41, 0x50, 0x51, 0x60, 0x61, 0x62, 0x63, 0x70, 0x71, 0x80]

/-- Whether a payload names no command: it is empty, or its code is none of the table's (R168, R182). -/
def Command.isUnknown (f : Command) : Bool := !(f.payload.head?.any fun b => commandCodes.contains b)

/-- UNKNOWN_COMMAND (R168): the head names no command and is answered UNKNOWN. -/
def execUnknownCommand (s : State) : Host.Outcome State Fault Refusal :=
  .next (match s.link.cmdQueue with
    | [] => s
    | f :: _ => if f.isUnknown ∧ s.engineFree ∧ s.room 1 then s.popCommand.reply f .unknown else s)

/-- The bytes of a schedule (R182). -/
def scheduleBytes (v : Vector Source 16) : List Byte := v.toList.flatMap fun x => be 1 x.code

/-- The data of IDENTIFY (R175, R183, log entry 21). -/
def State.identity (s : State) : List Byte :=
  [0x5A#8, 0x44#8, 0x43#8, 0x2D#8, 0x32#8, 0x34#8, 0x32#8, 0x36#8] ++ be 1 1 ++ be 1 24 ++ be 1 26
    ++ be 4 Config.storeSlots ++ be 1 8 ++ be 2 Config.payloadMax ++ be 1 Config.cmdQueueMax
    ++ be 1 Config.replyQueueMax ++ be 1 Config.deferredMax ++ be 1 16 ++ onOff s.trim.mapBuilt

/-- IDENTIFY (R175). -/
def execIdentify (s : State) : Host.Outcome State Fault Refusal :=
  .next (runCommand 0x01#8 ownReply (lengthIs 1) (fun f s => s.reply f .ok s.identity) s)

/-- The data of LINK_STATUS (R176). -/
def State.linkStatus (s : State) : List Byte :=
  s.link.counters.bytes ++ be 1 s.link.cmdQueue.length ++ be 1 s.link.replyQueue.length
    ++ be 1 (s.link.deferred.filter Deferred.waiting).length
    ++ be 1 (s.link.deferred.filter fun e => !e.waiting).length
    ++ scheduleBytes s.link.schedule ++ be 1 s.link.position.val ++ [s.link.enabled] ++ [s.link.raised]

/-- The counters and their held changes set to 0; LINK's pending flag stands (R176). -/
def State.clearCounters (s : State) : State :=
  { s with link := { s.link with counters := Counters.zero, changes := Counters.zero } }

/-- The body of LINK_STATUS (R176). -/
def linkStatusBody (f : Command) (s : State) : State :=
  match readOnOff (f.byte 1) with
  | none => s.reply f .range
  | some clear =>
    let t := s.reply f .ok s.linkStatus
    if clear then t.clearCounters else t

/-- LINK_STATUS (R176). -/
def execLinkStatus (s : State) : Host.Outcome State Fault Refusal :=
  .next (runCommand 0x02#8 ownReply (lengthIs 2) linkStatusBody s)

/-- The body of NOTICE_MASK (R177). -/
def noticeMaskBody (f : Command) (s : State) : State :=
  let t := { s with link := { s.link with enabled := f.payload.getD 1 0#8 } }
  t.reply f .ok [t.link.enabled, t.link.raised]

/-- NOTICE_MASK (R177). -/
def execNoticeMask (s : State) : Host.Outcome State Fault Refusal :=
  .next (runCommand 0x03#8 ownReply (lengthIs 2) noticeMaskBody s)

/-- The 16 sources of a LANE_SCHEDULE: none where an entry is none of R, N and B, or where one of the three is missing
(R178). -/
def Command.newSchedule (f : Command) : Option (Vector Source 16) :=
  match ((List.finRange 16).map fun i => readSource (f.byte (1 + i.val))).mapM id with
  | none => none
  | some l =>
    if l.contains .r && l.contains .n && l.contains .b then some (Vector.ofFn fun i => l.getD i.val .r) else none

/-- The body of LANE_SCHEDULE (R178). -/
def laneScheduleBody (f : Command) (s : State) : State :=
  match f.newSchedule with
  | none => s.reply f .range
  | some v =>
    let t := { s with link := { s.link with schedule := v } }
    t.reply f .ok (scheduleBytes v ++ be 1 t.link.position.val)

/-- LANE_SCHEDULE (R178). -/
def execLaneSchedule (s : State) : Host.Outcome State Fault Refusal :=
  .next (runCommand 0x04#8 ownReply (lengthIs 17) laneScheduleBody s)

/-- The pending set and the close request discarded without answers (R10, R179). -/
def State.dropPending (s : State) : State :=
  let t := s.mapChans fun _ ch => { ch with pendingSettings := PendingSettings.empty, pendingRoute := none }
  { t with cap := { t.cap with pendingProceeding := none, closeRequest := false } }

/-- The execution of a RESTART (R179): the frames behind it and the deferred entries are discarded, the pending set too,
and the reply is formed. -/
def restartBody (f : Command) (s : State) : State :=
  let r : Reply := ⟨f.tag, f.code, .ok,
    be 1 s.link.cmdQueue.length ++ be 1 s.link.deferred.length ++ onOff s.capturing⟩
  let t := s.dropPending
  { t with link := { t.link with cmdQueue := [], deferred := [], restart := .replyDue r } }

/-- RESTART (R179, R182): a payload of 1 byte executes whatever the room and the deferred-reply table, unless the part is
restarting; any other length waits for its reply entry and is answered BAD_LENGTH. -/
def execRestart (s : State) : Host.Outcome State Fault Refusal :=
  .next (match s.link.cmdQueue with
    | [] => s
    | f :: _ =>
      if f.payload = [0x05#8] then
        if s.link.restart = .off then restartBody f s.popCommand else s
      else runCommand 0x05#8 ownReply (fun _ => false) (fun _ s => s) s)

end Sys2Proof.Machine
end

