-- ==== Sys2Proof/Machine/CaptureCommands.lean ====
section
/-! DEFINITION. The capture commands: OPEN_CAPTURE (R2, R3), CLOSE_CAPTURE (R12), SET_CHANNEL (R15), GET_CHANNEL (R16),
LOAD_PATTERN (R17), ROUTE_PATTERN (R18). -/

namespace Sys2Proof.Machine

/-! ## OPEN_CAPTURE -/

/-- A channel at an OPEN_CAPTURE: counts, chain, activity and supply mark start afresh (R1, R38, R82, R91). -/
def Channel.opened (ch : Channel) : Channel :=
  { ch with
    pendingSettings := PendingSettings.empty
    pendingRoute := none
    block := none
    seqCount := 0
    lastSeq := none
    gapTally := 0
    starved := false
    chain := 0xFFFFFFFF#32
    activity := .quiet
    hangCounter := 0 }

/-- The part with a capture opened, before the trim unit's work and the opening allocation (R2, R78, R82, R94, R112,
R149). -/
def State.openState (s : State) : State :=
  let t := s.mapChans fun _ ch => ch.opened
  let n := (s.cap.number + 1) % 65536
  ({ t with
    cap := { t.cap with
      state := .capturing, number := n, period := 0, instant := 0, closeRequest := false
      proceeding := .recess, pendingProceeding := none }
    marks := { t.marks with sequence := 0, chain := 0xFFFFFFFF#32 }
    floor := { t.floor with holder := none, challenger := none, lastDecision := none }
    time := { t.time with stepMark := false } }).addChange ⟨n, 0, s.cap.proceeding, .recess, .opened⟩

/-- An OPEN_CAPTURE that is taken, with its opening allocation (R2, R3, R133). -/
def State.openCapture (s : State) : State :=
  let t := s.openState.trimOpenWork
  (t.takeMarkers 0 .recess t.stampNow).allocate

/-- The body of OPEN_CAPTURE (R2). -/
def openCaptureBody (f : Command) (s : State) : State :=
  if s.capturing then s.reply f .state
  else if !s.trim.mapBuilt then s.reply f .notReady
  else if s.atLimit then s.reply f .state
  else
    let t := s.openCapture
    t.reply f .ok (be 2 t.cap.number)

/-- OPEN_CAPTURE (R2). -/
def execOpenCapture (s : State) : Host.Outcome State Fault Refusal :=
  .next (runCommand 0x10#8 ownReply (lengthIs 1) openCaptureBody s)

/-! ## CLOSE_CAPTURE -/

/-- A deferred CLOSE_CAPTURE. -/
def Deferred.isClose (e : Deferred) : Bool := e.request == .close

/-- Room for CLOSE_CAPTURE: two entries while a deferred close request is held (R168, log entry 28). -/
def closeNeed (_ : Command) (s : State) : Nat :=
  1 + (s.link.deferred.filter fun e => e.waiting && e.isClose).length

/-- The body of CLOSE_CAPTURE (R12). -/
def closeCaptureBody (f : Command) (s : State) : State :=
  match readOnOff (f.byte 1) with
  | none => s.reply f .range
  | some option =>
    if !s.capturing then s.reply f .state
    else
      let t := s.supersede Deferred.isClose fun _ => []
      { t with cap := { t.cap with closeRequest := true } }.answerTaken f option .close

/-- CLOSE_CAPTURE (R12). -/
def execCloseCapture (s : State) : Host.Outcome State Fault Refusal :=
  .next (runCommand 0x11#8 closeNeed (lengthIs 2) closeCaptureBody s)

/-! ## SET_CHANNEL -/

/-- Whether a field of SET_CHANNEL is selected (R182). -/
def Command.fieldSelected (f : Command) (i : Nat) : Bool := (f.num 4 2).testBit i

/-- A selected field's value; none where the field is not selected. -/
def Command.field {α : Type} (f : Command) (i : Nat) (value : α) : Option α :=
  if f.fieldSelected i then some value else none

/-- The selected fields of a SET_CHANNEL; none where a selected value is out of range (R15, R181). -/
def Command.selectedSettings (f : Command) : Option PendingSettings :=
  let enable := readOnOff (f.byte 6)
  let cls := readClass (f.byte 9)
  let bench := readOnOff (f.byte 10)
  let floorEligible := readOnOff (f.byte 11)
  let feedInclude := readOnOff (f.byte 12)
  if (f.fieldSelected 0 && enable.isNone) || (f.fieldSelected 2 && cls.isNone)
      || (f.fieldSelected 3 && bench.isNone) || (f.fieldSelected 4 && floorEligible.isNone)
      || (f.fieldSelected 5 && feedInclude.isNone) || (f.fieldSelected 6 && decide (61 < f.byte 13))
      || (f.fieldSelected 7 && decide (61 < f.byte 14)) || (f.fieldSelected 8 && decide (250 < f.byte 15)) then none
  else some {
    enable := if f.fieldSelected 0 then enable else none
    gain := f.field 1 (f.num 7 2)
    cls := if f.fieldSelected 2 then cls else none
    bench := if f.fieldSelected 3 then bench else none
    floorEligible := if f.fieldSelected 4 then floorEligible else none
    feedInclude := if f.fieldSelected 5 then feedInclude else none
    openCode := f.field 6 (f.byte 13)
    closeCode := f.field 7 (f.byte 14)
    hang := f.field 8 (f.byte 15) }

/-- The settings that would result for a channel: selected over pending over in force (R15). -/
def Channel.resulting (ch : Channel) (sel : PendingSettings) : Settings :=
  ch.settings.over (ch.pendingSettings.merge sel)

/-- SET_CHANNEL passes its whole check: both masks are sound, the option is one, selected values are in range and no
selected channel's close code would exceed its open code (R15, R181). -/
def Command.checkedSettings (f : Command) (s : State) : Option (PendingSettings × Bool) :=
  if f.num 1 3 = 0 ∨ f.num 4 2 = 0 ∨ 512 ≤ f.num 4 2 then none
  else
    match readOnOff (f.byte 16), f.selectedSettings with
    | some option, some sel =>
      if allChans.all fun c => !f.selects c
          || decide (((s.chan c).resulting sel).closeCode ≤ ((s.chan c).resulting sel).openCode) then
        some (sel, option)
      else none
    | _, _ => none

/-- Settings written at once in STANDBY; a channel disabled becomes QUIET (R15, R93). -/
def Channel.writeSettings (sel : PendingSettings) (ch : Channel) : Channel :=
  let st := ch.settings.over sel
  { ch with
    settings := st
    activity := if st.enable then ch.activity else .quiet
    hangCounter := if st.enable then ch.hangCounter else 0 }

/-- The body of SET_CHANNEL (R15). -/
def setChannelBody (f : Command) (s : State) : State :=
  match f.checkedSettings s with
  | none => s.reply f .range
  | some (sel, option) =>
    if s.capturing then
      (s.mapChans fun c ch =>
        if f.selects c then { ch with pendingSettings := ch.pendingSettings.merge sel } else ch).answerTaken
        f option .settings
    else (s.mapChans fun c ch => if f.selects c then ch.writeSettings sel else ch).reply f .ok

/-- SET_CHANNEL (R15). -/
def execSetChannel (s : State) : Host.Outcome State Fault Refusal :=
  .next (runCommand 0x12#8 ownReply (lengthIs 17) setChannelBody s)

/-! ## GET_CHANNEL -/

/-- The nine settings in SET_CHANNEL's order (R182). -/
def Settings.bytes (x : Settings) : List Byte :=
  onOff x.enable ++ be 2 x.gain ++ be 1 x.cls.code ++ onOff x.bench ++ onOff x.floorEligible ++ onOff x.feedInclude
    ++ be 1 x.openCode ++ be 1 x.closeCode ++ be 1 x.hang

/-- The field-select mask and the nine values of pending settings, 0 in each field not pending (R183). -/
def PendingSettings.bytes (p : PendingSettings) : List Byte :=
  be 2 p.mask ++ onOff (p.enable.getD false) ++ be 2 (p.gain.getD 0) ++ be 1 ((p.cls.map Class.code).getD 0)
    ++ onOff (p.bench.getD false) ++ onOff (p.floorEligible.getD false) ++ onOff (p.feedInclude.getD false)
    ++ be 1 (p.openCode.getD 0) ++ be 1 (p.closeCode.getD 0) ++ be 1 (p.hang.getD 0)

/-- The data of GET_CHANNEL (R16, R183). One byte is both the pending-settings flag and the presence byte of the pending
fields: log entry 26. -/
def State.channelData (s : State) (c : Chan) : List Byte :=
  let ch := s.chan c
  ch.settings.bytes
    ++ optional PendingSettings.bytes (if ch.pendingSettings.mask = 0 then none else some ch.pendingSettings)
    ++ be 1 ch.route.code ++ optional (fun r => be 1 r.route.code) ch.pendingRoute ++ be 1 ch.activity.code
    ++ convOr255 (s.servingConv c) ++ be 1 ch.lastLevel ++ be 4 ch.seqCount
    ++ be 4 ch.gapTally

/-- The body of GET_CHANNEL (R16). -/
def getChannelBody (f : Command) (s : State) : State :=
  match readChan (f.byte 1) with
  | none => s.reply f .range
  | some c => s.reply f .ok (s.channelData c)

/-- GET_CHANNEL (R16). -/
def execGetChannel (s : State) : Host.Outcome State Fault Refusal :=
  .next (runCommand 0x13#8 ownReply (lengthIs 2) getChannelBody s)

/-! ## LOAD_PATTERN -/

/-- The page a LOAD_PATTERN carries (R182). -/
def Command.page (f : Command) : Vector Sample 320 := Vector.ofFn fun j => f.sample j.val

/-- The body of LOAD_PATTERN (R17). -/
def loadPatternBody (f : Command) (s : State) : State :=
  if h : f.byte 1 < 4 then
    { s with cap := { s.cap with pages := s.cap.pages.set (f.byte 1) f.page h } }.reply f .ok
  else s.reply f .range

/-- LOAD_PATTERN (R17). -/
def execLoadPattern (s : State) : Host.Outcome State Fault Refusal :=
  .next (runCommand 0x14#8 ownReply (lengthIs 642) loadPatternBody s)

/-! ## ROUTE_PATTERN -/

/-- Whether a pending route placed by request `n` stands on some channel. -/
def State.routeStands (s : State) (n : Nat) : Bool :=
  allChans.any fun c => (s.chan c).pendingRoute.any fun r => r.request == n

/-- A deferred ROUTE_PATTERN none of whose pending routes stands any longer (R11). -/
def State.routeGone (s : State) (e : Deferred) : Bool :=
  match e.request with
  | .route n => !s.routeStands n
  | .settings | .proceeding _ | .close => false

/-- A ROUTE_PATTERN that passes its own tests: the target and the option (R18). -/
def Command.checkedRoute (f : Command) : Option (Route × Bool) :=
  if f.num 1 3 = 0 then none
  else
    match readRoute (f.byte 4), readOnOff (f.byte 5) with
    | some r, some option => some (r, option)
    | _, _ => none

/-- A record state is in force or pending (R18). -/
def State.recordState (s : State) : Bool :=
  s.cap.proceeding.isRecord || s.cap.pendingProceeding.any Proceeding.isRecord

/-- The pending routes of the selected channels replaced by those of a new request (R10). -/
def State.placeRoutes (s : State) (f : Command) (r : Route) : State :=
  let t := s.mapChans fun c ch => if f.selects c then { ch with pendingRoute := some ⟨r, s.cap.nextRequest⟩ } else ch
  { t with cap := { t.cap with nextRequest := s.cap.nextRequest + 1 } }

/-- Room for ROUTE_PATTERN: one, and one for each deferred ROUTE_PATTERN whose last pending route it replaces (R168). -/
def routeNeed (f : Command) (s : State) : Nat :=
  if !lengthIs 6 f then 1
  else
    match f.checkedRoute with
    | none => 1
    | some (r, _) =>
      if s.capturing && !s.recordState then
        1 + (s.link.deferred.filter fun e => e.waiting && (s.placeRoutes f r).routeGone e).length
      else 1

/-- The body of ROUTE_PATTERN (R18). -/
def routePatternBody (f : Command) (s : State) : State :=
  match f.checkedRoute with
  | none => s.reply f .range
  | some (r, option) =>
    if !s.capturing then
      (s.mapChans fun c ch => if f.selects c then { ch with route := r } else ch).reply f .ok
    else if s.recordState then s.reply f .state
    else
      let n := s.cap.nextRequest
      let t := s.placeRoutes f r
      (t.supersede t.routeGone fun _ => []).answerTaken f option (.route n)

/-- ROUTE_PATTERN (R18). -/
def execRoutePattern (s : State) : Host.Outcome State Fault Refusal :=
  .next (runCommand 0x15#8 routeNeed (lengthIs 6) routePatternBody s)

end Sys2Proof.Machine
end

