-- ==== Sys2Proof/Machine/ProceedingCommands.lean ====
section
/-! DEFINITION. SET_PROCEEDING (R66 to R70) and PROCEEDING_STATUS (R80). -/

namespace Sys2Proof.Machine

/-- A deferred SET_PROCEEDING. -/
def Deferred.isProceeding (e : Deferred) : Bool :=
  match e.request with
  | .proceeding _ => true
  | .settings | .route _ | .close => false

/-- The data of a SUPERSEDED answer to a deferred SET_PROCEEDING; a ROUTE_PATTERN's carries none (R183). -/
def State.supersededData (s : State) (e : Deferred) : List Byte :=
  match e.request with
  | .proceeding p => s.proceedingData p
  | .settings | .route _ | .close => []

/-- A SET_PROCEEDING that passes its range tests: requested state and option (R66). -/
def Command.checkedProceeding (f : Command) : Option (Proceeding × Bool) :=
  match readRequested (f.byte 1), readOnOff (f.byte 2) with
  | some p, some option => some (p, option)
  | _, _ => none

/-- The pending proceeding discarded by a request that names the state in force (R68). -/
def State.cancelProceeding (s : State) : State :=
  { s with cap := { s.cap with pendingProceeding := none } }

/-- Steps 1 to 3 of R69 but for the answers: the pending proceeding is replaced, and a record state discards every
pending route. -/
def State.placeProceeding (s : State) (p : Proceeding) : State :=
  let t := if p.isRecord then s.mapChans fun _ ch => { ch with pendingRoute := none } else s
  { t with cap := { t.cap with pendingProceeding := some p } }

/-- The entries a taken SET_PROCEEDING answers SUPERSEDED: the replaced request's, and those of a ROUTE_PATTERN whose last
pending route is discarded (R69); `after` is the state with the pending set changed. -/
def State.overtaken (after : State) (e : Deferred) : Bool := e.isProceeding || after.routeGone e

/-- Room for SET_PROCEEDING: one, and one for each deferred reply that R68 or R69 answers SUPERSEDED; a request that is
refused, a wrong length among the refusals, needs one (R70). -/
def proceedingNeed (f : Command) (s : State) : Nat :=
  if !lengthIs 3 f then 1
  else
    match f.checkedProceeding with
    | none => 1
    | some (p, _) =>
      if !s.capturing then 1
      else if p = s.cap.proceeding then
        1 + (s.link.deferred.filter fun e => e.waiting && e.isProceeding).length
      else if transitionAllowed s.cap.proceeding p then
        1 + (s.link.deferred.filter fun e => e.waiting && (s.placeProceeding p).overtaken e).length
      else 1

/-- The body of SET_PROCEEDING (R66 to R69). A request for the state in force leaves the SUPERSEDED answer ahead of its own
OK in the reply queue (log entry 39). -/
def setProceedingBody (f : Command) (s : State) : State :=
  match f.checkedProceeding with
  | none => s.reply f .range
  | some (p, option) =>
    if !s.capturing then s.reply f .state
    else if p = s.cap.proceeding then
      let t := s.cancelProceeding
      let t := t.supersede Deferred.isProceeding t.supersededData
      t.reply f .ok (t.proceedingData p)
    else if transitionAllowed s.cap.proceeding p then
      let t := s.placeProceeding p
      let t := t.supersede t.overtaken t.supersededData
      t.answerTaken f option (.proceeding p) (t.proceedingData p)
    else s.reply f .state

/-- SET_PROCEEDING (R66). -/
def execSetProceeding (s : State) : Host.Outcome State Fault Refusal :=
  .next (runCommand 0x20#8 proceedingNeed (lengthIs 3) setProceedingBody s)

/-- The data of PROCEEDING_STATUS (R80). -/
def State.proceedingStatus (s : State) : List Byte :=
  be 1 s.cap.state.code ++ be 1 s.cap.proceeding.code ++ optional (fun p => be 1 p.code) s.cap.pendingProceeding
    ++ onOff (s.link.deferred.any fun e => e.waiting && e.isProceeding) ++ onOff s.cap.closeRequest
    ++ be 2 s.cap.number ++ be 4 s.cap.period ++ be 1 s.cap.changes.length

/-- PROCEEDING_STATUS (R80). -/
def execProceedingStatus (s : State) : Host.Outcome State Fault Refusal :=
  .next (runCommand 0x21#8 ownReply (lengthIs 1) (fun f s => s.reply f .ok s.proceedingStatus) s)

end Sys2Proof.Machine
end

