-- ==== Sys2Proof/Machine/StoreCommands.lean ====
section
/-! DEFINITION. STORE_POLICY (R42), STORE_STATUS (R43), STREAM_CONTROL (R53), RELEASE (R54), READ_HELD (R57). -/

namespace Sys2Proof.Machine

/-- The policy taken: the three settings, and the level state formed again (R42). -/
def State.setPolicy (s : State) (shed keep : Nat) (reclaim : Bool) : State :=
  let t := { s with store := { s.store with shed := shed, keep := keep, reclaim := reclaim } }
  if t.store.level = s.store.level then t else t.raise .store

/-- The policy in force as the three settings of STORE_POLICY. -/
def Store.policyBytes (st : Store) : List Byte := be 2 st.shed ++ be 2 st.keep ++ onOff st.reclaim

/-- The body of STORE_POLICY (R42). -/
def storePolicyBody (f : Command) (s : State) : State :=
  match readOnOff (f.byte 5) with
  | none => s.reply f .range
  | some reclaim =>
    if f.num 1 2 < f.num 3 2 then s.reply f .range
    else
      let t := s.setPolicy (f.num 1 2) (f.num 3 2) reclaim
      t.reply f .ok (t.store.policyBytes ++ be 1 t.store.level.code)

/-- STORE_POLICY (R42). -/
def execStorePolicy (s : State) : Host.Outcome State Fault Refusal :=
  .next (runCommand 0x30#8 ownReply (lengthIs 6) storePolicyBody s)

/-- The data of STORE_STATUS (R43): at most 24 slots are FILLING (R27) and at most one is SENDING (R50). Log entry 22: the
sizes of the other counts, and the lowest and the highest number in custody as two optional fields. -/
def State.storeStatus (s : State) : List Byte :=
  be 4 s.store.free ++ be 1 s.fillingCount ++ be 4 s.store.posted.length ++ be 1 s.store.sending.isSome.toNat
    ++ be 4 s.store.custody.length ++ be 4 (s.store.custody.filter fun h => 0 < h.pins).length
    ++ be 4 (s.store.custody.filter HeldSlot.releasePending).length ++ be 1 s.store.level.code
    ++ s.store.policyBytes ++ be 4 s.store.lastCustody
    ++ optional (fun p : PostedSlot => be 4 p.record.custody) s.store.posted.head?
    ++ optional (fun h : HeldSlot => be 4 h.record.custody) s.store.custody.head?
    ++ optional (fun h : HeldSlot => be 4 h.record.custody) s.store.custody.getLast?
    ++ be 4 s.store.reclaimCount ++ (allChans.flatMap fun c => be 4 (s.chan c).starvation)
    ++ chanSet (fun c => (s.chan c).starved)

/-- STORE_STATUS (R43). -/
def execStoreStatus (s : State) : Host.Outcome State Fault Refusal :=
  .next (runCommand 0x31#8 ownReply (lengthIs 1) (fun f s => s.reply f .ok s.storeStatus) s)

/-- The data of STREAM_CONTROL (R53); the size of the posted count is log entry 22. -/
def State.streamData (s : State) : List Byte :=
  onOff s.stream.enable ++ be 2 s.stream.threshold ++ be 2 s.stream.wait ++ be 4 s.store.posted.length
    ++ be 4 s.stream.lastSent ++ optional (fun r : Record => be 4 r.custody) s.store.sending

/-- The body of STREAM_CONTROL (R53). -/
def streamControlBody (f : Command) (s : State) : State :=
  match readOnOff (f.byte 1) with
  | none => s.reply f .range
  | some enable =>
    if f.num 2 2 = 0 ∨ 256 < f.num 2 2 ∨ 1000 < f.num 4 2 then s.reply f .range
    else
      let t := { s with stream := { s.stream with
        enable := enable, threshold := f.num 2 2, wait := f.num 4 2 } }
      t.reply f .ok t.streamData

/-- STREAM_CONTROL (R53). -/
def execStreamControl (s : State) : Host.Outcome State Fault Refusal :=
  .next (runCommand 0x32#8 ownReply (lengthIs 6) streamControlBody s)

/-! ## RELEASE -/

/-- A release up to `k` frees this custody slot (R54). -/
def HeldSlot.releasedBy (k : Nat) (h : HeldSlot) : Bool := decide (h.record.custody ≤ k) && h.eligible

/-- A release up to `k` marks this custody slot release-pending (R54). -/
def HeldSlot.deferredBy (k : Nat) (h : HeldSlot) : Bool :=
  decide (h.record.custody ≤ k) && decide (0 < h.pins) && !h.releasePending

/-- A slot that stays in custody after a release up to `k` (R54). -/
def HeldSlot.afterRelease (k : Nat) (h : HeldSlot) : HeldSlot :=
  if h.deferredBy k then { h with releasePending := true } else h

/-- A taken RELEASE up to `k` (R54, R55). -/
def State.releaseTo (s : State) (k : Nat) : State :=
  let l := s.store.custody
  let t := { s with store := { s.store with
    custody := (l.filter fun h : HeldSlot => !h.releasedBy k).map (HeldSlot.afterRelease k) } }
  t.setFree (s.store.free + (l.filter (HeldSlot.releasedBy k)).length)

/-- The body of RELEASE (R54); the 4 bytes of the freed count and of the deferred count are log entry 22. -/
def releaseBody (f : Command) (s : State) : State :=
  let k := f.num 1 4
  if s.stream.lastSent < k then s.reply f .range
  else
    (s.releaseTo k).reply f .ok
      (be 4 (s.store.custody.filter (HeldSlot.releasedBy k)).length
        ++ be 4 (s.store.custody.filter (HeldSlot.deferredBy k)).length ++ be 4 s.stream.lastSent)

/-- RELEASE (R54). -/
def execRelease (s : State) : Host.Outcome State Fault Refusal :=
  .next (runCommand 0x33#8 ownReply (lengthIs 5) releaseBody s)

/-! ## READ_HELD -/

/-- Room for READ_HELD: two entries, taken or not (R57, R168). -/
def readHeldNeed (_ : Command) (_ : State) : Nat := 2

/-- The custody slot numbered `k`. -/
def Store.held (st : Store) (k : Nat) : Option HeldSlot := st.custody.find? fun h => h.record.custody == k

/-- One more pin on custody number `k` (R58). -/
def HeldSlot.pin (k : Nat) (h : HeldSlot) : HeldSlot :=
  if h.record.custody = k then { h with pins := h.pins + 1 } else h

/-- A taken READ_HELD: the pin, the REREAD copy, then the reply (R58). -/
def State.readHeld (s : State) (f : Command) (k : Nat) (h : HeldSlot) : State :=
  let t := { s with store := { s.store with custody := s.store.custody.map (HeldSlot.pin k) } }
  (t.enqueue (.copy k)).reply f .ok (be 4 k ++ be 1 (h.pins + 1))

/-- The body of READ_HELD (R57). -/
def readHeldBody (f : Command) (s : State) : State :=
  match s.store.held (f.num 1 4) with
  | some h => s.readHeld f (f.num 1 4) h
  | none => s.reply f .notHeld

/-- READ_HELD (R57). -/
def execReadHeld (s : State) : Host.Outcome State Fault Refusal :=
  .next (runCommand 0x34#8 readHeldNeed (lengthIs 5) readHeldBody s)

end Sys2Proof.Machine
end

