-- ==== Sys2Proof/Machine/MarkerCommands.lean ====
section
/-! DEFINITION. PUT_MARKER (R109) and MARKER_STATUS (R116). -/

namespace Sys2Proof.Machine

/-- The length test of PUT_MARKER: the four fixed fields and the declared text, code included (R109, R182). -/
def markerLength (f : Command) : Bool :=
  decide (5 ≤ f.payload.length) && decide (f.payload.length = 5 + f.byte 4)

/-- A text byte a marker may hold (R109). -/
def textByte (b : Byte) : Bool := decide (0x20 ≤ b.toNat) && decide (b.toNat ≤ 0x7E)

/-- The channel of a marker: 0..23, or 255 for absent (R109). -/
def readMarkerChannel (n : Nat) : Option (Option Chan) :=
  if n = 255 then some none else (readChan n).map some

/-- The slot and the marker of a PUT_MARKER that passes its range tests (R109). -/
def Command.checkedMarker (f : Command) : Option (Fin 8 × Marker) :=
  if h : f.byte 1 < 8 then
    match readMarkerKind (f.byte 2), readMarkerChannel (f.byte 3) with
    | some kind, some ch =>
      if f.byte 4 ≤ 48 ∧ (f.payload.drop 5).all textByte then
        some (⟨f.byte 1, h⟩, ⟨kind, ch, f.payload.drop 5⟩)
      else none
    | _, _ => none
  else none

/-- The body of PUT_MARKER (R109). -/
def putMarkerBody (f : Command) (s : State) : State :=
  match f.checkedMarker with
  | none => s.reply f .range
  | some (i, m) =>
    if !s.capturing then s.reply f .state
    else if (s.marks.slots.get i).isSome then s.reply f .full
    else
      let t := { s with marks := { s.marks with slots := s.marks.slots.set i (some m) } }
      t.reply f .ok (be 1 i.val ++ be 4 t.cap.period ++ be 1 t.marks.fullEntries.length)

/-- PUT_MARKER (R109). -/
def execPutMarker (s : State) : Host.Outcome State Fault Refusal :=
  .next (runCommand 0x40#8 ownReply markerLength putMarkerBody s)

/-- One marker slot in MARKER_STATUS: EMPTY, or FULL with kind, channel, text length and text (R116). -/
def slotBytes : Option Marker → List Byte
  | none => [0x00#8]
  | some m => 0x01#8 :: (be 1 m.kind.code ++ chanOr255 m.channel ++ be 1 m.text.length ++ m.text)

/-- The data of MARKER_STATUS (R116, log entry 24). -/
def State.markerStatus (s : State) : List Byte :=
  counted slotBytes s.marks.slots.toList ++ be 4 s.marks.sequence ++ be 2 s.marks.refusals
    ++ be 1 s.marks.takings.length ++ be 1 s.marks.unlisted

/-- MARKER_STATUS (R116). -/
def execMarkerStatus (s : State) : Host.Outcome State Fault Refusal :=
  .next (runCommand 0x41#8 ownReply (lengthIs 1) (fun f s => s.reply f .ok s.markerStatus) s)

end Sys2Proof.Machine
end

