-- ==== Sys2Proof/Machine/FloorCommands.lean ====
section
/-! DEFINITION. FLOOR_CONFIG (R105) and FLOOR_STATUS (R106). -/

namespace Sys2Proof.Machine

/-- The challenger record as an optional field: channel and count (R105, R106). -/
def Floor.challengerBytes (x : Floor) : List Byte :=
  optional (fun p : Chan × Nat => be 1 p.1.val ++ be 1 p.2) x.challenger

/-- The body of FLOOR_CONFIG (R105). -/
def floorConfigBody (f : Command) (s : State) : State :=
  if f.byte 1 = 0 ∨ 61 < f.byte 1 ∨ f.byte 2 = 0 ∨ 50 < f.byte 2 then s.reply f .range
  else
    let t := { s with floor := { s.floor with margin := f.byte 1, takeover := f.byte 2 } }
    t.reply f .ok (be 1 t.floor.margin ++ be 1 t.floor.takeover ++ t.floor.challengerBytes)

/-- FLOOR_CONFIG (R105). -/
def execFloorConfig (s : State) : Host.Outcome State Fault Refusal :=
  .next (runCommand 0x50#8 ownReply (lengthIs 3) floorConfigBody s)

/-- The data of FLOOR_STATUS (R106). -/
def State.floorStatus (s : State) : List Byte :=
  chanOr255 s.floor.holder ++ s.floor.challengerBytes ++ be 1 s.floor.margin ++ be 1 s.floor.takeover
    ++ be 1 s.floor.log.length ++ be 1 s.floor.overrun ++ optional (be 4) s.floor.lastDecision
    ++ allChans.flatMap fun c => be 1 (s.chan c).activity.code ++ be 1 (s.chan c).lastLevel

/-- FLOOR_STATUS (R106). -/
def execFloorStatus (s : State) : Host.Outcome State Fault Refusal :=
  .next (runCommand 0x51#8 ownReply (lengthIs 1) (fun f s => s.reply f .ok s.floorStatus) s)

end Sys2Proof.Machine
end

