-- ==== Sys2Proof/Machine/ConverterCommands.lean ====
section
/-! DEFINITION. TRIM_CONFIG (R136), CONVERTER_STATUS (R137), TRIM_NOW (R138), CONVERTER_RESTORE (R139), FEED_CONFIG
(R161). -/

namespace Sys2Proof.Machine

/-- TRIM_CONFIG taken: an interval of 0 makes a DUE rotation without a named target IDLE (R136). -/
def State.configureTrim (s : State) (interval limit : Nat) : State :=
  { s with trim := { s.trim with
      interval := interval
      limit := limit
      rotation := if interval = 0 ∧ s.trim.rotation = .due ∧ s.trim.named = none then .idle
        else s.trim.rotation } }

/-- The body of TRIM_CONFIG (R136). -/
def trimConfigBody (f : Command) (s : State) : State :=
  if 3600 < f.num 1 2 ∨ f.num 3 2 = 0 then s.reply f .range
  else
    let t := s.configureTrim (f.num 1 2) (f.num 3 2)
    t.reply f .ok (be 2 t.trim.interval ++ be 2 t.trim.limit ++ be 1 t.trim.rotation.code ++ be 4 t.trim.timer)

/-- TRIM_CONFIG (R136). -/
def execTrimConfig (s : State) : Host.Outcome State Fault Refusal :=
  .next (runCommand 0x60#8 ownReply (lengthIs 5) trimConfigBody s)

/-- One converter in CONVERTER_STATUS (R137). -/
def State.converterBytes (s : State) (v : Conv) : List Byte :=
  be 1 (s.conv v).state.code ++ beInt 2 (s.conv v).offset ++ optional (be 6) (s.conv v).doneAt
    ++ be 1 (s.conv v).stuck ++ chanOr255 (s.channelOf v)

/-- The trim engine in CONVERTER_STATUS: idle or the kind of trim, the converter, the sample instants remaining, and
whether it is reserved (R137); an idle engine has no converter and no sample instants (R181, log entry 23). -/
def State.engineBytes (s : State) : List Byte :=
  be 1 (s.trim.engine.elim 0 fun e => e.kind.code) ++ convOr255 (s.trim.engine.map Engine.conv)
    ++ optional (be 2) (s.trim.engine.map Engine.remaining) ++ onOff s.engineReserved

/-- The rotation record in CONVERTER_STATUS; spare, target and channel are 255 unless SHADOWING (R137, log entry 23). -/
def State.rotationBytes (s : State) : List Byte :=
  be 1 s.trim.rotation.code ++ convOr255 s.trim.named ++ convOr255 (s.shadowing.map Shadow.spare)
    ++ convOr255 (s.shadowing.map Shadow.target) ++ chanOr255 (s.shadowing.map Shadow.channel)
    ++ be 6 s.trim.matchSum ++ be 4 s.trim.timer ++ be 2 s.trim.interval ++ be 2 s.trim.limit

/-- The data of CONVERTER_STATUS (R137, log entry 23). -/
def State.converterStatus (s : State) : List Byte :=
  allConvs.flatMap s.converterBytes ++ optional (fun _ : Unit => s.mapBytes) (if s.trim.mapBuilt then some () else none)
    ++ s.engineBytes ++ s.rotationBytes ++ (allChans.flatMap fun c => be 1 (s.chan c).mismatch)
    ++ chanSet (fun c => (s.chan c).noSpare) ++ be 6 s.trim.trimClock ++ be 1 s.trim.events.length
    ++ be 1 s.trim.unlisted

/-- CONVERTER_STATUS (R137). -/
def execConverterStatus (s : State) : Host.Outcome State Fault Refusal :=
  .next (runCommand 0x61#8 ownReply (lengthIs 1) (fun f s => s.reply f .ok s.converterStatus) s)

/-- A SERVING converter becomes the named target, and an IDLE rotation becomes DUE (R138). -/
def State.nameTarget (s : State) (v : Conv) : State :=
  { s with trim := { s.trim with
      named := some v
      rotation := if s.trim.rotation = .idle then .due else s.trim.rotation } }

/-- The body of TRIM_NOW (R138, log entry 23). -/
def trimNowBody (f : Command) (s : State) : State :=
  match readConv (f.byte 1) with
  | none => s.reply f .range
  | some v =>
    match (s.conv v).state with
    | .serving =>
      if !s.capturing then s.reply f .state
      else if s.trim.rotation = .shadowing then s.reply f .notReady
      else (s.nameTarget v).reply f .ok (be 1 ConvState.serving.code ++ optional (be 2) none)
    | .spare =>
      if s.engineBusy then s.reply f .notReady
      else (s.startTrim v .short).reply f .ok
        (be 1 ConvState.trimming.code ++ optional (be 2) (some Config.shortTrim))
    | .untrimmed | .trimming | .shadow | .faulted => s.reply f .state

/-- TRIM_NOW (R138). -/
def execTrimNow (s : State) : Host.Outcome State Fault Refusal :=
  .next (runCommand 0x62#8 ownReply (lengthIs 2) trimNowBody s)

/-- The body of CONVERTER_RESTORE (R139). -/
def converterRestoreBody (f : Command) (s : State) : State :=
  match readConv (f.byte 1) with
  | none => s.reply f .range
  | some v =>
    if (s.channelOf v).isSome ∨ (s.conv v).state ≠ .faulted then s.reply f .state
    else if s.engineBusy then s.reply f .notReady
    else (s.startTrim v .long).reply f .ok (be 1 ConvState.trimming.code ++ be 2 Config.longTrim)

/-- CONVERTER_RESTORE (R139). -/
def execConverterRestore (s : State) : Host.Outcome State Fault Refusal :=
  .next (runCommand 0x63#8 ownReply (lengthIs 2) converterRestoreBody s)

/-- TRIM_END (R121): a trim that has run its sample instants ends. -/
def execTrimEnd (s : State) : Host.Outcome State Fault Refusal :=
  .next (if s.trimDue then s.completeTrim s.cap.period else s)

/-- The body of FEED_CONFIG (R161). -/
def feedConfigBody (f : Command) (s : State) : State :=
  match readMasking (f.byte 3) with
  | none => s.reply f .range
  | some masking =>
    let t := { s with feed := { s.feed with multiplier := f.num 1 2, masking := masking } }
    t.reply f .ok (be 2 t.feed.multiplier ++ be 1 (maskingCode t.feed.masking) ++ be 4 t.feed.satCount)

/-- FEED_CONFIG (R161). -/
def execFeedConfig (s : State) : Host.Outcome State Fault Refusal :=
  .next (runCommand 0x80#8 ownReply (lengthIs 4) feedConfigBody s)

end Sys2Proof.Machine
end

