-- ==== Sys2Proof/Machine/Timebase.lean ====
section
/-! DEFINITION. The house time reference: TIME_MESSAGE (R142), TREF_PULSE (R143 to R148), MISSING_PULSE and
HOLDOVER_LIMIT (R147), and the commands SET_TIME (R150) and TIME_STATUS (R151). -/

namespace Sys2Proof.Machine

/-! ## Time messages (R142) -/

/-- The value of an ASCII digit. -/
def digit (b : Byte) : Option Nat :=
  if 0x30 ≤ b.toNat ∧ b.toNat ≤ 0x39 then some (b.toNat - 0x30) else none

/-- The number spelled by decimal digits, each with its leading zeros; none when a character is no digit. -/
def decimal (bs : List Byte) : Option Nat :=
  bs.foldl (fun n b => n.bind fun n => (digit b).map fun d => n * 10 + d) (some 0)

/-- A well-formed line: five digits, a comma, five digits, a day 0..65,535 and a second 0..86,399 (R142). -/
def parseMessage (line : List (Option Byte)) : Option HeldMessage :=
  match line.mapM id with
  | none => none
  | some bs =>
    if bs.length = 11 ∧ bs.getD 5 0#8 = 0x2C#8 then
      match decimal (bs.take 5), decimal (bs.drop 6) with
      | some d, some n => if d ≤ 65535 ∧ n ≤ 86399 then some ⟨d, n⟩ else none
      | _, _ => none
    else none

/-- A line without the line feed that follows the carriage return before it directly (R142). -/
def dropLineFeed (afterCr : Bool) (line : List (Option Byte)) : List (Option Byte) :=
  if afterCr ∧ line.head? = some (some 0x0A#8) then line.tail else line

/-- The timebase after a carriage return on TMSG (R142). -/
def Timebase.takeLine (t : Timebase) (line : List (Option Byte)) : Timebase :=
  let l := dropLineFeed t.afterCr line
  let t := { t with afterCr := true }
  if l.isEmpty then t
  else
    match parseMessage l with
    | some m => { t with held := some m }
    | none => { t with malformed := satInc 65535 t.malformed }

/-- TIME_MESSAGE (R142): a carriage return ends the line. -/
def execTimeMessage (line : List (Option Byte)) (s : State) : Host.Outcome State Fault Refusal :=
  .next (if (Instr.timeMessage line).wf then { s with time := s.time.takeLine line } else s)

/-! ## Events of the TIME notice (R152) -/

/-- Adds a STATE event; the state has its values after the event (R152). -/
def State.timeState (s : State) (cause : TimeCause) (before after : Discipline) : State :=
  s.addTime ⟨.state, cause, before, after, 0, s.cap.number, s.cap.period, s.time.day, s.time.instant⟩

/-- Adds a STEP event of a size; both states are the discipline state in force (R152, R186). -/
def State.timeStep (s : State) (cause : TimeCause) (size : Int) : State :=
  s.addTime ⟨.step, cause, s.time.discipline, s.time.discipline, size, s.cap.number, s.cap.period, s.time.day,
    s.time.instant⟩

/-! ## Pulses (R143 to R148) -/

/-- The arrival of a pulse in 1/256 sample units (R143, log entry 8). -/
def State.arrival (s : State) (frac : BitVec 8) : Nat := s.ticks * 256 + frac.toNat

/-- Whether N lies in the window (R143). -/
def inWindow (n : Int) : Bool := decide (3686400 ≤ n) && decide (n ≤ 4505600)

/-- The reference instant of a message as a count from day 0 (R143). -/
def HeldMessage.reference (m : HeldMessage) : Nat := absTime m.day (m.second * 16000)

/-- Court time at the last sample instant at or before now, as a count from day 0: one less than the count the next
sample instant carries (R145, log entry 11). -/
def Timebase.lastInstant (t : Timebase) : Nat := (absTime t.day t.instant + courtSpan - 1) % courtSpan

/-- The offset d of a pulse named by `m` (R145). -/
def Timebase.offsetTo (t : Timebase) (m : HeldMessage) : Int := courtOffset m.reference t.lastInstant

/-- The frequency trim after a measured pulse (R144). -/
def steered (trim e d : Int) (locked : Bool) : Int :=
  let dTerm : Int := if locked ∧ d.natAbs ≤ 16 then 500 * d else 0
  clamp (-200000) 200000 (trim - 122 * e + dTerm)

/-- The discipline state and the good-pulse count after a measured pulse of frequency error e (R146). -/
def measuredNext (st : Discipline) (good : Nat) (e : Int) : Discipline × Nat :=
  match st with
  | .locked => if e.natAbs ≤ 64 then (.locked, 0) else (.acquiring, 0)
  | _ => if e.natAbs ≤ 2 then (if good ≤ 2 then (.acquiring, good + 1) else (.locked, 0)) else (.acquiring, 0)

/-- A step: the next sample instant carries the reference instant plus 1; court time is set, the step mark is set and
the step count rises (R148). -/
def Timebase.step (t : Timebase) (m : HeldMessage) : Timebase :=
  let n := nextInstant m.day (m.second * 16000)
  { t with day := n.1, instant := n.2, isSet := true, stepMark := true, steps := satInc 65535 t.steps }

/-- An accepted pulse sets the reference mark and restarts the missing-pulse timer (R143). -/
def State.markPulse (s : State) (frac : BitVec 8) (e : Option Int) (d : Int) : State :=
  { s with time := { s.time with
      refMark := some (s.arrival frac), missingTimer := 0, lastPulse := some ⟨s.ticks, e, d⟩ } }

/-- An opening pulse (R143, R146). -/
def State.openingPulse (s : State) (frac : BitVec 8) (m : HeldMessage) : State :=
  let before := s.time.discipline
  let s := s.markPulse frac none (s.time.offsetTo m)
  let s := { s with time := { s.time with discipline := .acquiring, good := 0 } }
  if before = .acquiring then s else s.timeState .pulse before .acquiring

/-- A measured pulse with interval N: steering, the change of discipline, and the step (R144, R146, R148). -/
def State.measuredPulse (s : State) (frac : BitVec 8) (m : HeldMessage) (n : Int) : State :=
  let e := n - 4096000
  let d := s.time.offsetTo m
  let before := s.time.discipline
  let next := measuredNext before s.time.good e
  let locks := before != .locked && next.1 == .locked
  let s := s.markPulse frac (some e) d
  let t := { s.time with
    freqTrim := steered s.time.freqTrim e d (before == .locked)
    discipline := next.1
    good := next.2
    lockHistory := s.time.lockHistory || locks
    holdoverTimer := if locks then 0 else s.time.holdoverTimer }
  let steps := next.1 == .locked && (decide (16 < d.natAbs) || (locks && !s.time.isSet))
  let s := { s with time := if steps then t.step m else t }
  let s := if before = next.1 then s else s.timeState .pulse before next.1
  if steps then s.timeStep (if locks then .lock else .offset) d else s

/-- A pulse that is not accepted breaks the good-pulse run (R143). -/
def Timebase.rejected (t : Timebase) : Timebase := { t with good := 0 }

/-- A pulse on TREF: the held message is consumed, accepted or not (R142, R143). -/
def State.pulse (s : State) (frac : BitVec 8) : State :=
  let held := s.time.held
  let s := { s with time := { s.time with held := none } }
  match held, s.time.refMark with
  | none, _ => { s with time := { s.time.rejected with unnamed := satInc 65535 s.time.unnamed } }
  | some m, none => s.openingPulse frac m
  | some m, some mark =>
    let n : Int := s.arrival frac - mark
    if inWindow n then s.measuredPulse frac m n
    else { s with time := { s.time.rejected with offWindow := satInc 65535 s.time.offWindow } }

/-- TREF_PULSE (R143). -/
def execTrefPulse (frac : BitVec 8) (s : State) : Host.Outcome State Fault Refusal := .next (s.pulse frac)

/-! ## The two timers (R147) -/

/-- The missing-pulse timer has reached 24,000 (R147). -/
def State.losePulse (s : State) : State :=
  let before := s.time.discipline
  let after : Discipline := if before = .locked ∨ s.time.lockHistory then .holdover else .free
  ({ s with time := { s.time with refMark := none, good := 0, discipline := after } }).timeState .missing before after

/-- MISSING_PULSE (R147). -/
def execMissingPulse (s : State) : Host.Outcome State Fault Refusal :=
  .next (if s.time.missingDue then s.losePulse else s)

/-- The holdover timer has reached 57,600,000 (R147). -/
def State.endHoldover (s : State) : State :=
  ({ s with time := { s.time with discipline := .free, lockHistory := false } }).timeState .limit .holdover .free

/-- HOLDOVER_LIMIT (R147). -/
def execHoldoverLimit (s : State) : Host.Outcome State Fault Refusal :=
  .next (if s.time.limitDue then s.endHoldover else s)

/-! ## SET_TIME and TIME_STATUS -/

/-- SET_TIME taken: the next sample instant carries the given count (R150). -/
def State.setTime (s : State) (day instant : Nat) : State :=
  let size : Int := (absTime day instant : Int) - absTime s.time.day s.time.instant
  ({ s with time := { s.time with
      day := day, instant := instant, isSet := true, stepMark := true, steps := satInc 65535 s.time.steps } }).timeStep
    .set size

/-- The body of SET_TIME (R150). -/
def setTimeBody (f : Command) (s : State) : State :=
  let day := f.num 1 2
  let instant := f.num 3 4
  if Config.dayLength ≤ instant then s.reply f .range
  else
    match s.time.discipline with
    | .locked | .holdover => s.reply f .state
    | .free | .acquiring =>
      let s := s.setTime day instant
      s.reply f .ok (be 1 s.time.discipline.code ++ be 1 s.time.quality.code)

/-- SET_TIME (R150). -/
def execSetTime (s : State) : Host.Outcome State Fault Refusal :=
  .next (runCommand 0x70#8 ownReply (lengthIs 7) setTimeBody s)

/-- Milliseconds since the last accepted pulse, saturating (R151, R183). -/
def State.pulseAge (s : State) : Option Nat :=
  s.time.lastPulse.map fun p => min ((s.ticks - p.tick) / 16) 4294967295

/-- The data of TIME_STATUS (R151); its layout is log entry 25, its court day and instant log entry 11. -/
def State.timeStatus (s : State) : List Byte :=
  let t := s.time
  be 1 t.discipline.code ++ be 1 t.quality.code ++ onOff t.stepMark ++ be 2 t.day ++ be 4 t.instant
    ++ beInt 4 t.freqTrim ++ be 1 t.good ++ onOff t.lockHistory ++ onOff t.refMark.isSome
    ++ be 2 (t.holdoverTimer / 16000) ++ optional (be 4) s.pulseAge
    ++ optional (beInt 4) (t.lastPulse.bind Pulse.e) ++ optional (beInt 6) (t.lastPulse.map Pulse.d)
    ++ optional (fun m => be 2 m.day ++ be 4 m.second) t.held
    ++ be 2 t.malformed ++ be 2 t.unnamed ++ be 2 t.offWindow ++ be 2 t.steps
    ++ be 1 t.events.length ++ be 1 t.unlisted

/-- TIME_STATUS (R151). -/
def execTimeStatus (s : State) : Host.Outcome State Fault Refusal :=
  .next (runCommand 0x71#8 ownReply (lengthIs 1) (fun f s => s.reply f .ok s.timeStatus) s)

end Sys2Proof.Machine
end

