-- ==== Sys2Proof/Machine/Dispatch.lean ====
section
/-! DEFINITION. Which meaning each command has. -/

namespace Sys2Proof.Machine

def exec (i : Instr) (s : State) : Host.Outcome State Fault Refusal :=
  match i with
  | .fullReset => Sys2Proof.Machine.execFullReset s
  | .sampleInstant raw => Sys2Proof.Machine.execSampleInstant raw s
  | .periodBoundary => Sys2Proof.Machine.execPeriodBoundary s
  | .finalBoundary => Sys2Proof.Machine.execFinalBoundary s
  | .trimEnd => Sys2Proof.Machine.execTrimEnd s
  | .laneScan => Sys2Proof.Machine.execLaneScan s
  | .blockFrameEnd => Sys2Proof.Machine.execBlockFrameEnd s
  | .rereadFrameEnd => Sys2Proof.Machine.execRereadFrameEnd s
  | .replyFrameEnd => Sys2Proof.Machine.execReplyFrameEnd s
  | .noticeFrameEnd => Sys2Proof.Machine.execNoticeFrameEnd s
  | .captureReset => Sys2Proof.Machine.execCaptureReset s
  | .headAgeWait => Sys2Proof.Machine.execHeadAgeWait s
  | .holdAssert => Sys2Proof.Machine.execHoldAssert s
  | .holdRelease => Sys2Proof.Machine.execHoldRelease s
  | .strayByte b => Sys2Proof.Machine.execStrayByte b s
  | .lineError => Sys2Proof.Machine.execLineError s
  | .oversizeLength len => Sys2Proof.Machine.execOversizeLength len s
  | .frameGapTimeout => Sys2Proof.Machine.execFrameGapTimeout s
  | .frameComplete kind tag payload check => Sys2Proof.Machine.execFrameComplete kind tag payload check s
  | .deferredReplyMove => Sys2Proof.Machine.execDeferredReplyMove s
  | .unknownCommand => Sys2Proof.Machine.execUnknownCommand s
  | .identify => Sys2Proof.Machine.execIdentify s
  | .linkStatus => Sys2Proof.Machine.execLinkStatus s
  | .noticeMask => Sys2Proof.Machine.execNoticeMask s
  | .laneSchedule => Sys2Proof.Machine.execLaneSchedule s
  | .restart => Sys2Proof.Machine.execRestart s
  | .openCapture => Sys2Proof.Machine.execOpenCapture s
  | .closeCapture => Sys2Proof.Machine.execCloseCapture s
  | .setChannel => Sys2Proof.Machine.execSetChannel s
  | .getChannel => Sys2Proof.Machine.execGetChannel s
  | .loadPattern => Sys2Proof.Machine.execLoadPattern s
  | .routePattern => Sys2Proof.Machine.execRoutePattern s
  | .setProceeding => Sys2Proof.Machine.execSetProceeding s
  | .proceedingStatus => Sys2Proof.Machine.execProceedingStatus s
  | .storePolicy => Sys2Proof.Machine.execStorePolicy s
  | .storeStatus => Sys2Proof.Machine.execStoreStatus s
  | .streamControl => Sys2Proof.Machine.execStreamControl s
  | .release => Sys2Proof.Machine.execRelease s
  | .readHeld => Sys2Proof.Machine.execReadHeld s
  | .putMarker => Sys2Proof.Machine.execPutMarker s
  | .markerStatus => Sys2Proof.Machine.execMarkerStatus s
  | .floorConfig => Sys2Proof.Machine.execFloorConfig s
  | .floorStatus => Sys2Proof.Machine.execFloorStatus s
  | .trimConfig => Sys2Proof.Machine.execTrimConfig s
  | .converterStatus => Sys2Proof.Machine.execConverterStatus s
  | .trimNow => Sys2Proof.Machine.execTrimNow s
  | .converterRestore => Sys2Proof.Machine.execConverterRestore s
  | .setTime => Sys2Proof.Machine.execSetTime s
  | .timeStatus => Sys2Proof.Machine.execTimeStatus s
  | .feedConfig => Sys2Proof.Machine.execFeedConfig s
  | .timeMessage line => Sys2Proof.Machine.execTimeMessage line s
  | .trefPulse frac => Sys2Proof.Machine.execTrefPulse frac s
  | .missingPulse => Sys2Proof.Machine.execMissingPulse s
  | .holdoverLimit => Sys2Proof.Machine.execHoldoverLimit s
  | .syncByte => Sys2Proof.Machine.execSyncByte s

end Sys2Proof.Machine
end

