-- ==== Sys2Proof/Safety.lean ====
section
/-! DEFINITION. The laws the spec states about the whole part, as predicates of a state, and the words in which
statements are written: when a command executes, the state in which it alone has been answered, and what a boundary or an
opening allocation leaves of the store, the markers, the blocks and the converters. -/

namespace Sys2Proof.Machine

/-! ## Commands -/

/-- The head of the command queue is `f`, and the command engine may execute it with `n` entries of the reply queue: no
RESTART runs, no entry of the deferred-reply table is ANSWERED, and the reply queue has the room (R168, R170, R179). -/
abbrev State.Executes (s : State) (f : Command) (rest : List Command) (n : Nat) : Prop :=
  s.link.cmdQueue = f :: rest ∧ s.link.restart = .off ∧ (∀ e ∈ s.link.deferred, e.answer = none) ∧
    s.link.replyQueue.length + n ≤ 8

/-- A payload of `len` bytes whose first is `code` (R182). -/
abbrev Command.Is (f : Command) (code : Byte) (len : Nat) : Prop := f.payload.head? = some code ∧ f.payload.length = len

/-- The state in which `f` alone has left the command queue, with one reply to it at the tail of the reply queue (R168,
R183). -/
def State.answered (s : State) (f : Command) (rest : List Command) (r : Result) (data : List Byte := []) : State :=
  { s with link := { s.link with
      cmdQueue := rest
      replyQueue := s.link.replyQueue ++ [.reply ⟨f.tag, f.payload.headD 0xFF#8, r, data⟩] } }

/-- The state in which `f` has left the command queue and holds a WAITING entry of the deferred-reply table (R11, R170). -/
def State.deferredFor (s : State) (f : Command) (rest : List Command) (req : Request) : State :=
  { s with link := { s.link with
      cmdQueue := rest
      deferred := s.link.deferred ++ [⟨f.tag, f.payload.headD 0xFF#8, req, none⟩] } }

/-- The state of a taken boundary-effective command once it is answered (R11): deferred with the option while the table
has a free entry, else ACCEPTED. -/
def State.taken (s : State) (f : Command) (rest : List Command) (option : Bool) (req : Request)
    (data : List Byte := []) : State :=
  if option = true ∧ s.link.deferred.length < 4 then s.deferredFor f rest req else s.answered f rest .accepted data

/-! ## Words for statements about boundaries -/

/-- A boundary that is not final is due: sample instant 319 has passed, there is no close request and the next custody
number is not above the capture limit (R4, R12, R14). -/
abbrev State.AtBoundary (s : State) : Prop :=
  s.cap.state = .capturing ∧ s.cap.instant = 320 ∧ s.cap.closeRequest = false ∧ s.store.lastCustody + 1 ≤ 4294967246

/-- A final boundary is due: sample instant 319 has passed, and there is a close request or the next custody number is above
the capture limit (R4, R12, R14). -/
abbrev State.AtFinalBoundary (s : State) : Prop :=
  s.cap.state = .capturing ∧ s.cap.instant = 320 ∧ (s.cap.closeRequest = true ∨ 4294967246 < s.store.lastCustody + 1)

/-- Level code, activity state and hang counter of a channel after the completion of its running block, evaluated under the
settings of the ending period (R22, R92). -/
def Channel.heard (ch : Channel) : Nat × Activity × Nat :=
  match ch.block with
  | some b => (levelCode b.energy, activityNext ch.settings ch.activity ch.hangCounter (levelCode b.energy))
  | none => (ch.lastLevel, ch.activity, ch.hangCounter)

/-- Among the channels that compete, `c` has the highest level code, and the lowest number at equal codes (R96). -/
def State.BestOf (s : State) (competes : Chan → Prop) (c : Chan) : Prop :=
  competes c ∧ ∀ d, competes d →
    (s.chan d).lastLevel < (s.chan c).lastLevel ∨ ((s.chan d).lastLevel = (s.chan c).lastLevel ∧ c ≤ d)

/-- The floor unit with a floor record written: at the tail of the log, or in place of the oldest of 32 (R102). -/
def Floor.recorded (f : Floor) (r : FloorRecord) : Floor :=
  if f.log.length < 32 then { f with log := f.log ++ [r] }
  else { f with log := f.log.drop 1 ++ [r], overrun := satInc 255 f.overrun }

/-- The answers held for deferred requests at a boundary: `answer` gives a request its result and data (R170). -/
def answeredBy (l : List Deferred) (answer : Request → Option (Result × List Byte)) : List Deferred :=
  l.map fun e => match e.answer, answer e.request with
    | none, some (r, d) => { e with answer := some ⟨e.tag, e.code, r, d⟩ }
    | _, _ => e

/-- A list and its unlisted count after several entries, each added in turn (R78, R115, R134, R152). -/
def pushAll {α : Type} (l : List α × Nat) (xs : List α) : List α × Nat := xs.foldl (fun p x => pushListed p.1 p.2 x) l

/-- The settings of a channel for the new period: its pending settings over those in force (R7). -/
abbrev State.newSettings (s : State) (c : Chan) : Settings := (s.chan c).settings.over (s.chan c).pendingSettings

/-! ## Words for statements about allocation (R8, R9, R33 to R35) -/

/-- The marker request of an allocation run: one at class KEEP when a marker slot is FULL (R8, R111). -/
def Markers.request (m : Markers) : List (Option Chan × Class) :=
  if ∀ i : Fin 8, m.slots.get i = none then [] else [(none, .keep)]

/-- The audio requests of an allocation run: the enabled channels of KEEP, then NORMAL, then SHED, each in ascending
order (R9, R34). -/
def audioRequests (settings : Chan → Settings) : List (Option Chan × Class) :=
  [Class.keep, .normal, .shed].flatMap fun k =>
    ((List.finRange 24).filter fun c => (settings c).enable = true ∧ (settings c).cls = k).map fun c => (some c, k)

/-- A request decided with `free` slots FREE and `left` slots that reclaim may still take: what is left of both after a
grant, none for a refusal (R33, R35). -/
def decideRequest (shed keep : Nat) (k : Class) (free left : Nat) : Option (Nat × Nat) :=
  match k with
  | .shed => if shed < free then some (free - 1, left) else none
  | .normal => if keep < free then some (free - 1, left) else none
  | .keep => if 0 < free then some (free - 1, left) else if 0 < left then some (free, left - 1) else none

/-- Who is granted in an allocation run, request after request, with the free count and the reclaimable slots left at its
end (R9, R33, R34). -/
def runRequests (shed keep : Nat) : Nat → Nat → List (Option Chan × Class) → List (Option Chan) × Nat × Nat
  | free, left, [] => ([], free, left)
  | free, left, (who, k) :: rest =>
    match decideRequest shed keep k free left with
    | some (free', left') => (who :: (runRequests shed keep free' left' rest).1, (runRequests shed keep free' left' rest).2)
    | none => runRequests shed keep free left rest

/-- The slots reclaim may take, oldest first (R35). -/
def Store.reclaimable (st : Store) : List HeldSlot :=
  if st.reclaim = true then st.custody.filter fun h => h.pins = 0 ∧ h.releasePending = false else []

/-- An allocation run on a store. -/
def Store.run (st : Store) (rs : List (Option Chan × Class)) : List (Option Chan) × Nat × Nat :=
  runRequests st.shed st.keep st.free st.reclaimable.length rs

/-- The custody list without its `n` oldest slots that reclaim may take (R35). -/
def withoutOldest : Nat → List HeldSlot → List HeldSlot
  | 0, l => l
  | _ + 1, [] => []
  | n + 1, h :: rest =>
    if h.pins = 0 ∧ h.releasePending = false then withoutOldest n rest else h :: withoutOldest (n + 1) rest

/-- What an allocation run leaves of a store: the free count, the custody list, and the account of the slots reclaimed
(R33, R35); the policy is unchanged. -/
def Store.Allocated (st st' : Store) (rs : List (Option Chan × Class)) : Prop :=
  ∀ n, n = st.reclaimable.length - (st.run rs).2.2 →
    st'.free = (st.run rs).2.1 ∧ st'.custody = withoutOldest n st.custody ∧
    st'.reclaimCount = (satInc 4294967295)^[n] st.reclaimCount ∧
    st'.reclaimList = st.reclaimList ++
      ((st.reclaimable.take n).map fun h => h.record.custody).take (32 - st.reclaimList.length) ∧
    st'.notListed = (satInc 65535)^[n - (32 - st.reclaimList.length)] st.notListed ∧
    st'.shed = st.shed ∧ st'.keep = st.keep ∧ st'.reclaim = st.reclaim

/-- What the marker step makes of the marker unit: nothing without a FULL slot; one record of every FULL slot when its
request is granted, with the slots EMPTY and the taking listed; one refusal otherwise (R8, R111, R113, R115). -/
def Markers.Step (m m' : Markers) (granted : Prop) (capture custody period : Nat) (tag : Tag) (st : Stamp)
    (ms : List MarkerRecord) : Prop :=
  ∀ full : List (Fin 8 × Marker), full = (List.finRange 8).filterMap (fun i => (m.slots.get i).map fun x => (i, x)) →
    (full = [] → ms = [] ∧ m' = m) ∧
    (full ≠ [] → ¬ granted → ms = [] ∧ m' = { m with refusals := satInc 65535 m.refusals }) ∧
    (full ≠ [] → granted → ∃ r : MarkerRecord, ms = [r] ∧
      r = ⟨capture, custody, m.sequence, period, st.day, st.instant, st.quality, tag, full, crc32 m.chain r.covered⟩ ∧
      m' = { m with
        slots := Vector.replicate 8 none, sequence := m.sequence + 1, chain := r.check
        takings := (pushListed m.takings m.unlisted ⟨capture, m.sequence, custody, period, full.map Prod.fst⟩).1
        unlisted := (pushListed m.takings m.unlisted ⟨capture, m.sequence, custody, period, full.map Prod.fst⟩).2 })

/-- The records the boundary that ends a period posts: one for each channel with a FILLING slot, in ascending order, with
consecutive custody numbers, the values of the period, and the chain check (R5, R6, R84, R86, R133); the activity states and
level codes are those of the completed blocks (R22, R92, R93). -/
def State.BlocksPosted (s t : State) (recs : List AudioRecord) : Prop :=
  recs.map AudioRecord.channel = (List.finRange 24).filter (fun c => (s.chan c).filling.isSome) ∧
  (∀ (i : Nat) (h : i < recs.length), recs[i].custody = s.store.lastCustody + 1 + i) ∧
  (∀ r ∈ recs, ∀ ch : Channel, ch = s.chan r.channel →
    some r.samples = ch.filling ∧ r.capture = s.cap.number ∧ r.sequence = ch.lastSeq.getD 0 ∧
    r.period = s.cap.period ∧ r.gap = ch.gapTally ∧ r.day = s.cap.stamp.day ∧ r.instant = s.cap.stamp.instant ∧
    r.quality = s.cap.stamp.quality ∧ r.tag = audioTag s.cap.proceeding ch.settings.bench ∧
    r.flags = ⟨decide (ch.route ≠ .mic), ch.handover,
      decide ((t.conv (s.convOf r.channel)).state = .faulted), s.cap.stamp.stepped⟩ ∧
    r.converter = s.convOf r.channel ∧ r.gain = ch.settings.gain ∧ r.level = ch.heard.1 ∧
    r.activity = ch.heard.2.1 ∧ r.holder = s.floor.holder ∧
    r.peak = (ch.block.map RunningBlock.peak).getD 0 ∧ r.clipped = (ch.block.map RunningBlock.clipped).getD 0 ∧
    r.check = crc32 ch.chain r.covered ∧ (t.chan r.channel).chain = r.check) ∧
  (∀ c, (s.chan c).filling = none → (t.chan c).chain = (s.chan c).chain) ∧
  (∀ c, (t.chan c).block = none ∧ (t.chan c).lastLevel = (s.chan c).heard.1 ∧
    ((t.chan c).activity, (t.chan c).hangCounter) =
      if (t.chan c).settings.enable = true then (s.chan c).heard.2 else (.quiet, 0))

/-! ## Words for statements about converters at boundaries (R121, R126, R130 to R132) -/

/-- The result of the trim in the engine: the mean of its samples, halves upward (R121). -/
def Engine.mean (e : Engine) : Int :=
  match e.kind with
  | .long => (e.sum + 1280) / 2560
  | .short => (e.sum + 320) / 640

/-- The trim in the engine ends at this boundary, with a result in range or not (R121). -/
abbrev Engine.EndsInRange (e : Engine) : Prop := e.remaining = 0 ∧ -24000 ≤ e.mean ∧ e.mean ≤ 24000
abbrev Engine.EndsFaulted (e : Engine) : Prop := e.remaining = 0 ∧ (e.mean < -24000 ∨ 24000 < e.mean)

/-- The examination finds the converter of channel `c` stuck for the second period (R130). -/
abbrev State.FoundStuck (s : State) (c : Chan) : Prop :=
  (s.conv (s.convOf c)).state = .serving ∧ (s.chan c).settings.enable = true ∧
    (s.conv (s.convOf c)).runEqual = true ∧ 1 ≤ (s.conv (s.convOf c)).stuck

/-- Channel `c` stands on a converter that is FAULTED, or found stuck at this boundary (R131, step 4). -/
abbrev State.Faulty (s : State) (c : Chan) : Prop := (s.conv (s.convOf c)).state = .faulted ∨ s.FoundStuck c

/-- The converters that are SPARE at the replacements of this boundary: those that were, and one whose trim ends there in
range (R120, R131). -/
def State.spares (s : State) : List Conv :=
  (List.finRange 26).filter fun v => (s.conv v).state = .spare ∨ ∃ e ∈ s.trim.engine, e.conv = v ∧ e.EndsInRange

/-- The channels of a boundary's or an OPEN_CAPTURE's replacements in their turn: enabled ones in ascending order, then
disabled ones (R131). -/
def turns (enabled : Chan → Bool) : List Chan :=
  (List.finRange 24).filter (fun c => enabled c) ++ (List.finRange 24).filter fun c => !enabled c

/-- The channels that wait for a replacement at this boundary, the rotation's own channel apart (R131). -/
def State.waiting (s : State) : List Chan :=
  (turns fun c => (s.newSettings c).enable).filter fun c => s.Faulty c ∧ ∀ r ∈ s.trim.shadow, r.channel ≠ c

/-- The converters they take in turn: the SPARE ones in ascending order, then the one in SHADOW unless it replaces its own
target (R131). -/
def State.helpers (s : State) : List Conv :=
  s.spares ++ (s.trim.shadow.toList.filter fun r => ¬ s.Faulty r.channel).map Shadow.spare

/-- The channels `bad` have been given the converters `helpers`, one each in turn; those beyond the last keep theirs and are
in the no-spare set (R131, R132). -/
def State.Replaced (s t : State) (bad : List Chan) (helpers : List Conv) : Prop :=
  ∀ (i : Nat) (c : Chan), bad[i]? = some c → (t.conv (s.convOf c)).state = .faulted ∧
    (∀ v, helpers[i]? = some v → t.convOf c = v ∧ (t.conv v).state = .serving ∧ (t.conv v).stuck = 0 ∧
      (t.chan c).handover = true ∧ (t.chan c).mismatch = 0 ∧ (t.chan c).noSpare = false) ∧
    (helpers[i]? = none → t.convOf c = s.convOf c ∧ (t.chan c).noSpare = true ∧
      (t.chan c).mismatch = (s.chan c).mismatch)

/-- The CONVERTER entries of those replacements, in turn (R131, R132, R134). -/
def State.replacementEntries (s : State) (bad : List Chan) (helpers : List Conv) (capture period : Nat) :
    List ConverterEntry :=
  bad.zipIdx.filterMap fun x =>
    match helpers[x.2]? with
    | some v => some ⟨.handover, .replacement, v, some x.1, some (s.convOf x.1), capture, period⟩
    | none => if (s.chan x.1).noSpare = true then none
      else some ⟨.noSpare, .none, s.convOf x.1, some x.1, none, capture, period⟩

/-- The FAULTED entries of a boundary's examination (R130, R134). -/
def State.stuckEntries (s : State) (period : Nat) : List ConverterEntry :=
  (List.finRange 26).flatMap fun v =>
    ((List.finRange 24).filter fun c => s.convOf c = v ∧ s.FoundStuck c).map fun c =>
      ⟨.faulted, .stuck, v, some c, none, s.cap.number, period⟩

/-! ## Chapter 1 and Chapter 4: the proceeding -/

/-- The proceeding is STANDBY exactly when the capture state is (R1); none is pending in STANDBY and STANDBY is never
pending (R65); no route in force is a page in a record state (R77); no route is pending in STANDBY (R10), nor while a
record state is in force or pending (R18, R68, R69). -/
def State.ProceedingLaw (s : State) : Prop :=
  (s.cap.proceeding = .standby ↔ s.cap.state = .standby) ∧
  (s.cap.state = .standby → s.cap.pendingProceeding = none) ∧
  s.cap.pendingProceeding ≠ some .standby ∧
  (s.cap.proceeding.isRecord = true → ∀ c, (s.chan c).route = .mic) ∧
  (s.cap.state = .standby ∨ s.recordState = true → ∀ c, (s.chan c).pendingRoute = none)

/-! ## Chapter 1 and Chapter 6: the channels -/

/-- The nine settings lie in their ranges, the close code at or below the open code (section 1.7). -/
def Settings.InRange (x : Settings) : Prop :=
  x.gain ≤ 65535 ∧ x.openCode ≤ 61 ∧ x.closeCode ≤ x.openCode ∧ x.hang ≤ 250

/-- One channel while sample instant `instant` is the next: settings and pending settings in range (1.7, R15), the
activity state (R91, R93), the running block (R21), and the FILLING slot with one sample for each sample instant that has
passed (R27). -/
def Channel.Law (ch : Channel) (capturing : Bool) (instant : Nat) : Prop :=
  ch.settings.InRange ∧ (ch.settings.over ch.pendingSettings).InRange ∧
  (capturing = false → ch.pendingSettings = PendingSettings.empty) ∧
  (ch.activity ≠ .hanging → ch.hangCounter = 0) ∧
  (ch.activity = .hanging → 1 ≤ ch.hangCounter ∧ ch.hangCounter ≤ 250) ∧
  (ch.settings.enable = false → ch.activity = .quiet) ∧
  ch.lastLevel ≤ 61 ∧
  (∀ b ∈ ch.block, capturing = true ∧ ch.settings.enable = true ∧
    b.energy ≤ instant * 1073741824 ∧ b.peak ≤ 32768 ∧ b.clipped ≤ instant) ∧
  (∀ l ∈ ch.filling, capturing = true ∧ ch.settings.enable = true ∧ l.length = instant)

/-- A stored record is whole: an audio record holds 320 samples (R184). -/
def Record.Whole : Record → Prop
  | .audio r => r.samples.length = 320
  | .marker _ => True

/-- The records that hold a slot, FILLING ones apart: custody, SENDING, posted, in the order of their custody numbers. -/
def Store.records (st : Store) : List Record :=
  st.custody.map HeldSlot.record ++ st.sending.toList ++ st.posted.map PostedSlot.record

/-- Every channel keeps its law, a period has at most 320 sample instants, none in STANDBY (R4), and every stored record
is whole. -/
def State.ChannelLaw (s : State) : Prop :=
  s.cap.instant ≤ 320 ∧ (s.cap.state = .standby → s.cap.instant = 0) ∧
  (∀ c, (s.chan c).Law s.capturing s.cap.instant) ∧
  (∀ r ∈ s.store.records, r.Whole)

/-! ## Chapters 2 and 3: the store -/

/-- The five counts sum to 65,536 (R26); a slot is SENDING exactly while a FIRST block frame is on the lane (R50, R51); in
STANDBY no slot is FILLING (R13, R27). -/
def State.SlotLaw (s : State) : Prop :=
  s.store.free + ((List.finRange 24).filter fun c => (s.chan c).filling.isSome).length + s.store.posted.length + s.store.sending.isSome.toNat + s.store.custody.length
    = 65536 ∧
  (s.store.sending.isSome = true ↔ s.laneUse = some .first) ∧
  (s.cap.state = .standby → ∀ c, (s.chan c).filling = none)

/-- Custody numbers strictly increase through the custody list, the SENDING slot and the posted queue (R31), are 1 and up
and not above the last issued (R30); those in custody are at most the last sent number, the others above it (R51); the
last issued number stays within 4,294,967,295, with the margin of the capture limit while CAPTURING (R14, R30). -/
def State.CustodyLaw (s : State) : Prop :=
  (s.store.records.map Record.custody).Pairwise (· < ·) ∧
  (∀ r ∈ s.store.records, 1 ≤ r.custody ∧ r.custody ≤ s.store.lastCustody) ∧
  (∀ h ∈ s.store.custody, h.record.custody ≤ s.stream.lastSent) ∧
  (∀ r ∈ s.store.sending, s.stream.lastSent < r.custody) ∧
  (∀ p ∈ s.store.posted, s.stream.lastSent < p.record.custody) ∧
  s.stream.lastSent ≤ s.store.lastCustody ∧
  s.store.lastCustody ≤ 4294967295 ∧
  (s.cap.state = .capturing → s.store.lastCustody ≤ 4294967270)

/-- A slot's pin count is the number of REREAD copies of it in the reply queue, a release-pending slot is pinned, and
every copy is of a slot in custody (R58, R59, R60). -/
def State.PinLaw (s : State) : Prop :=
  (∀ h ∈ s.store.custody, h.pins = s.link.replyQueue.count (.copy h.record.custody)) ∧
  (∀ h ∈ s.store.custody, h.releasePending = true → 0 < h.pins) ∧
  (∀ e ∈ s.link.replyQueue, ∀ k, e = .copy k → ∃ h ∈ s.store.custody, h.record.custody = k)

/-! ## Chapter 6: the floor -/

/-- No holder and no challenger in STANDBY (R100); a holder is enabled, floor-eligible and not QUIET (R97); a challenger is
another channel than the holder, with a count of 1 to 50 (R94, R98); margin and takeover periods are in range (R105); the
log holds at most 32 records (R102), and FLOOR is raised exactly while it holds one (R103). -/
def State.FloorLaw (s : State) : Prop :=
  (s.cap.state = .standby → s.floor.holder = none) ∧
  (∀ h ∈ s.floor.holder, (s.chan h).settings.enable = true ∧ (s.chan h).settings.floorEligible = true ∧
    (s.chan h).activity ≠ .quiet) ∧
  (∀ p ∈ s.floor.challenger, s.floor.holder.isSome = true ∧ s.floor.holder ≠ some p.1 ∧ 1 ≤ p.2 ∧ p.2 ≤ 50) ∧
  1 ≤ s.floor.margin ∧ s.floor.margin ≤ 61 ∧ 1 ≤ s.floor.takeover ∧ s.floor.takeover ≤ 50 ∧
  s.floor.log.length ≤ 32 ∧ flagSet s.link.raised .floor = !s.floor.log.isEmpty

/-! ## Chapter 8: converters and the map -/

/-- One converter's fields: an offset within range, a stuck count of at most 2, at most 1 while SERVING (R118, R130), and a
trim completion time once it has been trimmed (R118). -/
def Converter.Law (x : Converter) : Prop :=
  -24000 ≤ x.offset ∧ x.offset ≤ 24000 ∧ x.stuck ≤ 2 ∧ (x.state = .serving → x.stuck ≤ 1) ∧
  (x.state = .spare ∨ x.state = .shadow ∨ x.state = .serving → x.doneAt.isSome = true)

/-- The map and the states of the converters agree (R118, R124): the trim engine holds the one converter that is TRIMMING;
a rotation SHADOWING holds the one in SHADOW, its SERVING target and the target's channel, with the engine idle; no
converter serves two channels; an assigned converter is SERVING or FAULTED and a SERVING one is assigned; until the map is
built the start-up trims run in ascending order in STANDBY (R122); a no-spare channel stands on a FAULTED converter
(R132). -/
def State.TrimLaw (s : State) : Prop :=
  (∀ v, (s.conv v).Law) ∧ (∀ c, (s.chan c).mismatch ≤ 1) ∧ s.trim.timer ≤ 180000 ∧
  (∀ v, (s.conv v).state = .trimming ↔ s.trim.engine.map Engine.conv = some v) ∧
  (∀ v, (s.conv v).state = .shadow ↔ s.trim.shadow.map Shadow.spare = some v) ∧
  (s.trim.rotation = .shadowing ↔ s.trim.shadow.isSome = true) ∧
  (∀ r ∈ s.trim.shadow, s.trim.mapBuilt = true ∧ s.trim.engine = none ∧ s.convOf r.channel = r.target ∧
    (s.conv r.target).state = .serving) ∧
  (s.cap.state = .standby → s.trim.rotation = .idle) ∧
  (s.trim.mapBuilt = true → (∀ c d, s.convOf c = s.convOf d → c = d) ∧
    (∀ c, (s.conv (s.convOf c)).state = .serving ∨ (s.conv (s.convOf c)).state = .faulted) ∧
    ∀ v, (s.conv v).state ≠ .untrimmed) ∧
  (∀ v, (s.conv v).state = .serving → s.trim.mapBuilt = true ∧ ∃ c, s.convOf c = v) ∧
  (s.trim.mapBuilt = false → s.cap.state = .standby ∧ s.trim.engine.isSome = true ∧
    ∀ e ∈ s.trim.engine, e.kind = .long ∧ ∀ v,
      (v < e.conv → (s.conv v).state = .spare ∨ (s.conv v).state = .faulted) ∧
      (e.conv < v → (s.conv v).state = .untrimmed)) ∧
  (∀ c, (s.chan c).noSpare = true → s.trim.mapBuilt = true ∧ (s.conv (s.convOf c)).state = .faulted)

/-! ## Chapter 9: the timebase -/

/-- The frequency trim is within 200,000 ppb (R144); court time is a time of a day (R141) and so is the held message
(R142); the reference mark is present exactly in ACQUIRING and LOCKED (9.4); the good-pulse count is 0 outside ACQUIRING
(R146); LOCKED and HOLDOVER have the lock history mark, FREE has it clear (R146, R147); a LOCKED part has set court time
(R148); the timers do not pass their expiries (R147). -/
def State.TimeLaw (s : State) : Prop :=
  -200000 ≤ s.time.freqTrim ∧ s.time.freqTrim ≤ 200000 ∧
  s.time.day < 65536 ∧ s.time.instant < 1382400000 ∧
  (∀ m ∈ s.time.held, m.day < 65536 ∧ m.second < 86400) ∧
  (s.time.refMark.isSome = true ↔ s.time.discipline = .acquiring ∨ s.time.discipline = .locked) ∧
  s.time.good ≤ 3 ∧ (s.time.discipline ≠ .acquiring → s.time.good = 0) ∧
  (s.time.discipline = .locked ∨ s.time.discipline = .holdover → s.time.lockHistory = true) ∧
  (s.time.discipline = .free → s.time.lockHistory = false) ∧
  (s.time.discipline = .locked → s.time.isSet = true) ∧
  s.time.missingTimer ≤ 24000 ∧ s.time.holdoverTimer ≤ 57600000

/-! ## Chapter 11: the link -/

/-- The queues, the table and the notice lists keep their sizes (R78, R115, R134, R152, R167, R169, R170, R41); the
schedule holds each of the three letters (R178); the entry whose frame is on the lane is the head of the reply queue (R169),
and the RESTART reply is on the lane exactly in its phase (R179). -/
def State.LinkLaw (s : State) : Prop :=
  s.link.cmdQueue.length ≤ 4 ∧ s.link.replyQueue.length ≤ 8 ∧ s.link.deferred.length ≤ 4 ∧
  s.cap.changes.length ≤ 8 ∧ s.marks.takings.length ≤ 8 ∧ s.trim.events.length ≤ 8 ∧ s.time.events.length ≤ 8 ∧
  s.store.reclaimList.length ≤ 32 ∧
  (∀ x : Source, ∃ i : Fin 16, s.link.schedule.get i = x) ∧
  (s.laneUse = some .reply → ∃ r, s.link.replyQueue.head? = some (.reply r)) ∧
  (s.laneUse = some .reread → ∃ k, s.link.replyQueue.head? = some (.copy k)) ∧
  (s.laneUse = some .restartReply ↔ s.link.restart = .replyGoing) ∧
  (s.link.restart = .resetDue → s.link.lane = none)

/-! ## Settings of the other blocks -/

/-- The keep level is at most the shed level (R32); threshold, wait, rotation interval, match limit, feed multiplier and
masking shift are in range (R46, R125, 10.1); the noise register is not 0 (R158). -/
def State.ConfigLaw (s : State) : Prop :=
  s.store.keep ≤ s.store.shed ∧ s.store.shed ≤ 65535 ∧
  1 ≤ s.stream.threshold ∧ s.stream.threshold ≤ 256 ∧ s.stream.wait ≤ 1000 ∧
  s.trim.interval ≤ 3600 ∧ 1 ≤ s.trim.limit ∧ s.trim.limit ≤ 65535 ∧
  s.feed.multiplier ≤ 65535 ∧ (∀ k ∈ s.feed.masking, k ≤ 15) ∧ s.feed.noise ≠ 0#16

end Sys2Proof.Machine
end

