-- ==== Sys2Proof/Certificates/Slice0/Obligations.lean ====
section
/-! DEFINITION. The statements for the provers, chapter by chapter of the spec. -/

open Sys2Proof Sys2Proof.Machine

/-! ## The step -/

/-- The step runs the command at the front of the queue with the queue's rest. On an empty queue it idles: log entry 2. -/
def Obligations.StepRunsTheFrontCommand : Prop :=
  ∀ (s : State) (c : Instr) (rest : List Instr),
    step { s with pending := c :: rest } = exec c { s with pending := rest } ∧
    step { s with pending := [] } = .next { s with pending := [] }

/-! ## Resets -/

/-- The full-reset column of the reset tables (R23, R45, R64, R81, R89, R107, R117, R140, R154, R162, R180), from every
state; a restarting phase is over (R179). Two clauses are the model's choice: the level of the HOLD pin is not a register of
the part and is kept (log entry 31), and the sample of the feed frame in progress at the reset is 0 (`Feed.sent`, log entry
27). -/
def Obligations.FullResetValues : Prop :=
  ∀ s : State, ∃ t : State, exec .fullReset s = .next t ∧ t.pending = s.pending ∧ t.link.hold = s.link.hold ∧
    t.cap.state = .standby ∧ t.cap.proceeding = .standby ∧ t.cap.number = 0 ∧ t.cap.period = 0 ∧
    t.cap.closeRequest = false ∧ t.cap.pendingProceeding = none ∧ t.cap.changes = [] ∧ t.cap.changesUnlisted = 0 ∧
    (∀ (p : Fin 4) (i : Fin 320), (t.cap.pages.get p).get i = 0#16) ∧
    (∀ c, t.chan c = {
      settings := ⟨true, 4096, .normal, false, true, false, 30, 26, 25⟩
      pendingSettings := ⟨none, none, none, none, none, none, none, none, none⟩
      route := .mic, pendingRoute := none, block := none, lastLevel := 0, seqCount := 0, lastSeq := none
      gapTally := 0, filling := none, starvation := 0, starved := false, newlyStarved := false
      chain := 0xFFFFFFFF#32, activity := .quiet, hangCounter := 0, mismatch := 0, handover := false
      noSpare := false }) ∧
    t.store = ⟨65536, [], none, [], 0, 4096, 1024, false, 0, [], 0⟩ ∧
    t.stream = ⟨false, 1, 40, 0⟩ ∧
    (∀ i, t.marks.slots.get i = none) ∧ t.marks.sequence = 0 ∧ t.marks.refusals = 0 ∧ t.marks.takings = [] ∧
    t.marks.unlisted = 0 ∧ t.marks.chain = 0xFFFFFFFF#32 ∧
    t.floor = ⟨none, none, 6, 5, [], 0, none⟩ ∧
    (∀ v, (t.conv v).state = (if v = 0 then .trimming else .untrimmed) ∧ (t.conv v).offset = 0 ∧
      (t.conv v).doneAt = none ∧ (t.conv v).stuck = 0) ∧
    t.trim.mapBuilt = false ∧ t.trim.engine = some ⟨0, .long, 2560, 0⟩ ∧ t.trim.trimClock = 0 ∧
    t.trim.rotation = .idle ∧ t.trim.named = none ∧ t.trim.timer = 0 ∧ t.trim.interval = 600 ∧ t.trim.limit = 2048 ∧
    t.trim.events = [] ∧ t.trim.unlisted = 0 ∧
    t.time.discipline = .free ∧ t.time.day = 0 ∧ t.time.instant = 0 ∧ t.time.isSet = false ∧ t.time.freqTrim = 0 ∧
    t.time.lockHistory = false ∧ t.time.good = 0 ∧ t.time.refMark = none ∧ t.time.holdoverTimer = 0 ∧
    t.time.held = none ∧ t.time.lastPulse = none ∧ t.time.stepMark = false ∧ t.time.malformed = 0 ∧
    t.time.unnamed = 0 ∧ t.time.offWindow = 0 ∧ t.time.steps = 0 ∧ t.time.events = [] ∧ t.time.unlisted = 0 ∧
    t.feed = ⟨4096, some 4, 0xACE1#16, 0, 0#16, 0#16⟩ ∧
    t.link.receiver = .hunting ∧ t.link.cmdQueue = [] ∧ t.link.replyQueue = [] ∧ t.link.deferred = [] ∧
    t.link.counters = ⟨0, 0, 0, 0, 0, 0, 0⟩ ∧ t.link.changes = ⟨0, 0, 0, 0, 0, 0, 0⟩ ∧ t.link.enabled = 0xFF#8 ∧
    t.link.raised = 0#8 ∧
    t.link.schedule.toList = [.r, .b, .b, .n, .b, .b, .r, .b, .b, .b, .r, .b, .b, .n, .b, .b] ∧
    t.link.position = 15 ∧ t.link.lane = none ∧ t.link.restart = .off ∧ t.trim.shadow = none

/-- The restart column of the reset tables (R23, R45, R64, R81, R89, R107, R117, R140, R154, R162, R180), and what a restart
keeps, from every state in which the RESTART reply has ended (R179). That the match sum is kept, which R140 does not list,
is the model's choice: log entry 41. -/
def Obligations.CaptureResetValues : Prop :=
  ∀ s : State, s.link.restart = .resetDue → ∃ t : State, exec .captureReset s = .next t ∧
    t.pending = s.pending ∧ t.ticks = s.ticks ∧
    t.cap.state = .standby ∧ t.cap.proceeding = .standby ∧ t.cap.number = 0 ∧ t.cap.period = 0 ∧
    t.cap.closeRequest = false ∧ t.cap.pendingProceeding = none ∧ t.cap.changes = [] ∧ t.cap.changesUnlisted = 0 ∧
    t.cap.pages = s.cap.pages ∧
    (∀ c, t.chan c = {
      settings := (s.chan c).settings
      pendingSettings := ⟨none, none, none, none, none, none, none, none, none⟩
      route := .mic, pendingRoute := none, block := none, lastLevel := 0, seqCount := 0, lastSeq := none
      gapTally := 0, filling := none, starvation := 0, starved := false, newlyStarved := false
      chain := 0xFFFFFFFF#32, activity := .quiet, hangCounter := 0, mismatch := (s.chan c).mismatch
      handover := false, noSpare := (s.chan c).noSpare }) ∧
    t.store = ⟨65536, [], none, [], 0, s.store.shed, s.store.keep, s.store.reclaim, 0, [], 0⟩ ∧
    t.stream = ⟨false, s.stream.threshold, s.stream.wait, 0⟩ ∧
    (∀ i, t.marks.slots.get i = none) ∧ t.marks.sequence = 0 ∧ t.marks.refusals = 0 ∧ t.marks.takings = [] ∧
    t.marks.unlisted = 0 ∧ t.marks.chain = 0xFFFFFFFF#32 ∧
    t.floor = ⟨none, none, s.floor.margin, s.floor.takeover, [], 0, none⟩ ∧
    (∀ v, t.conv v = { s.conv v with
      state := if (s.conv v).state = .shadow then .spare else (s.conv v).state, stuck := 0 }) ∧
    t.trim = { s.trim with
      convs := t.trim.convs, rotation := .idle, named := none, shadow := none, events := [], unlisted := 0 } ∧
    t.time = { s.time with events := [], unlisted := 0 } ∧
    t.feed = s.feed ∧
    t.link = { s.link with replyQueue := [], raised := 0#8, position := 15, lane := none, restart := .off }

/-! ## The sample instant -/

/-- From converter sample to level code. The gain stage (R20): the scaled value is x0 × m / 2^20 rounded to the nearest
integer, halves upward; the record sample is that value held within 16 bits; the clipped count rises exactly when it had to
be; with m = 0 it is 0. The level code of a block (R21): the table of q, b and h, codes within 0..61, and 61 for the one
block of greatest energy. -/
def Obligations.GainStageAndLevelCode : Prop :=
  (∀ (x0 : Int) (m : Nat),
    (2 * scaled x0 m - 1) * 1048576 ≤ 2 * (x0 * m) ∧ 2 * (x0 * m) < (2 * scaled x0 m + 1) * 1048576 ∧
    (narrow (scaled x0 m)).toInt = max (-32768) (min 32767 (scaled x0 m)) ∧
    (clips (scaled x0 m) = true ↔ 32767 < scaled x0 m ∨ scaled x0 m < -32768) ∧
    (m = 0 → scaled x0 m = 0)) ∧
  (∀ e : Nat,
    (e / 320 = 0 → levelCode e = 0) ∧
    (∀ b, 2 ^ b ≤ e / 320 → e / 320 < 2 ^ (b + 1) →
      levelCode e = 2 * b + (if 1 ≤ b ∧ 2 ^ (b - 1) ≤ e / 320 - 2 ^ b then 1 else 0) + 1) ∧
    (e ≤ 343597383680 → levelCode e ≤ 61 ∧ (levelCode e = 61 ↔ e = 343597383680)))

/-- A sample instant at which nothing else is due: each channel processor that runs takes one record sample from its
converter or its pattern page into its FILLING slot and its running block (R19, R20, R21); another channel is unchanged.
The store, the stream unit, the markers, the floor and the link are unchanged. That the last sample instant of a period
leaves the level code and the activity as they are, because the block completes in the boundary row, is the model's choice:
log entry 36. -/
def Obligations.SampleInstantRecordsSamples : Prop :=
  ∀ (s : State) (raw : Vector Raw 26), s.tickFree = true → ∃ t : State, exec (.sampleInstant raw) s = .next t ∧
    (∀ c, (s.capturing = false ∨ (s.chan c).settings.enable = false) → t.chan c = s.chan c) ∧
    (∀ c, s.capturing = true → (s.chan c).settings.enable = true → ∀ (x0 y : Int) (r : Sample),
      x0 = (match (s.chan c).route with
        | .mic => max (-8388608) (min 8388607 ((raw.get (s.trim.map.get c)).toInt - (s.conv (s.trim.map.get c)).offset))
        | .page p => ((s.cap.pages.get p).toList.getD s.cap.instant 0#16).toInt * 256) →
      y = (x0 * (s.chan c).settings.gain + 524288) / 1048576 →
      r = BitVec.ofInt 16 (max (-32768) (min 32767 y)) →
      t.chan c = { s.chan c with
        filling := (s.chan c).filling.map fun l => l ++ [r]
        block := some (let b := if s.cap.instant = 0 then ⟨0, 0, 0⟩ else (s.chan c).block.getD ⟨0, 0, 0⟩
          ⟨b.energy + r.toInt.natAbs ^ 2, max b.peak r.toInt.natAbs,
            b.clipped + if 32767 < y ∨ y < -32768 then 1 else 0⟩) }) ∧
    t.pending = s.pending ∧ t.store = s.store ∧ t.stream = s.stream ∧ t.marks = s.marks ∧ t.floor = s.floor ∧
    t.link = s.link

/-- The room feed of a sample instant (R155 to R160): the sum of the contributing record samples, each the corrected raw
sample or the page sample after gain, held within 16 bits (R19, R20), scaled and rounded half up, gated by the proceeding, masked in SIDEBAR; saturation counted once; the noise register advances; the frame that
begins now carries the sample formed at the last sample instant. That the masking noise is added in a SIDEBAR whose bench
group is empty too is the model's choice: log entry 44. -/
def Obligations.SampleInstantFormsTheFeed : Prop :=
  ∀ (s : State) (raw : Vector Raw 26), s.tickFree = true → ∃ t : State, exec (.sampleInstant raw) s = .next t ∧
    ∀ (x0 sample : Chan → Int) (sum y n total : Int),
      (∀ c, x0 c = match (s.chan c).route with
        | .mic => max (-8388608) (min 8388607 ((raw.get (s.trim.map.get c)).toInt - (s.conv (s.trim.map.get c)).offset))
        | .page p => ((s.cap.pages.get p).toList.getD s.cap.instant 0#16).toInt * 256) →
      (∀ c, sample c = max (-32768) (min 32767 ((x0 c * (s.chan c).settings.gain + 524288) / 1048576))) →
      sum = ((List.finRange 24).map fun c =>
        if s.capturing = true ∧ (s.chan c).settings.enable = true ∧ (s.chan c).settings.feedInclude = true ∧
            (s.cap.proceeding ≠ .sidebar ∨ (s.chan c).settings.bench = false)
        then sample c else 0).sum →
      y = max (-32768) (min 32767 ((sum * s.feed.multiplier + 2048) / 4096)) →
      n = (match s.feed.masking with | some k => s.feed.noise.toInt / 2 ^ k | none => 0) →
      total = (if s.cap.proceeding = .sidebar then y + n else y) →
      t.feed = { s.feed with
        sent := s.feed.formed
        formed := if s.cap.proceeding = .session ∨ s.cap.proceeding = .sidebar
          then BitVec.ofInt 16 (max (-32768) (min 32767 total)) else 0#16
        satCount := if (s.cap.proceeding = .session ∨ s.cap.proceeding = .sidebar) ∧
            (y ≠ (sum * s.feed.multiplier + 2048) / 4096 ∨ total < -32768 ∨ 32767 < total)
          then (if s.feed.satCount < 4294967295 then s.feed.satCount + 1 else s.feed.satCount) else s.feed.satCount
        noise := if s.feed.noise.getLsbD 0 then (s.feed.noise >>> 1) ^^^ 0xB400#16 else s.feed.noise >>> 1 }

/-- The counts of a sample instant: court time with its rollover (R141), the two timers (R147), the trim clock (R118), the
trim engine (R120), the match sum (R127), the equality of a converter's raw samples since sample instant 0 (R130), the
number of the sample instant, and the stamp read at sample instant 0 with the step mark cleared (R4, R149). Log entry 38:
the period 0 that never carries STEPPED is the period of that number, and the mark is cleared there too. Log entry 3, the
model's choice: the sample instant waits while a boundary, the end of a trim or an expiry of a timer is due. -/
def Obligations.SampleInstantRunsTheClocks : Prop :=
  ∀ (s : State) (raw : Vector Raw 26),
    (s.tickFree = true ↔ ¬ (s.cap.state = .capturing ∧ s.cap.instant = 320) ∧ (∀ e ∈ s.trim.engine, e.remaining ≠ 0) ∧
      ¬ ((s.time.discipline = .acquiring ∨ s.time.discipline = .locked) ∧ 24000 ≤ s.time.missingTimer) ∧
      ¬ (s.time.discipline = .holdover ∧ 57600000 ≤ s.time.holdoverTimer)) ∧
    (s.tickFree = false → exec (.sampleInstant raw) s = .next s) ∧
    (s.tickFree = true → ∃ t : State, exec (.sampleInstant raw) s = .next t ∧
    t.ticks = s.ticks + 1 ∧
    t.cap = { s.cap with
      instant := if s.capturing = true then s.cap.instant + 1 else s.cap.instant
      stamp := if s.capturing = true ∧ s.cap.instant = 0
        then ⟨s.time.day, s.time.instant, s.time.quality, s.time.stepMark && decide (s.cap.period ≠ 0)⟩
        else s.cap.stamp } ∧
    t.time = { s.time with
      day := if s.time.instant + 1 < 1382400000 then s.time.day else (s.time.day + 1) % 65536
      instant := if s.time.instant + 1 < 1382400000 then s.time.instant + 1 else 0
      missingTimer := if s.time.discipline = .acquiring ∨ s.time.discipline = .locked
        then s.time.missingTimer + 1 else s.time.missingTimer
      holdoverTimer := if s.time.discipline = .holdover then s.time.holdoverTimer + 1 else s.time.holdoverTimer
      stepMark := if s.capturing = true ∧ s.cap.instant = 0 then false else s.time.stepMark } ∧
    t.trim = { s.trim with
      convs := t.trim.convs
      trimClock := if s.trim.trimClock < 281474976710655 then s.trim.trimClock + 1 else s.trim.trimClock
      engine := s.trim.engine.map fun e =>
        if e.remaining = 0 then e
        else { e with remaining := e.remaining - 1, sum := e.sum + (raw.get e.conv).toInt }
      matchSum := match s.shadowing with
        | some r => if s.capturing = true then s.trim.matchSum +
            (max (-8388608) (min 8388607 ((raw.get r.target).toInt - (s.conv r.target).offset)) -
              max (-8388608) (min 8388607 ((raw.get r.spare).toInt - (s.conv r.spare).offset))).natAbs
          else s.trim.matchSum
        | none => s.trim.matchSum } ∧
    (∀ v, t.conv v = if s.capturing = false then s.conv v
      else if s.cap.instant = 0 then { s.conv v with runFirst := raw.get v, runEqual := true }
      else { s.conv v with runEqual := (s.conv v).runEqual && decide (raw.get v = (s.conv v).runFirst) }))

/-! ## The boundaries -/

/-- A boundary that is not final advances the period number (R4) and commits the pending set (R7): settings, routes and the
proceeding, with its change-list entry (R78); in a record state every route reverts to microphone; the pending set is then
empty and every deferred reply held for it is answered OK. Stream unit, timebase and feed are unchanged, and of the link
controller all but the deferred replies and the pending flags. A flag pending stays pending; CAPTURE, TIME and LINK are
untouched, PROCEEDING is raised by the commit alone (R171); MARKER, STORE, CONVERTER and FLOOR stand in the statements that
follow. -/
def Obligations.PeriodBoundaryCommitsThePendingSet : Prop :=
  ∀ s : State, s.AtBoundary → ∃ t : State, exec .periodBoundary s = .next t ∧
    ∀ (period : Nat) (p : Proceeding), period = (s.cap.period + 1) % 4294967296 →
      p = s.cap.pendingProceeding.getD s.cap.proceeding →
      t.cap = { s.cap with
        period := period, instant := 0, proceeding := p, pendingProceeding := none
        changes := match s.cap.pendingProceeding with
          | none => s.cap.changes
          | some _ => (pushListed s.cap.changes s.cap.changesUnlisted
              ⟨s.cap.number, period, s.cap.proceeding, p, .command⟩).1
        changesUnlisted := match s.cap.pendingProceeding with
          | none => s.cap.changesUnlisted
          | some _ => (pushListed s.cap.changes s.cap.changesUnlisted
              ⟨s.cap.number, period, s.cap.proceeding, p, .command⟩).2 } ∧
      flagSet t.link.raised .proceeding = (flagSet s.link.raised .proceeding || s.cap.pendingProceeding.isSome) ∧
      (∀ k ∈ [NoticeKind.capture, .time, .link], flagSet t.link.raised k = flagSet s.link.raised k) ∧
      (∀ k, flagSet s.link.raised k = true → flagSet t.link.raised k = true) ∧
      (∀ c, (t.chan c).settings = (s.chan c).settings.over (s.chan c).pendingSettings ∧
        (t.chan c).pendingSettings = PendingSettings.empty ∧ (t.chan c).pendingRoute = none ∧
        (t.chan c).route = if p.isRecord = true then .mic else
          ((s.chan c).pendingRoute.map PendingRoute.route).getD (s.chan c).route) ∧
      t.link = { s.link with
        raised := t.link.raised
        deferred := answeredBy s.link.deferred fun q => match q with
          | .settings | .route _ => some (.ok, [])
          | .proceeding r => some (.ok, be 1 r.code ++ be 1 p.code ++ [0x00#8] ++ be 4 period)
          | .close => none } ∧
      t.pending = s.pending ∧ t.ticks = s.ticks ∧ t.stream = s.stream ∧ t.time = s.time ∧ t.feed = s.feed

/-- Steps (a) and (c) of a boundary. The channels with a FILLING slot are posted in ascending order with consecutive custody
numbers, each record with the values of the ending period and its chain check (R5, R6, R84, R86, R133); a channel's chain
value becomes its record's check, and stays where nothing is posted (R87). After them, when a marker slot is FULL and the
KEEP request is granted, comes one marker record with the number of the new period, the tag of the proceeding in force for
it and the court time of the boundary (R8, R75, R111 to R113, R115), and MARKER is raised by it alone. The block in
transmission is untouched. -/
def Obligations.PeriodBoundaryPostsBlocksAndMarkers : Prop :=
  ∀ s : State, s.AtBoundary → ∃ t : State, exec .periodBoundary s = .next t ∧
    ∃ (recs : List AudioRecord) (ms : List MarkerRecord), s.BlocksPosted t recs ∧
      s.marks.Step t.marks (none ∈ (s.store.run s.marks.request).1) s.cap.number
        (s.store.lastCustody + recs.length + 1) ((s.cap.period + 1) % 4294967296)
        (markerTag (s.cap.pendingProceeding.getD s.cap.proceeding))
        ⟨s.time.day, s.time.instant, s.time.quality, s.time.stepMark⟩ ms ∧
      t.store.posted = s.store.posted ++ recs.map (fun r => ⟨.audio r, s.ticks⟩) ++
        ms.map (fun m => ⟨.marker m, s.ticks⟩) ∧
      t.store.lastCustody = s.store.lastCustody + recs.length + ms.length ∧ t.store.sending = s.store.sending ∧
      flagSet t.link.raised .marker = (flagSet s.link.raised .marker || !ms.isEmpty)

/-- Steps (c) and (d) of a boundary (R8, R9, R33 to R35, R38, R40). The marker request comes first, then the channels
enabled for the new period in the order KEEP, NORMAL, SHED and ascending within a class; each request is decided against
the free count the earlier ones have left, and a KEEP request without a FREE slot by reclaim. Every such channel gives the
period its sequence count, which goes up by one, granted or refused; a granted one owns an empty FILLING slot and is
SUPPLIED; a refused one counts a gap and a starvation and is STARVED; a disabled one makes no request and counts nothing.
A posting in step (a) has set the gap tally to 0 before (R5). STORE is raised by a change of the level state, by a reclaim
and by a channel that becomes STARVED, and by nothing else. -/
def Obligations.PeriodBoundaryAllocatesInClassOrder : Prop :=
  ∀ s : State, s.AtBoundary → ∃ t : State, exec .periodBoundary s = .next t ∧
    ∀ rs : List (Option Chan × Sys2Proof.Machine.Class), rs = s.marks.request ++ audioRequests s.newSettings →
      s.store.Allocated t.store rs ∧
      flagSet t.link.raised .store = (flagSet s.link.raised .store ||
        decide (t.store.level ≠ s.store.level ∨ t.store.custody ≠ s.store.custody ∨ ∃ c : Chan,
          (s.newSettings c).enable = true ∧ (s.chan c).starved = false ∧ some c ∉ (s.store.run rs).1)) ∧
      ∀ (c : Chan) (gap : Nat), gap = (if (s.chan c).filling.isSome = true then 0 else (s.chan c).gapTally) →
        if (s.newSettings c).enable = true then
          (t.chan c).lastSeq = some (s.chan c).seqCount ∧
          (t.chan c).seqCount = ((s.chan c).seqCount + 1) % 4294967296 ∧
          (if some c ∈ (s.store.run rs).1 then
            (t.chan c).filling = some [] ∧ (t.chan c).gapTally = gap ∧ (t.chan c).starved = false ∧
            (t.chan c).starvation = (s.chan c).starvation ∧ (t.chan c).newlyStarved = (s.chan c).newlyStarved
          else
            (t.chan c).filling = none ∧ (t.chan c).gapTally = (gap + 1) % 4294967296 ∧ (t.chan c).starved = true ∧
            (t.chan c).starvation = satInc 4294967295 (s.chan c).starvation ∧
            (t.chan c).newlyStarved = ((s.chan c).newlyStarved || !(s.chan c).starved))
        else
          (t.chan c).lastSeq = (s.chan c).lastSeq ∧ (t.chan c).seqCount = (s.chan c).seqCount ∧
          (t.chan c).filling = none ∧ (t.chan c).gapTally = gap ∧ (t.chan c).starved = (s.chan c).starved ∧
          (t.chan c).starvation = (s.chan c).starvation ∧ (t.chan c).newlyStarved = (s.chan c).newlyStarved

/-- The examination at the end of a period (R130), at the boundary that ends it, final or not. The SERVING converter of a
channel enabled during the period whose 320 raw samples were equal gains one stuck count, and at the second is FAULTED, with
CONVERTER raised; unequal samples set the count to 0, and so does a commit that disables the channel. Nothing else is
examined. The count of a rotation's target follows the same rule, whatever becomes of the rotation; its state at the
boundary stands in the statement about the rotation. A converter that served no channel counts 0 when it takes one, else
its count holds. Log entry 42, the model's choice: a converter replaced or relieved at a boundary keeps its count at a
commit that disables its channel. -/
def Obligations.BoundariesExamineTheConverters : Prop :=
  ∀ (s : State) (i : Instr), s.TrimLaw →
    (i = .periodBoundary ∧ s.AtBoundary) ∨ (i = .finalBoundary ∧ s.AtFinalBoundary) →
    ∃ t : State, exec i s = .next t ∧
    (∀ c, s.FoundStuck c → (t.conv (s.convOf c)).state = .faulted ∧ flagSet t.link.raised .converter = true) ∧
    (∀ c, (s.conv (s.convOf c)).state = .serving → ¬ s.FoundStuck c →
      (i = .periodBoundary → ∀ r ∈ s.trim.shadow, r.channel ≠ c) →
      (t.conv (s.convOf c)).state = .serving ∧
      (t.conv (s.convOf c)).stuck =
        if (s.chan c).settings.enable = false then (s.conv (s.convOf c)).stuck
        else if (s.conv (s.convOf c)).runEqual = true ∧ (s.newSettings c).enable = true
        then (s.conv (s.convOf c)).stuck + 1 else 0) ∧
    (∀ v, (s.conv v).state ≠ .serving → (t.conv v).stuck = (s.conv v).stuck ∨ (t.conv v).stuck = 0) ∧
    (∀ c, (t.conv (s.convOf c)).stuck =
      if t.convOf c = s.convOf c ∧ (s.chan c).settings.enable = true ∧ (s.newSettings c).enable = false then 0
      else if (s.conv (s.convOf c)).state = .serving ∧ (s.chan c).settings.enable = true
      then (if (s.conv (s.convOf c)).runEqual = true then (s.conv (s.convOf c)).stuck + 1 else 0)
      else (s.conv (s.convOf c)).stuck) ∧
    (∀ v, (∀ c, s.convOf c ≠ v) →
      (t.conv v).stuck = if ∃ c : Chan, t.convOf c = v then 0 else (s.conv v).stuck)

/-- The trim unit's work at a boundary, but for the rotation (R121, R131 to R134). A trim that ends there makes its
converter SPARE with its offset and the trim clock's value, or FAULTED, and leaves the engine idle; one still running goes
on. Then the channels on a FAULTED converter, enabled ones first, take the SPARE ones in ascending order, and after them the
one in SHADOW; without one, a channel keeps its converter in the no-spare set. Every other channel keeps its converter, its
mismatch count and its no-spare membership, and a posted record takes a handover mark set before. A converter that takes no
part keeps all its fields, and no converter's offset or trim time changes but by the end of its own trim. The entries of the
CONVERTER notice, the rotation's among them (R128), are added in the order of the events. The model's choices: log entry 15,
the mark this boundary sets outlasts its posting; 16, the channel of a FAULTED entry; 17, the period number of the entries;
18, the examination goes by converter number. -/
def Obligations.PeriodBoundaryReplacesFaultedConverters : Prop :=
  ∀ s : State, s.AtBoundary → s.TrimLaw → ∃ t : State, exec .periodBoundary s = .next t ∧
    s.Replaced t s.waiting s.helpers ∧
    (∀ c, ¬ s.Faulty c → (∀ r ∈ s.trim.shadow, r.channel ≠ c) →
      t.convOf c = s.convOf c ∧ (t.chan c).mismatch = (s.chan c).mismatch ∧ (t.chan c).noSpare = (s.chan c).noSpare ∧
      (t.chan c).handover = if (s.chan c).filling.isSome = true then false else (s.chan c).handover) ∧
    (∀ c, (t.chan c).handover = if t.convOf c ≠ s.convOf c then true
      else if (s.chan c).filling.isSome = true then false else (s.chan c).handover) ∧
    (∀ c, (∀ r ∈ s.trim.shadow, r.channel ≠ c) → t.convOf c = s.convOf c →
      (t.chan c).mismatch = (s.chan c).mismatch) ∧
    (∀ r ∈ s.trim.shadow, (t.chan r.channel).noSpare = false) ∧
    (∀ e ∈ s.trim.engine,
      (e.EndsInRange →
        t.conv e.conv = { s.conv e.conv with
          state := (t.conv e.conv).state, stuck := (t.conv e.conv).stuck
          offset := e.mean, doneAt := some s.trim.trimClock } ∧
        ((∀ c, t.convOf c ≠ e.conv) → (∀ r ∈ t.trim.shadow, r.spare ≠ e.conv) → (t.conv e.conv).state = .spare)) ∧
      (e.EndsFaulted → t.conv e.conv = { s.conv e.conv with state := .faulted }) ∧
      (e.remaining ≠ 0 → t.conv e.conv = s.conv e.conv)) ∧
    (s.trim.shadow = none → t.trim.engine = s.trim.engine.filter fun e => e.remaining ≠ 0) ∧
    (∀ v, (∀ e ∈ s.trim.engine, e.conv = v → ¬ e.EndsInRange) →
      t.conv v = { s.conv v with state := (t.conv v).state, stuck := (t.conv v).stuck }) ∧
    (∀ v, (s.conv v).state = .spare ∨ (s.conv v).state = .faulted → (∀ c, s.convOf c ≠ v ∧ t.convOf c ≠ v) →
      (∀ r ∈ t.trim.shadow, r.spare ≠ v) → t.conv v = s.conv v) ∧
    ∀ (next : Nat) (entry : ConverterEvent → ConverterCause → Conv → Option Chan → Option Conv → ConverterEntry)
      (all : List ConverterEntry), next = (s.cap.period + 1) % 4294967296 →
      (∀ ev k v c o, entry ev k v c o = ⟨ev, k, v, c, o, s.cap.number, next⟩) →
      all = ((s.trim.engine.toList.filter fun e => e.EndsFaulted).map fun e => entry .faulted .trim e.conv none none) ++
        s.stuckEntries next ++
        ((s.trim.shadow.toList.filter fun r => s.Faulty r.channel).map fun r =>
          entry .handover .unmatched r.spare (some r.channel) (some r.target)) ++
        s.replacementEntries s.waiting s.helpers s.cap.number next ++
        ((s.trim.shadow.toList.filter fun r =>
            ¬ s.Faulty r.channel ∧ s.waiting.length ≤ s.spares.length).flatMap fun r =>
          if s.trim.matchSum ≤ s.trim.limit * 320 then
            [entry .handover .rotation r.spare (some r.channel) (some r.target)]
          else if (s.chan r.channel).mismatch = 0 then []
          else [entry .faulted .mismatch r.target (some r.channel) none,
            entry .handover .mismatch r.spare (some r.channel) (some r.target)]) →
      (t.trim.events, t.trim.unlisted) = pushAll (s.trim.events, s.trim.unlisted) all ∧
      flagSet t.link.raised .converter = (flagSet s.link.raised .converter || decide (all ≠ []))

/-- The rotation at a boundary (R125 to R128, R131). Of a rotation SHADOWING: a target that is FAULTED gives its channel to
the spare without a match; a spare taken as a replacement leaves the rotation DUE; else the match decides: within the limit
the spare takes the channel and the target is trimmed; beyond it the spare is trimmed again the first time, and the second
time the target is FAULTED and the spare takes the channel. Else the timer rises, and a rotation that is DUE or becomes DUE
begins when the engine is idle and a converter is still SPARE: with the named target while it is SERVING on an enabled
channel, else with the one trimmed longest ago; without a target it stays DUE. The rest of the trim unit is unchanged. Log
entry 19, the model's choice: a named target stays held while the engine is busy or no converter is SPARE. -/
def Obligations.PeriodBoundaryTurnsTheRotation : Prop :=
  ∀ s : State, s.AtBoundary → s.TrimLaw → ∃ t : State, exec .periodBoundary s = .next t ∧
    t.trim = { s.trim with
      convs := t.trim.convs, map := t.trim.map, engine := t.trim.engine, rotation := t.trim.rotation
      named := t.trim.named, shadow := t.trim.shadow, timer := t.trim.timer
      matchSum := if t.trim.shadow.isSome = true then 0 else s.trim.matchSum
      events := t.trim.events, unlisted := t.trim.unlisted } ∧
    ∀ (n : Nat) (enabled : Chan → Prop) (left : List Conv),
      n = (if s.trim.timer < 180000 then s.trim.timer + 1 else s.trim.timer) →
      (∀ c, enabled c ↔ (s.newSettings c).enable = true) → left = s.spares.drop s.waiting.length →
      (∀ r, s.trim.shadow = some r →
        t.trim.shadow = none ∧ t.trim.timer = n ∧
        (s.Faulty r.channel →
          t.trim.rotation = .idle ∧ t.trim.named = s.trim.named ∧ t.trim.engine = none ∧
          t.convOf r.channel = r.spare ∧
          (t.conv r.spare).state = .serving ∧ (t.conv r.spare).stuck = 0 ∧ (t.conv r.target).state = .faulted ∧
          (t.chan r.channel).handover = true ∧ (t.chan r.channel).mismatch = 0 ∧ (t.chan r.channel).noSpare = false) ∧
        (¬ s.Faulty r.channel → s.spares.length < s.waiting.length →
          t.trim.rotation = .due ∧ t.trim.named = none ∧ t.trim.engine = none ∧ t.convOf r.channel = r.target ∧
          (t.conv r.target).state = .serving ∧ (t.chan r.channel).mismatch = (s.chan r.channel).mismatch) ∧
        (¬ s.Faulty r.channel → s.waiting.length ≤ s.spares.length →
          t.trim.rotation = .idle ∧ t.trim.named = s.trim.named ∧
          (s.trim.matchSum ≤ s.trim.limit * 320 →
            t.convOf r.channel = r.spare ∧ (t.conv r.spare).state = .serving ∧ (t.conv r.spare).stuck = 0 ∧
            (t.conv r.target).state = .trimming ∧ t.trim.engine = some ⟨r.target, .short, 640, 0⟩ ∧
            (t.chan r.channel).mismatch = 0 ∧ (t.chan r.channel).handover = true) ∧
          (s.trim.limit * 320 < s.trim.matchSum → (s.chan r.channel).mismatch = 0 →
            t.convOf r.channel = r.target ∧ (t.conv r.spare).state = .trimming ∧ (t.conv r.target).state = .serving ∧
            t.trim.engine = some ⟨r.spare, .long, 2560, 0⟩ ∧ (t.chan r.channel).mismatch = 1) ∧
          (s.trim.limit * 320 < s.trim.matchSum → (s.chan r.channel).mismatch ≠ 0 →
            t.convOf r.channel = r.spare ∧ (t.conv r.spare).state = .serving ∧ (t.conv r.spare).stuck = 0 ∧
            (t.conv r.target).state = .faulted ∧ t.trim.engine = none ∧ (t.chan r.channel).mismatch = 0 ∧
            (t.chan r.channel).handover = true))) ∧
      (s.trim.rotation = .idle → s.trim.interval = 0 ∨ n < s.trim.interval * 50 →
        t.trim.rotation = .idle ∧ t.trim.timer = n ∧ t.trim.shadow = none ∧ t.trim.named = s.trim.named) ∧
      (s.trim.rotation = .due ∨ (s.trim.rotation = .idle ∧ s.trim.interval ≠ 0 ∧ s.trim.interval * 50 ≤ n) →
        ((∃ e ∈ s.trim.engine, e.remaining ≠ 0) ∨ left = [] →
          t.trim.rotation = .due ∧ t.trim.timer = n ∧ t.trim.shadow = none ∧ t.trim.named = s.trim.named) ∧
        ∀ (v : Conv) (more : List Conv), (∀ e ∈ s.trim.engine, e.remaining = 0) → left = v :: more →
          ((∀ c, ¬ enabled c) →
            t.trim.rotation = .due ∧ t.trim.timer = n ∧ t.trim.shadow = none ∧ t.trim.named = none) ∧
          ∀ c, enabled c →
            s.trim.named = some (t.convOf c) ∨
              ((∀ d, enabled d → s.trim.named ≠ some (t.convOf d) ∧
                (t.trimTime (t.convOf c) < t.trimTime (t.convOf d) ∨
                  (t.trimTime (t.convOf c) = t.trimTime (t.convOf d) ∧ t.convOf c ≤ t.convOf d)))) →
            t.trim.rotation = .shadowing ∧ t.trim.shadow = some ⟨v, t.convOf c, c⟩ ∧ (t.conv v).state = .shadow ∧
            (t.conv (t.convOf c)).state = .serving ∧ t.trim.timer = 0 ∧ t.trim.matchSum = 0 ∧ t.trim.named = none)

/-- The floor decision of a boundary (R95 to R99, R102), read from the level codes and activity states after the ending
period's blocks and the settings of the new period: a holder that is a candidate and not QUIET keeps the floor until a
challenger has qualified often enough; otherwise the best ACTIVE candidate takes it, or nobody. Each change of holder writes
one floor record and raises FLOOR; a decision without a change writes none. Log entry 20, the model's choice: the period of
the last decision is the number of the new period. -/
def Obligations.PeriodBoundaryDecidesTheFloor : Prop :=
  ∀ s : State, s.AtBoundary → ∃ t : State, exec .periodBoundary s = .next t ∧
    ∀ (candidate active kept : Chan → Prop) (record : Option Chan → FloorCause → FloorRecord),
      (∀ c, candidate c ↔ (t.chan c).settings.enable = true ∧ (t.chan c).settings.floorEligible = true) →
      (∀ c, active c ↔ candidate c ∧ (t.chan c).activity = .active) →
      (∀ h, kept h ↔ s.floor.holder = some h ∧ candidate h ∧ (t.chan h).activity ≠ .quiet) →
      (∀ n k, record n k = ⟨t.cap.number, t.cap.period, t.cap.proceeding, n, s.floor.holder, k,
        (n.map fun c => (t.chan c).lastLevel).getD 0⟩) →
      (∀ h, kept h →
        (∀ c, t.BestOf (fun d => active d ∧ d ≠ h ∧ (t.chan h).lastLevel + s.floor.margin ≤ (t.chan d).lastLevel) c →
          ∀ n, n = (match s.floor.challenger with | some (d, k) => if d = c then k + 1 else 1 | none => 1) →
            t.floor = if s.floor.takeover ≤ n
              then { s.floor.recorded (record (some c) .takeover) with
                holder := some c, challenger := none, lastDecision := some t.cap.period }
              else { s.floor with challenger := some (c, n), lastDecision := some t.cap.period }) ∧
        ((∀ c, ¬ (active c ∧ c ≠ h ∧ (t.chan h).lastLevel + s.floor.margin ≤ (t.chan c).lastLevel)) →
          t.floor = { s.floor with challenger := none, lastDecision := some t.cap.period })) ∧
      ((∀ h, ¬ kept h) →
        (∀ c, t.BestOf active c →
          t.floor = { s.floor.recorded (record (some c) (if s.floor.holder.isSome = true then .handoff else .opened)) with
            holder := some c, challenger := none, lastDecision := some t.cap.period }) ∧
        ((∀ c, ¬ active c) →
          t.floor = if s.floor.holder.isSome = true
            then { s.floor.recorded (record none .lapse) with
              holder := none, challenger := none, lastDecision := some t.cap.period }
            else { s.floor with challenger := none, lastDecision := some t.cap.period })) ∧
      flagSet t.link.raised .floor = (flagSet s.link.raised .floor || decide (t.floor.holder ≠ s.floor.holder))

/-- The final boundary (R13, R14, R72, R78, R100, R129, R133). The FILLING blocks are posted as at every boundary (R5, R6,
R86) and the marker step comes after them, with the final period's number, stamp and tag (R75, R111); it makes the only
slot request. STANDBY, no advance of the period number, no floor decision; pending settings commit, pending routes and the
pending proceeding are discarded, and every deferred reply is answered; CAPTURE is raised with its held contents. The
examination of the final period adds its FAULTED entries to the CONVERTER list (R130, R134); the rest of the trim unit, the
mismatch counts and the no-spare set are unchanged. A flag pending stays pending; STORE is raised by a change of the level
state or a reclaim (R40), CONVERTER and MARKER by their entries, TIME, FLOOR and LINK by nothing (R171). The model's
choices: log entries 16 to 18, the channel, period number and order of those entries. Whether the close request stays set
is left open here: log entry 14. -/
def Obligations.FinalBoundaryEndsTheCapture : Prop :=
  ∀ s : State, s.AtFinalBoundary → ∃ t : State, exec .finalBoundary s = .next t ∧
    t.cap = { s.cap with
      state := .standby, instant := 0, proceeding := .standby, pendingProceeding := none
      closeRequest := t.cap.closeRequest
      changes := (pushListed s.cap.changes s.cap.changesUnlisted ⟨s.cap.number, s.cap.period, s.cap.proceeding, .standby,
        if s.cap.closeRequest = true then .closed else .limit⟩).1
      changesUnlisted := (pushListed s.cap.changes s.cap.changesUnlisted ⟨s.cap.number, s.cap.period,
        s.cap.proceeding, .standby, if s.cap.closeRequest = true then .closed else .limit⟩).2
      notice := some ⟨if s.cap.closeRequest = true then .closed else .limit, s.cap.number, s.cap.period,
        (List.finRange 24).map fun c =>
          ⟨(s.chan c).lastSeq, if (s.chan c).filling.isSome = true then 0 else (s.chan c).gapTally⟩⟩ } ∧
    flagSet t.link.raised .capture = true ∧ flagSet t.link.raised .proceeding = true ∧
    (∀ k ∈ [NoticeKind.time, .floor, .link], flagSet t.link.raised k = flagSet s.link.raised k) ∧
    (∀ k, flagSet s.link.raised k = true → flagSet t.link.raised k = true) ∧
    flagSet t.link.raised .store = (flagSet s.link.raised .store ||
      decide (t.store.level ≠ s.store.level ∨ t.store.custody ≠ s.store.custody)) ∧
    (s.TrimLaw →
      (t.trim.events, t.trim.unlisted) = pushAll (s.trim.events, s.trim.unlisted) (s.stuckEntries s.cap.period) ∧
      flagSet t.link.raised .converter =
        (flagSet s.link.raised .converter || decide (s.stuckEntries s.cap.period ≠ [])) ∧
      ∀ v, t.conv v = { s.conv v with
        stuck := (t.conv v).stuck
        state := if (s.conv v).state = .shadow then .spare
          else if ∃ c : Chan, s.convOf c = v ∧ s.FoundStuck c then .faulted else (s.conv v).state }) ∧
    (∀ c, (t.chan c).settings = (s.chan c).settings.over (s.chan c).pendingSettings ∧
      (t.chan c).pendingSettings = PendingSettings.empty ∧ (t.chan c).pendingRoute = none ∧ (t.chan c).route = .mic ∧
      (t.chan c).block = none ∧ (t.chan c).filling = none ∧ (t.chan c).handover = false ∧
      (t.chan c).lastSeq = (s.chan c).lastSeq ∧ (t.chan c).seqCount = (s.chan c).seqCount ∧
      (t.chan c).gapTally = (if (s.chan c).filling.isSome = true then 0 else (s.chan c).gapTally) ∧
      (t.chan c).starvation = (s.chan c).starvation ∧ (t.chan c).starved = (s.chan c).starved ∧
      (t.chan c).newlyStarved = (s.chan c).newlyStarved ∧ (t.chan c).mismatch = (s.chan c).mismatch ∧
      (t.chan c).noSpare = (s.chan c).noSpare ∧ (t.chan c).lastLevel = (s.chan c).heard.1) ∧
    t.floor = { s.floor with holder := none, challenger := none } ∧
    t.trim = { s.trim with
      convs := t.trim.convs, rotation := .idle, named := none, shadow := none
      events := t.trim.events, unlisted := t.trim.unlisted } ∧
    (∀ v, (s.conv v).state = .shadow → (t.conv v).state = .spare) ∧
    (∃ (recs : List AudioRecord) (ms : List MarkerRecord), s.BlocksPosted t recs ∧
      s.marks.Step t.marks (none ∈ (s.store.run s.marks.request).1) s.cap.number
        (s.store.lastCustody + recs.length + 1) s.cap.period (markerTag s.cap.proceeding) s.cap.stamp ms ∧
      t.store.posted = s.store.posted ++ recs.map (fun r => ⟨.audio r, s.ticks⟩) ++
        ms.map (fun m => ⟨.marker m, s.ticks⟩) ∧
      t.store.lastCustody = s.store.lastCustody + recs.length + ms.length ∧ t.store.sending = s.store.sending ∧
      s.store.Allocated t.store s.marks.request ∧
      flagSet t.link.raised .marker = (flagSet s.link.raised .marker || !ms.isEmpty)) ∧
    t.link = { s.link with
      raised := t.link.raised
      deferred := answeredBy s.link.deferred fun q => match q with
        | .settings => some (.ok, [])
        | .route _ => some (.superseded, [])
        | .proceeding r => some (.superseded,
            be 1 r.code ++ be 1 s.cap.proceeding.code ++ [0x00#8] ++ be 4 s.cap.period)
        | .close => some (.ok, be 4 s.cap.period) } ∧
    t.pending = s.pending ∧ t.ticks = s.ticks ∧ t.stream = s.stream ∧ t.time = s.time ∧ t.feed = s.feed

/-! ## Slots and markers -/

/-- The allocation rule (R33) for every class. Reclaim (R35): refused when it is off or no custody slot is unpinned and not
release-pending; else the eligible slot with the lowest custody number leaves the custody list, is listed or counted, the
reclaim count rises, STORE is raised, and the free count stays. The level state (R37) is that of the table; a change of the
free count that changes it raises STORE, and one that does not raises nothing (R40). -/
def Obligations.SlotRequestsReclaimAndLevelState : Prop :=
  (∀ s : State, ((s.slotRequest .shed).isSome = true ↔ s.store.shed < s.store.free) ∧
    ((s.slotRequest .normal).isSome = true ↔ s.store.keep < s.store.free) ∧
    (0 < s.store.free → (s.slotRequest .keep).isSome = true) ∧
    (s.store.free = 0 → s.slotRequest .keep = s.reclaimSlot) ∧
    (∀ (k : Sys2Proof.Machine.Class) (t : State), 0 < s.store.free → s.slotRequest k = some t →
      t = s.setFree (s.store.free - 1))) ∧
  (∀ free shed keep : Nat, keep ≤ shed →
    (levelOf free shed keep = .normal ↔ shed < free) ∧
    (levelOf free shed keep = .shedding ↔ keep < free ∧ free ≤ shed) ∧
    (levelOf free shed keep = .keepOnly ↔ 0 < free ∧ free ≤ keep) ∧
    (levelOf free shed keep = .exhausted ↔ free = 0)) ∧
  (∀ (s : State) (n : Nat), s.setFree n = { s with
    store := { s.store with free := n }
    link := { s.link with
      raised := if levelOf n s.store.shed s.store.keep = levelOf s.store.free s.store.shed s.store.keep
        then s.link.raised else s.link.raised ||| 0x40#8 } }) ∧
  (∀ s : State, s.CustodyLaw →
      ((s.store.reclaim = false ∨ ∀ h ∈ s.store.custody, ¬ (h.pins = 0 ∧ h.releasePending = false)) →
        s.reclaimSlot = none) ∧
      (s.store.reclaim = true → ∀ h ∈ s.store.custody, h.pins = 0 → h.releasePending = false →
        (∀ g ∈ s.store.custody, g.pins = 0 → g.releasePending = false → h.record.custody ≤ g.record.custody) →
        s.reclaimSlot = some { s with
          store := { s.store with
            custody := s.store.custody.filter fun g => g.record.custody ≠ h.record.custody
            reclaimCount := satInc 4294967295 s.store.reclaimCount
            reclaimList := if s.store.reclaimList.length < 32 then s.store.reclaimList ++ [h.record.custody]
              else s.store.reclaimList
            notListed := if s.store.reclaimList.length < 32 then s.store.notListed else satInc 65535 s.store.notListed }
          link := { s.link with raised := s.link.raised ||| 0x40#8 } }))

/-- The marker step (R8, R111, R112, R113, R115): without a FULL slot nothing; with a granted KEEP request one marker record
of every FULL slot in ascending order, posted with the next custody number, its sequence and its chain check, the slots
EMPTY and the taking listed; with a refused one only the refusal count. -/
def Obligations.MarkerTakingRule : Prop :=
  ∀ (s : State) (period : Nat) (tag : Tag) (st : Stamp) (full : List (Fin 8 × Marker)),
    full = (List.finRange 8).filterMap (fun i => (s.marks.slots.get i).map fun m => (i, m)) →
    (full = [] → s.takeMarkers period tag st = s) ∧
    (full ≠ [] → s.slotRequest .keep = none →
      s.takeMarkers period tag st = { s with marks := { s.marks with refusals := satInc 65535 s.marks.refusals } }) ∧
    (full ≠ [] → ∀ g : State, s.slotRequest .keep = some g → ∃ r : MarkerRecord,
      r = ⟨s.cap.number, s.store.lastCustody + 1, s.marks.sequence, period, st.day, st.instant, st.quality, tag, full,
        crc32 s.marks.chain r.covered⟩ ∧
      s.takeMarkers period tag st = { g with
        store := { g.store with
          posted := g.store.posted ++ [⟨.marker r, s.ticks⟩], lastCustody := s.store.lastCustody + 1 }
        marks := { s.marks with
          slots := Vector.replicate 8 none, sequence := s.marks.sequence + 1, chain := r.check
          takings := (pushListed s.marks.takings s.marks.unlisted
            ⟨s.cap.number, r.sequence, r.custody, period, full.map Prod.fst⟩).1
          unlisted := (pushListed s.marks.takings s.marks.unlisted
            ⟨s.cap.number, r.sequence, r.custody, period, full.map Prod.fst⟩).2 }
        link := { g.link with raised := g.link.raised ||| 0x04#8 } })

/-! ## Tables -/

/-- The tag tables (R74, R75), the transition table (R67), the record states SESSION, SIDEBAR and IN_CAMERA (section 4.1),
one of them in force or pending (R18), the time quality of the listed combinations (R149), and the activity table (R92) for open code o, close code c and hang H, every level code and every counter. A notice's list takes
an entry at its end; a full one of 8 loses its oldest, and the unlisted count rises by 1, saturating at 255 (R78, R115,
R134, R152). Pending settings replace the fields in force that they hold (R7), and newly selected fields those pending
before (R10). -/
def Obligations.TablesListsAndPendingFields : Prop :=
  (∀ b : Bool, audioTag .recess b = .recess ∧ audioTag .session b = .session ∧
    audioTag .sidebar b = (if b = true then .restricted else .session) ∧ audioTag .inCamera b = .restricted) ∧
  markerTag .recess = .recess ∧ markerTag .session = .session ∧ markerTag .sidebar = .session ∧
  markerTag .inCamera = .restricted ∧
  (∀ p q : Proceeding, transitionAllowed p q = true ↔
    (p, q) ∈ [(Proceeding.recess, Proceeding.session), (.recess, .inCamera), (.session, .recess), (.session, .sidebar),
      (.session, .inCamera), (.sidebar, .recess), (.sidebar, .session), (.inCamera, .recess), (.inCamera, .session)]) ∧
  (∀ p : Proceeding, p.isRecord = true ↔ p = .session ∨ p = .sidebar ∨ p = .inCamera) ∧
  (∀ s : State, s.recordState = true ↔ ∃ p : Proceeding, (p = .session ∨ p = .sidebar ∨ p = .inCamera) ∧
    (s.cap.proceeding = p ∨ s.cap.pendingProceeding = some p)) ∧
  (∀ (x : Settings) (n code : Nat),
    (x.openCode ≤ code → activityNext x .quiet n code = (.active, 0)) ∧
    (code < x.openCode → activityNext x .quiet n code = (.quiet, 0)) ∧
    (x.closeCode ≤ code → activityNext x .active n code = (.active, 0)) ∧
    (code < x.closeCode → x.hang = 0 → activityNext x .active n code = (.quiet, 0)) ∧
    (code < x.closeCode → 0 < x.hang → activityNext x .active n code = (.hanging, x.hang)) ∧
    (x.closeCode ≤ code → activityNext x .hanging n code = (.active, 0)) ∧
    (code < x.closeCode → 1 < n → activityNext x .hanging n code = (.hanging, n - 1)) ∧
    (code < x.closeCode → n = 1 → activityNext x .hanging n code = (.quiet, 0))) ∧
  (∀ x : Timebase, x.quality = if x.isSet = false then .unset else match x.discipline, x.lockHistory with
    | .locked, true => .locked
    | .holdover, true => .holdover
    | .acquiring, true => .holdover
    | .acquiring, false => .free
    | .free, false => .free
    | _, _ => x.quality) ∧
  (∀ max n : Nat, satInc max n = if n < max then n + 1 else n) ∧
  (∀ (α : Type) (l : List α) (n : Nat) (x : α),
    (l.length < 8 → pushListed l n x = (l ++ [x], n)) ∧
    (8 ≤ l.length → pushListed l n x = (l.drop 1 ++ [x], if n < 255 then n + 1 else n))) ∧
  (∀ (x : Settings) (p : PendingSettings), x.over p = ⟨p.enable.getD x.enable, p.gain.getD x.gain, p.cls.getD x.cls,
    p.bench.getD x.bench, p.floorEligible.getD x.floorEligible, p.feedInclude.getD x.feedInclude,
    p.openCode.getD x.openCode, p.closeCode.getD x.closeCode, p.hang.getD x.hang⟩) ∧
  (∀ old new : PendingSettings, old.merge new = ⟨new.enable.or old.enable, new.gain.or old.gain, new.cls.or old.cls,
    new.bench.or old.bench, new.floorEligible.or old.floorEligible, new.feedInclude.or old.feedInclude,
    new.openCode.or old.openCode, new.closeCode.or old.closeCode, new.hang.or old.hang⟩)

/-! ## Trims and the map -/

/-- The end of a trim (R121): the mean of the samples, halves upward, makes the converter SPARE with that offset and the
trim clock's value, or FAULTED with a CONVERTER event; nothing else changes once the map is built. -/
def Obligations.TrimEndResult : Prop :=
  ∀ (s : State) (e : Engine) (m : Int), s.trim.engine = some e → e.remaining = 0 → s.trim.mapBuilt = true →
    m = (match e.kind with | .long => (e.sum + 1280) / 2560 | .short => (e.sum + 320) / 640) →
    (-24000 ≤ m → m ≤ 24000 → exec .trimEnd s = .next { s with trim := { s.trim with
      engine := none
      convs := s.trim.convs.set e.conv
        { s.conv e.conv with state := .spare, offset := m, doneAt := some s.trim.trimClock } } }) ∧
    (m < -24000 ∨ 24000 < m → exec .trimEnd s = .next { s with
      trim := { s.trim with
        engine := none
        convs := s.trim.convs.set e.conv { s.conv e.conv with state := .faulted }
        events := (pushListed s.trim.events s.trim.unlisted
          ⟨.faulted, .trim, e.conv, none, none, s.cap.number, s.cap.period⟩).1
        unlisted := (pushListed s.trim.events s.trim.unlisted
          ⟨.faulted, .trim, e.conv, none, none, s.cap.number, s.cap.period⟩).2 }
      link := { s.link with raised := s.link.raised ||| 0x20#8 } })

/-- The start-up trims run in ascending order (R122); each ends as R121 lays down, with its offset and trim completion
time or FAULTED with both as before. The end of CV25's builds the map (R123): a channel takes its own converter when that
is SPARE, the others in ascending order the spare ones of CV24 and CV25, then their own FAULTED ones, joining the no-spare
set. The entries of the CONVERTER notice follow (R134). `good` says which converters the start-up trims left in range. -/
def Obligations.StartUpTrimsAndMapBuild : Prop :=
  ∀ (s : State) (e : Engine) (good : Conv → Prop) [DecidablePred good] (own : Chan → Conv) (bad : List Chan)
    (free : List Conv), s.trim.engine = some e → e.remaining = 0 → e.kind = .long → s.trim.mapBuilt = false →
    (∀ v, v ≠ e.conv → (good v ↔ (s.conv v).state = .spare)) →
    (good e.conv ↔ -24000 ≤ (e.sum + 1280) / 2560 ∧ (e.sum + 1280) / 2560 ≤ 24000) →
    (∀ c, own c = c.castLE (by decide)) → bad = (List.finRange 24).filter (fun c => ¬ good (own c)) →
    free = [24, 25].filter (fun v => good v) →
    ∃ t : State, exec .trimEnd s = .next t ∧
      (good e.conv → (t.conv e.conv).offset = (e.sum + 1280) / 2560 ∧
        (t.conv e.conv).doneAt = some s.trim.trimClock) ∧
      (¬ good e.conv → (t.conv e.conv).state = .faulted ∧ (t.conv e.conv).offset = (s.conv e.conv).offset ∧
        (t.conv e.conv).doneAt = (s.conv e.conv).doneAt) ∧
      (t.trim.events, t.trim.unlisted) = pushAll (s.trim.events, s.trim.unlisted)
        ((if good e.conv then [] else [⟨.faulted, .trim, e.conv, none, none, s.cap.number, s.cap.period⟩]) ++
          (if e.conv ≠ 25 then [] else
            ((bad.drop free.length).filter fun c => (s.chan c).noSpare = false).map fun c =>
              ⟨.noSpare, .none, own c, some c, none, s.cap.number, s.cap.period⟩)) ∧
      (¬ good e.conv → flagSet t.link.raised .converter = true) ∧
      (e.conv ≠ 25 → t.trim.mapBuilt = false ∧ t.trim.engine = some ⟨e.conv + 1, .long, 2560, 0⟩ ∧
        (t.conv (e.conv + 1)).state = .trimming ∧
        (t.conv e.conv).state = if good e.conv then .spare else .faulted) ∧
      (e.conv = 25 → t.trim.mapBuilt = true ∧ t.trim.engine = none ∧
        (∀ c, good (own c) → t.convOf c = own c ∧ (t.conv (own c)).state = .serving) ∧
        (∀ (i : Nat) (c : Chan), bad[i]? = some c →
          (∀ v, free[i]? = some v → t.convOf c = v ∧ (t.conv v).state = .serving) ∧
          (free[i]? = none → t.convOf c = own c ∧ (t.chan c).noSpare = true ∧
            ((s.chan c).noSpare = false → flagSet t.link.raised .converter = true))))

/-! ## The lane -/

/-- A scan with the lane idle, HOLD released and no RESTART (R173): the entries are looked at cyclically from the one after
the position, the first whose source is ready wins, its frame starts and the position becomes that entry; with no ready
source nothing changes. R is a reply or a REREAD copy of the record its slot holds, unchanged (R58, R169), N the notice of highest priority
(R171), B the head of the posted queue (R50). -/
def Obligations.LaneScanFollowsTheSchedule : Prop :=
  ∀ (s : State) (ready : Source → Prop) (entry : Fin 16 → Fin 16), s.link.hold = false → s.link.lane = none →
    s.link.restart = .off →
    (∀ x, ready x ↔ match x with
      | .r => s.link.replyQueue ≠ []
      | .n => ∃ k, flagSet s.link.raised k = true ∧ flagSet s.link.enabled k = true
      | .b => s.streamReady = true) →
    (∀ k, entry k = s.link.position + 1 + k) →
    ((∀ k, ¬ ready (s.link.schedule.get (entry k))) → exec .laneScan s = .next s) ∧
    ∀ k, ready (s.link.schedule.get (entry k)) → (∀ j < k, ¬ ready (s.link.schedule.get (entry j))) →
      match s.link.schedule.get (entry k) with
      | .r => ∃ e rest, s.link.replyQueue = e :: rest ∧ exec .laneScan s = .next { s with link := { s.link with
          position := entry k
          lane := some (match e with
            | .reply r => ⟨.reply, frameBytes 0x81#8 r.tag (r.code :: BitVec.ofNat 8 r.result.code :: r.data)⟩
            | .copy n => ⟨.reread, frameBytes 0x83#8 0x00#8
                (((s.store.heldRecord n).map fun r => 0x02#8 :: r.bytes).getD [])⟩) } } ∧
          ∀ (n : Nat) (h : HeldSlot), e = .copy n → s.CustodyLaw → h ∈ s.store.custody → h.record.custody = n →
            exec .laneScan s = .next { s with link := { s.link with
              position := entry k
              lane := some ⟨.reread, frameBytes 0x83#8 0x00#8 (0x02#8 :: h.record.bytes)⟩ } }
      | .n => ∃ x, flagSet s.link.raised x = true ∧ flagSet s.link.enabled x = true ∧
          (∀ y, flagSet s.link.raised y = true → flagSet s.link.enabled y = true → x.code ≤ y.code) ∧
          exec .laneScan s = .next { s.noticeSent x with link := { (s.noticeSent x).link with
            position := entry k
            lane := some ⟨.notice, frameBytes 0x82#8 0x00#8 (s.noticePayload x)⟩ } }
      | .b => ∃ p rest, s.store.posted = p :: rest ∧ exec .laneScan s = .next { s with
          store := { s.store with posted := rest, sending := some p.record }
          link := { s.link with
            position := entry k
            lane := some ⟨.first, frameBytes 0x83#8 0x00#8 (0x01#8 :: p.record.bytes)⟩ } }

/-- The payload of each notice: its kind, then its contents as the state has them, in the order of its rule (R14, R41, R79,
R104, R115, R135, R153, R172, R186). CAPTURE carries the contents held since the final boundary. The map of CONVERTER is
255 for each channel until it is built (R122, R181). That the court day and instant of TIME are the count held, which the
next sample instant carries, is the model's choice: log entry 11. -/
def Obligations.NoticeContents : Prop :=
  ∀ s : State,
    (∀ k, s.cap.notice = some k → s.noticePayload .capture = 0x01#8 ::
      ((match k.reason with | .closed => [0x01#8] | .limit => [0x02#8]) ++ be 2 k.capture ++ be 4 k.period ++
        k.tails.flatMap fun x => optional (be 4) x.lastSeq ++ be 4 x.gap)) ∧
    s.noticePayload .store = 0x02#8 ::
      (be 1 s.store.level.code ++ be 4 s.store.free ++ be 4 s.store.custody.length ++ be 2 s.store.shed ++
        be 2 s.store.keep ++ onOff s.store.reclaim ++ chanSet (fun c => (s.chan c).starved) ++
        chanSet (fun c => (s.chan c).newlyStarved) ++ be 1 s.store.reclaimList.length ++
        s.store.reclaimList.flatMap (be 4) ++ be 2 s.store.notListed ++ be 4 s.store.reclaimCount) ∧
    s.noticePayload .converter = 0x03#8 ::
      (be 1 s.trim.events.length ++
        (s.trim.events.flatMap fun e => be 1 e.event.code ++ be 1 e.cause.code ++ be 1 e.conv.val ++
          chanOr255 e.channel ++ convOr255 e.other ++ be 2 e.capture ++ be 4 e.period) ++ be 1 s.trim.unlisted ++
        ((List.finRange 26).flatMap fun v => be 1 (s.conv v).state.code) ++
        ((List.finRange 24).flatMap fun c => be 1 (if s.trim.mapBuilt = true then (s.convOf c).val else 255)) ++
        chanSet (fun c => (s.chan c).noSpare) ++ be 1 s.trim.rotation.code) ∧
    s.noticePayload .time = 0x04#8 ::
      (be 1 s.time.events.length ++
        (s.time.events.flatMap fun e => be 1 e.event.code ++ be 1 e.cause.code ++ be 1 e.before.code ++
          be 1 e.after.code ++ beInt 6 e.size ++ be 2 e.capture ++ be 4 e.period ++ be 2 e.day ++ be 4 e.instant) ++
        be 1 s.time.unlisted ++ be 1 s.time.discipline.code ++ be 1 s.time.quality.code ++ be 2 s.time.day ++
        be 4 s.time.instant ++ beInt 4 s.time.freqTrim ++ be 2 s.time.steps) ∧
    s.noticePayload .proceeding = 0x05#8 ::
      (be 1 s.cap.proceeding.code ++ optional (fun p => be 1 p.code) s.cap.pendingProceeding ++ be 2 s.cap.number ++
        be 4 s.cap.period ++ be 1 s.cap.changes.length ++
        (s.cap.changes.flatMap fun e => be 2 e.capture ++ be 4 e.period ++ be 1 e.before.code ++ be 1 e.after.code ++
          be 1 e.cause.code) ++ be 1 s.cap.changesUnlisted) ∧
    s.noticePayload .marker = 0x06#8 ::
      (be 2 s.cap.number ++ be 1 s.marks.takings.length ++
        (s.marks.takings.flatMap fun e => be 2 e.capture ++ be 4 e.sequence ++ be 4 e.custody ++ be 4 e.period ++
          slotSet e.slots) ++ be 1 s.marks.unlisted ++
        slotSet ((List.finRange 8).filter fun i => (s.marks.slots.get i).isSome) ++ be 2 s.marks.refusals) ∧
    s.noticePayload .floor = 0x07#8 ::
      (be 2 s.cap.number ++ be 4 s.cap.period ++ chanOr255 s.floor.holder ++ be 1 (min 8 s.floor.log.length) ++
        ((s.floor.log.take 8).flatMap fun e => be 2 e.capture ++ be 4 e.period ++ be 1 e.proceeding.code ++
          chanOr255 e.holder ++ chanOr255 e.previous ++ be 1 e.cause.code ++ be 1 e.level) ++
        be 1 s.floor.overrun ++ be 1 (s.floor.log.length - 8)) ∧
    s.noticePayload .link = 0x08#8 :: ([s.link.counters, s.link.changes].flatMap fun k =>
      [k.stray, k.check, k.oversize, k.gap, k.line, k.busy, k.replyLost].flatMap (be 2))

/-- What the sending of each notice clears: its own pending flag (R171) and its owner's lists (R41, R79, R104, R115, R135,
R153, R172); the FLOOR flag stays set while the log still holds records (R103). Nothing else changes. -/
def Obligations.NoticeSendingClearsItsLists : Prop :=
  ∀ s : State,
    s.noticeSent .capture = { s with
      cap := { s.cap with notice := none }, link := { s.link with raised := s.link.raised &&& 0x7F#8 } } ∧
    (∃ v : Vector Channel 24, (∀ c, v.get c = { s.chan c with newlyStarved := false }) ∧
      s.noticeSent .store = { s with
        chans := v
        store := { s.store with reclaimList := [], notListed := 0 }
        link := { s.link with raised := s.link.raised &&& 0xBF#8 } }) ∧
    s.noticeSent .converter = { s with
      trim := { s.trim with events := [], unlisted := 0 }
      link := { s.link with raised := s.link.raised &&& 0xDF#8 } } ∧
    s.noticeSent .time = { s with
      time := { s.time with events := [], unlisted := 0 }
      link := { s.link with raised := s.link.raised &&& 0xEF#8 } } ∧
    s.noticeSent .proceeding = { s with
      cap := { s.cap with changes := [], changesUnlisted := 0 }
      link := { s.link with raised := s.link.raised &&& 0xF7#8 } } ∧
    s.noticeSent .marker = { s with
      marks := { s.marks with takings := [], unlisted := 0 }
      link := { s.link with raised := s.link.raised &&& 0xFB#8 } } ∧
    s.noticeSent .floor = { s with
      floor := { s.floor with log := s.floor.log.drop 8, overrun := 0 }
      link := { s.link with raised :=
        if s.floor.log.length ≤ 8 then s.link.raised &&& 0xFD#8 else s.link.raised ||| 0x02#8 } } ∧
    s.noticeSent .link = { s with link := { s.link with
      raised := s.link.raised &&& 0xFE#8, changes := ⟨0, 0, 0, 0, 0, 0, 0⟩ } }

/-- HOLD starts and ends (R174); no scan starts a frame while it is asserted or a frame is in progress (R173), nor while
restarting, but for the RESTART reply (R179). HOLD's release scans at once: it does what LANE_SCAN does with HOLD released,
which is nothing more when a frame is in progress. The ends of the frames but REREAD: a FIRST block frame puts its slot at
the tail of custody (R51), a reply leaves the reply queue (R169), a notice leaves nothing behind (R171), and each then scans
with the lane idle, doing what LANE_SCAN does there (R173). The end of the RESTART reply makes the capture reset due (R179),
and no frame starts before it. -/
def Obligations.HoldRestartingAndFrameEnds : Prop :=
  ∀ s : State,
    exec .holdAssert s = .next { s with link := { s.link with hold := true } } ∧
    (∃ t : State, exec .laneScan { s with link := { s.link with hold := false } } = .next t ∧
      exec .holdRelease s = .next t) ∧
    (s.link.lane ≠ none → exec .holdRelease s = .next { s with link := { s.link with hold := false } }) ∧
    (s.link.hold = true ∨ s.link.lane ≠ none → exec .laneScan s = .next s) ∧
    (s.link.restart = .replyGoing ∨ s.link.restart = .resetDue → exec .laneScan s = .next s) ∧
    (∀ r, s.link.hold = false → s.link.lane = none → s.link.restart = .replyDue r →
      exec .laneScan s = .next { s with link := { s.link with
        restart := .replyGoing
        lane := some ⟨.restartReply,
          frameBytes 0x81#8 r.tag (r.code :: BitVec.ofNat 8 r.result.code :: r.data)⟩ } }) ∧
    (∀ r, s.laneUse = some .first → s.store.sending = some r → ∃ t : State, exec .laneScan { s with
      store := { s.store with sending := none, custody := s.store.custody ++ [⟨r, 0, false⟩] }
      stream := { s.stream with lastSent := r.custody }
      link := { s.link with lane := none } } = .next t ∧ exec .blockFrameEnd s = .next t) ∧
    (∀ r rest, s.laneUse = some .reply → s.link.replyQueue = .reply r :: rest → ∃ t : State, exec .laneScan { s with
      link := { s.link with replyQueue := rest, lane := none } } = .next t ∧ exec .replyFrameEnd s = .next t) ∧
    (s.laneUse = some .restartReply → exec .replyFrameEnd s = .next { s with
      link := { s.link with lane := none, restart := .resetDue } }) ∧
    (s.laneUse = some .notice → ∃ t : State, exec .laneScan { s with link := { s.link with lane := none } } = .next t ∧
      exec .noticeFrameEnd s = .next t)

/-- The end of a REREAD frame (R60): its entry leaves the reply queue and its pin ends; a release-pending slot whose last
pin ends is FREE, and any other stays in custody at its place. Then the lane is idle and the arbiter scans: the row does
what LANE_SCAN does there (R173). -/
def Obligations.RereadFrameEndOutcomes : Prop :=
  ∀ (s : State) (k : Nat) (rest : List ReplyEntry) (h : HeldSlot), s.CustodyLaw → s.PinLaw →
    s.laneUse = some .reread → s.link.replyQueue = .copy k :: rest → h ∈ s.store.custody → h.record.custody = k →
    (1 < h.pins ∨ h.releasePending = false → ∃ t : State, exec .laneScan { s with
      store := { s.store with custody := s.store.custody.map fun g =>
        if g.record.custody = k then { g with pins := g.pins - 1 } else g }
      link := { s.link with replyQueue := rest, lane := none } } = .next t ∧ exec .rereadFrameEnd s = .next t) ∧
    (h.pins = 1 → h.releasePending = true → ∃ t : State, exec .laneScan { s with
      store := { s.store with
        free := s.store.free + 1, custody := s.store.custody.filter fun g => g.record.custody ≠ k }
      link := { s.link with
        replyQueue := rest, lane := none
        raised := if levelOf (s.store.free + 1) s.store.shed s.store.keep = s.store.level then s.link.raised
          else s.link.raised ||| 0x40#8 } } = .next t ∧ exec .rereadFrameEnd s = .next t)

/-- When the stream unit is ready (R48). The event of the head age reaching the wait changes no state: the readiness it
brings is read from the head age, of 16 sample instants to the millisecond (R47), by the LANE_SCAN that follows: log entry
4, the model's choice. -/
def Obligations.StreamReadiness : Prop :=
  ∀ s : State,
    (s.streamReady = true ↔ s.stream.enable = true ∧ ∃ p rest, s.store.posted = p :: rest ∧
      (s.stream.threshold ≤ s.store.posted.length ∨ s.stream.wait ≤ (s.ticks - p.postedAt) / 16 ∨
        s.cap.state ≠ .capturing)) ∧
    (∀ p rest, s.stream.enable = true → s.store.posted = p :: rest → s.stream.wait ≤ (s.ticks - p.postedAt) / 16 →
      exec .headAgeWait s = .next s ∧ s.streamReady = true)

/-! ## The receiver -/

/-- Bytes and faults on LRX (R165, R166): C5h starts a frame, any other byte in HUNTING is a stray one, an oversize
length, a gap and a line error discard the frame and are counted; each fault leaves the receiver HUNTING. A rise of a link
error counter (R172) raises LINK, and the change since the last LINK notice saturates; a counter at 65,535 does not change
and raises nothing. -/
def Obligations.ReceiverEvents : Prop :=
  ∀ s : State,
    (∀ c : CounterName,
    (65535 ≤ s.link.counters.get c → s.count c = s) ∧
    (s.link.counters.get c < 65535 → ∃ k d : Counters,
      s.count c = { s with link := { s.link with counters := k, changes := d, raised := s.link.raised ||| 0x01#8 } } ∧
      k.get c = s.link.counters.get c + 1 ∧
      d.get c = (if s.link.changes.get c < 65535 then s.link.changes.get c + 1 else s.link.changes.get c) ∧
      ∀ x, x ≠ c → k.get x = s.link.counters.get x ∧ d.get x = s.link.changes.get x)) ∧
    (s.link.receiver = .hunting → exec .syncByte s = .next { s with link := { s.link with receiver := .assembling } }) ∧
    (∀ b : Byte, s.link.receiver = .hunting → b ≠ 0xC5#8 → exec (.strayByte b) s = .next (s.count .stray)) ∧
    (exec .lineError s = .next { s.count .line with link := { (s.count .line).link with receiver := .hunting } }) ∧
    (∀ n : BitVec 16, s.link.receiver = .assembling → 1024 < n.toNat → exec (.oversizeLength n) s =
      .next { s.count .oversize with link := { (s.count .oversize).link with receiver := .hunting } }) ∧
    (s.link.receiver = .assembling → exec .frameGapTimeout s =
      .next { s.count .gap with link := { (s.count .gap).link with receiver := .hunting } })

/-- A complete frame (R166, R167): a wrong check is counted in CHECK; a right one with another kind than COMMAND in STRAY; a
command joins a queue of fewer than 4, and against a full one is answered BUSY, or counted in REPLY_LOST when the reply
queue is full too. -/
def Obligations.FrameCompleteOutcomes : Prop :=
  ∀ (s u : State) (kind tag check good : Byte) (payload : List Byte), s.link.receiver = .assembling →
    payload.length ≤ 1024 → u = { s with link := { s.link with receiver := .hunting } } →
    good = crc8 (kind :: tag :: (be 2 payload.length ++ payload)) →
    (check ≠ good → exec (.frameComplete kind tag payload check) s = .next (u.count .check)) ∧
    (check = good → kind ≠ 0x01#8 → exec (.frameComplete kind tag payload check) s = .next (u.count .stray)) ∧
    (check = good → kind = 0x01#8 → s.link.cmdQueue.length < 4 →
      exec (.frameComplete kind tag payload check) s =
        .next { u with link := { u.link with cmdQueue := s.link.cmdQueue ++ [⟨tag, payload⟩] } }) ∧
    (check = good → kind = 0x01#8 → 4 ≤ s.link.cmdQueue.length → s.link.replyQueue.length < 8 →
      exec (.frameComplete kind tag payload check) s = .next { u.count .busy with link := { (u.count .busy).link with
        replyQueue := s.link.replyQueue ++ [.reply ⟨tag, payload.headD 0xFF#8, .busy, []⟩] } }) ∧
    (check = good → kind = 0x01#8 → 4 ≤ s.link.cmdQueue.length → 8 ≤ s.link.replyQueue.length →
      exec (.frameComplete kind tag payload check) s = .next ((u.count .busy).count .replyLost))

/-! ## The command engine -/

/-- The oldest ANSWERED entry of the deferred-reply table moves to the tail of the reply queue when that has a free entry,
and leaves the table (R170). With an ANSWERED entry in the table, with a full reply queue, and while restarting no command
executes but a RESTART of 1 byte, a head that names no command neither (R168, R179). CLOSE_CAPTURE waits for its further
entries too (log entry 28). The model's choices: a move without an ANSWERED entry leaves the state as it is (log
entry 1), and so does a command row whose code is not the head's, or on an empty queue (log entry 5). -/
def Obligations.AnsweredEntriesAndWaitingHeads : Prop :=
  ∀ s : State,
    (∀ (before after : List Deferred) (e : Deferred) (r : Reply), s.link.deferred = before ++ e :: after →
      (∀ x ∈ before, x.answer = none) → e.answer = some r →
      (s.link.replyQueue.length < 8 → exec .deferredReplyMove s = .next { s with link := { s.link with
        deferred := before ++ after, replyQueue := s.link.replyQueue ++ [.reply r] } }) ∧
      (8 ≤ s.link.replyQueue.length → exec .deferredReplyMove s = .next s)) ∧
    ((∀ e ∈ s.link.deferred, e.answer = none) → exec .deferredReplyMove s = .next s) ∧
    (∀ x ∈ [(Instr.identify, 0x01#8), (.linkStatus, 0x02#8), (.noticeMask, 0x03#8), (.laneSchedule, 0x04#8),
      (.openCapture, 0x10#8), (.closeCapture, 0x11#8), (.setChannel, 0x12#8), (.getChannel, 0x13#8),
      (.loadPattern, 0x14#8), (.routePattern, 0x15#8), (.setProceeding, 0x20#8), (.proceedingStatus, 0x21#8),
      (.storePolicy, 0x30#8), (.storeStatus, 0x31#8), (.streamControl, 0x32#8), (.release, 0x33#8), (.readHeld, 0x34#8),
      (.putMarker, 0x40#8), (.markerStatus, 0x41#8), (.floorConfig, 0x50#8), (.floorStatus, 0x51#8),
      (.trimConfig, 0x60#8), (.converterStatus, 0x61#8), (.trimNow, 0x62#8), (.converterRestore, 0x63#8),
      (.setTime, 0x70#8), (.timeStatus, 0x71#8), (.feedConfig, 0x80#8)],
    (s.link.cmdQueue = [] ∨ (∃ f rest, s.link.cmdQueue = f :: rest ∧ f.payload.head? ≠ some x.2) ∨
      (∃ e ∈ s.link.deferred, e.answer ≠ none) ∨ 8 ≤ s.link.replyQueue.length ∨ s.link.restart ≠ .off) →
    exec x.1 s = .next s) ∧
    (s.link.cmdQueue = [] ∨ (∃ f rest b, s.link.cmdQueue = f :: rest ∧ f.payload.head? = some b ∧
        b ∈ [0x01#8, 0x02#8, 0x03#8, 0x04#8, 0x05#8, 0x10#8, 0x11#8, 0x12#8, 0x13#8, 0x14#8, 0x15#8, 0x20#8, 0x21#8,
          0x30#8, 0x31#8, 0x32#8, 0x33#8, 0x34#8, 0x40#8, 0x41#8, 0x50#8, 0x51#8, 0x60#8, 0x61#8, 0x62#8, 0x63#8, 0x70#8,
          0x71#8, 0x80#8]) ∨
      (∃ e ∈ s.link.deferred, e.answer ≠ none) ∨ 8 ≤ s.link.replyQueue.length ∨ s.link.restart ≠ .off →
      exec .unknownCommand s = .next s) ∧
    (s.link.cmdQueue = [] ∨ (∃ f rest, s.link.cmdQueue = f :: rest ∧ f.payload ≠ [0x05#8] ∧
        (f.payload.head? ≠ some 0x05#8 ∨ (∃ e ∈ s.link.deferred, e.answer ≠ none) ∨ 8 ≤ s.link.replyQueue.length ∨
          s.link.restart ≠ .off)) →
      exec .restart s = .next s) ∧
    (8 < s.link.replyQueue.length + 1 + (s.link.deferred.filter fun e => e.request = .close).length →
      exec .closeCapture s = .next s)

/-- A head that may execute is answered UNKNOWN when its code names no command, and BAD_LENGTH when its payload does not fit
its command, and nothing else changes (R168, R182). A READ_HELD needs a second entry of the reply queue, and a
CLOSE_CAPTURE one for each deferred close request (R168; log entry 28). -/
def Obligations.UnknownAndBadLength : Prop :=
  ∀ (s : State) (f : Command) (rest : List Command),
    (s.Executes f rest 1 →
      (f.payload = [] ∨ ∃ b, f.payload.head? = some b ∧ b ∉ [0x01#8, 0x02#8, 0x03#8, 0x04#8, 0x05#8, 0x10#8, 0x11#8,
        0x12#8, 0x13#8, 0x14#8, 0x15#8, 0x20#8, 0x21#8, 0x30#8, 0x31#8, 0x32#8, 0x33#8, 0x34#8, 0x40#8, 0x41#8, 0x50#8,
        0x51#8, 0x60#8, 0x61#8, 0x62#8, 0x63#8, 0x70#8, 0x71#8, 0x80#8]) →
      exec .unknownCommand s = .next (s.answered f rest .unknown)) ∧
    (∀ x ∈ [(Instr.identify, 0x01#8, 1), (.linkStatus, 0x02#8, 2), (.noticeMask, 0x03#8, 2),
        (.laneSchedule, 0x04#8, 17), (.restart, 0x05#8, 1), (.openCapture, 0x10#8, 1), (.setChannel, 0x12#8, 17),
        (.getChannel, 0x13#8, 2), (.loadPattern, 0x14#8, 642), (.routePattern, 0x15#8, 6), (.setProceeding, 0x20#8, 3),
        (.proceedingStatus, 0x21#8, 1), (.storePolicy, 0x30#8, 6), (.storeStatus, 0x31#8, 1),
        (.streamControl, 0x32#8, 6), (.release, 0x33#8, 5), (.markerStatus, 0x41#8, 1), (.floorConfig, 0x50#8, 3),
        (.floorStatus, 0x51#8, 1), (.trimConfig, 0x60#8, 5), (.converterStatus, 0x61#8, 1), (.trimNow, 0x62#8, 2),
        (.converterRestore, 0x63#8, 2), (.setTime, 0x70#8, 7), (.timeStatus, 0x71#8, 1), (.feedConfig, 0x80#8, 4)],
      s.Executes f rest 1 → f.payload.head? = some x.2.1 → f.payload.length ≠ x.2.2 →
      exec x.1 s = .next (s.answered f rest .badLength)) ∧
    (s.Executes f rest 1 → f.payload.head? = some 0x40#8 →
      f.payload.length < 5 ∨ f.payload.length ≠ 5 + f.byte 4 →
      exec .putMarker s = .next (s.answered f rest .badLength)) ∧
    (s.Executes f rest 2 → f.payload.head? = some 0x34#8 → f.payload.length ≠ 5 →
      exec .readHeld s = .next (s.answered f rest .badLength)) ∧
    (s.Executes f rest (1 + (s.link.deferred.filter fun e => e.request = .close).length) →
      f.payload.head? = some 0x11#8 → f.payload.length ≠ 2 →
      exec .closeCapture s = .next (s.answered f rest .badLength))

/-! ## Commands that only read -/

/-- IDENTIFY (R175), PROCEEDING_STATUS (R80), MARKER_STATUS (R116), FLOOR_STATUS (R106), GET_CHANNEL (R16), STORE_STATUS
(R43), CONVERTER_STATUS (R137) and TIME_STATUS (R151) are answered OK in every state with the values listed, and change
nothing else; GET_CHANNEL with a channel above 23 is refused with RANGE. The widths are those of R183 where it gives them,
else the model's choice: log entries 21 to 26; that TIME_STATUS reports the court time held for the next sample instant is
log entry 11. -/
def Obligations.StatusCommandsAnswer : Prop :=
  ∀ (s : State) (f : Command) (rest : List Command), s.Executes f rest 1 →
    (f.Is 0x01#8 1 → exec .identify s = .next (s.answered f rest .ok
      ([0x5A#8, 0x44#8, 0x43#8, 0x2D#8, 0x32#8, 0x34#8, 0x32#8, 0x36#8] ++ be 1 1 ++ be 1 24 ++ be 1 26 ++ be 4 65536
        ++ be 1 8 ++ be 2 1024 ++ be 1 4 ++ be 1 8 ++ be 1 4 ++ be 1 16 ++ onOff s.trim.mapBuilt))) ∧
    (f.Is 0x21#8 1 → exec .proceedingStatus s = .next (s.answered f rest .ok
      (be 1 s.cap.state.code ++ be 1 s.cap.proceeding.code ++ optional (fun p => be 1 p.code) s.cap.pendingProceeding
        ++ onOff (s.link.deferred.any fun e => match e.request with | .proceeding _ => true | _ => false)
        ++ onOff s.cap.closeRequest ++ be 2 s.cap.number ++ be 4 s.cap.period ++ be 1 s.cap.changes.length))) ∧
    (f.Is 0x41#8 1 → exec .markerStatus s = .next (s.answered f rest .ok
      (be 1 8 ++ (s.marks.slots.toList.flatMap fun m => match m with
          | none => [0x00#8]
          | some m => 0x01#8 :: (be 1 m.kind.code ++ chanOr255 m.channel ++ be 1 m.text.length ++ m.text))
        ++ be 4 s.marks.sequence ++ be 2 s.marks.refusals ++ be 1 s.marks.takings.length ++ be 1 s.marks.unlisted))) ∧
    (f.Is 0x51#8 1 → exec .floorStatus s = .next (s.answered f rest .ok
      (chanOr255 s.floor.holder ++ optional (fun p : Chan × Nat => be 1 p.1.val ++ be 1 p.2) s.floor.challenger
        ++ be 1 s.floor.margin ++ be 1 s.floor.takeover ++ be 1 s.floor.log.length ++ be 1 s.floor.overrun
        ++ optional (be 4) s.floor.lastDecision
        ++ (List.finRange 24).flatMap fun c => be 1 (s.chan c).activity.code ++ be 1 (s.chan c).lastLevel))) ∧
    (∀ (c : Chan) (ch : Channel), f.Is 0x13#8 2 → f.byte 1 = c.val → ch = s.chan c →
      exec .getChannel s = .next (s.answered f rest .ok
        (ch.settings.bytes
          ++ (if ch.pendingSettings = PendingSettings.empty then [0x00#8] else 0x01#8 :: ch.pendingSettings.bytes)
          ++ be 1 ch.route.code ++ optional (fun r => be 1 r.route.code) ch.pendingRoute ++ be 1 ch.activity.code
          ++ (if s.trim.mapBuilt = true then be 1 (s.convOf c).val else be 1 255) ++ be 1 ch.lastLevel
          ++ be 4 ch.seqCount ++ be 4 ch.gapTally))) ∧
    (f.Is 0x13#8 2 → 24 ≤ f.byte 1 → exec .getChannel s = .next (s.answered f rest .range)) ∧
    (f.Is 0x31#8 1 → exec .storeStatus s = .next (s.answered f rest .ok
      (be 4 s.store.free ++ be 1 ((List.finRange 24).filter fun c => (s.chan c).filling.isSome).length
        ++ be 4 s.store.posted.length ++ be 1 (if s.store.sending.isSome = true then 1 else 0) ++ be 4 s.store.custody.length
        ++ be 4 (s.store.custody.filter fun h => 0 < h.pins).length
        ++ be 4 (s.store.custody.filter fun h => h.releasePending = true).length ++ be 1 s.store.level.code
        ++ be 2 s.store.shed ++ be 2 s.store.keep ++ onOff s.store.reclaim ++ be 4 s.store.lastCustody
        ++ optional (fun p : PostedSlot => be 4 p.record.custody) s.store.posted.head?
        ++ optional (fun h : HeldSlot => be 4 h.record.custody) s.store.custody.head?
        ++ optional (fun h : HeldSlot => be 4 h.record.custody) s.store.custody.getLast?
        ++ be 4 s.store.reclaimCount ++ ((List.finRange 24).flatMap fun c => be 4 (s.chan c).starvation)
        ++ chanSet fun c => (s.chan c).starved))) ∧
    (f.Is 0x61#8 1 → exec .converterStatus s = .next (s.answered f rest .ok
      (((List.finRange 26).flatMap fun v => be 1 (s.conv v).state.code ++ beInt 2 (s.conv v).offset
          ++ optional (be 6) (s.conv v).doneAt ++ be 1 (s.conv v).stuck ++ chanOr255 (s.channelOf v))
        ++ (if s.trim.mapBuilt = true then 0x01#8 :: (List.finRange 24).flatMap fun c => be 1 (s.convOf c).val
            else [0x00#8])
        ++ (match s.trim.engine with
            | none => be 1 0 ++ be 1 255 ++ [0x00#8]
            | some e => be 1 e.kind.code ++ be 1 e.conv.val ++ 0x01#8 :: be 2 e.remaining)
        ++ onOff (decide (s.trim.rotation = .shadowing)) ++ be 1 s.trim.rotation.code ++ convOr255 s.trim.named
        ++ convOr255 (s.shadowing.map Shadow.spare) ++ convOr255 (s.shadowing.map Shadow.target)
        ++ chanOr255 (s.shadowing.map Shadow.channel) ++ be 6 s.trim.matchSum ++ be 4 s.trim.timer
        ++ be 2 s.trim.interval ++ be 2 s.trim.limit
        ++ ((List.finRange 24).flatMap fun c => be 1 (s.chan c).mismatch) ++ chanSet (fun c => (s.chan c).noSpare)
        ++ be 6 s.trim.trimClock ++ be 1 s.trim.events.length ++ be 1 s.trim.unlisted))) ∧
    (f.Is 0x71#8 1 → exec .timeStatus s = .next (s.answered f rest .ok
      (be 1 s.time.discipline.code ++ be 1 s.time.quality.code ++ onOff s.time.stepMark ++ be 2 s.time.day
        ++ be 4 s.time.instant ++ beInt 4 s.time.freqTrim ++ be 1 s.time.good ++ onOff s.time.lockHistory
        ++ onOff s.time.refMark.isSome ++ be 2 (s.time.holdoverTimer / 16000)
        ++ optional (be 4) (s.time.lastPulse.map fun p => min ((s.ticks - p.tick) / 16) 4294967295)
        ++ optional (beInt 4) (s.time.lastPulse.bind Pulse.e) ++ optional (beInt 6) (s.time.lastPulse.map Pulse.d)
        ++ optional (fun m => be 2 m.day ++ be 4 m.second) s.time.held
        ++ be 2 s.time.malformed ++ be 2 s.time.unnamed ++ be 2 s.time.offWindow ++ be 2 s.time.steps
        ++ be 1 s.time.events.length ++ be 1 s.time.unlisted)))


/-! ## Link commands -/

/-- LINK_STATUS (R176), NOTICE_MASK (R177) and LANE_SCHEDULE (R178): their replies, refusals and effects. Log entry 26, the
model's choice: the layout of LINK_STATUS's data, a byte to each length and the position. -/
def Obligations.LinkCommandEffects : Prop :=
  ∀ (s : State) (f : Command) (rest : List Command), s.Executes f rest 1 →
    (f.Is 0x02#8 2 → 1 < f.byte 1 → exec .linkStatus s = .next (s.answered f rest .range)) ∧
    (∀ data : List Byte, f.Is 0x02#8 2 →
      data = ([s.link.counters.stray, s.link.counters.check, s.link.counters.oversize, s.link.counters.gap,
          s.link.counters.line, s.link.counters.busy, s.link.counters.replyLost].flatMap (be 2)) ++ be 1 rest.length ++ be 1 s.link.replyQueue.length ++ be 1 s.link.deferred.length
        ++ be 1 0 ++ (s.link.schedule.toList.map fun x => match x with | .r => 0x52#8 | .n => 0x4E#8 | .b => 0x42#8)
        ++ be 1 s.link.position.val ++ [s.link.enabled, s.link.raised] →
      (f.byte 1 = 0 → exec .linkStatus s = .next (s.answered f rest .ok data)) ∧
      (f.byte 1 = 1 → exec .linkStatus s = .next { s.answered f rest .ok data with
        link := { (s.answered f rest .ok data).link with
          counters := ⟨0, 0, 0, 0, 0, 0, 0⟩, changes := ⟨0, 0, 0, 0, 0, 0, 0⟩ } })) ∧
    (∀ m : Byte, f.payload = [0x03#8, m] →
      exec .noticeMask s = .next { s.answered f rest .ok [m, s.link.raised] with
        link := { (s.answered f rest .ok [m, s.link.raised]).link with enabled := m } }) ∧
    (f.Is 0x04#8 17 → (∃ i ∈ List.range 16, f.byte (1 + i) ∉ [0x52, 0x4E, 0x42]) ∨
        (∃ x ∈ [0x52, 0x4E, 0x42], ∀ i ∈ List.range 16, f.byte (1 + i) ≠ x) →
      exec .laneSchedule s = .next (s.answered f rest .range)) ∧
    (∀ v : Vector Source 16, (∀ x : Source, ∃ i : Fin 16, v.get i = x) →
      f.payload = 0x04#8 :: (v.toList.map fun x => match x with | .r => 0x52#8 | .n => 0x4E#8 | .b => 0x42#8) →
      exec .laneSchedule s = .next
        { s.answered f rest .ok (f.payload.drop 1 ++ be 1 s.link.position.val) with
          link := { (s.answered f rest .ok (f.payload.drop 1 ++ be 1 s.link.position.val)).link with schedule := v } })

/-- RESTART (R179): it executes whatever the room and the deferred-reply table; the frames behind it, the deferred entries,
the pending set and the close request are discarded without answers, and its reply is formed with what was discarded.
While restarting it waits. That the reply gives each of the two numbers discarded 1 byte is the model's choice: log entry
26. -/
def Obligations.RestartExecutes : Prop :=
  ∀ (s : State) (f : Command) (rest : List Command), s.link.cmdQueue = f :: rest → f.payload = [0x05#8] →
    (s.link.restart ≠ .off → exec .restart s = .next s) ∧
    (s.link.restart = .off → ∃ v : Vector Channel 24,
      (∀ c, v.get c = { s.chan c with pendingSettings := PendingSettings.empty, pendingRoute := none }) ∧
      exec .restart s = .next { s with
        chans := v
        cap := { s.cap with pendingProceeding := none, closeRequest := false }
        link := { s.link with
          cmdQueue := [], deferred := []
          restart := .replyDue ⟨f.tag, 0x05#8, .ok, be 1 rest.length ++ be 1 s.link.deferred.length ++
            (if s.cap.state = .capturing then [0x01#8] else [0x00#8])⟩ } })

/-! ## Capture commands -/

/-- OPEN_CAPTURE (R2, R3): STATE while CAPTURING, then NOT_READY before the map is built, then STATE at the capture limit.
Taken (R38, R65, R78, R82, R91, R94, R125): CAPTURING in RECESS with the next capture number and period 0, each channel's
counts and chain value afresh, each enabled channel granted or refused its slot, no floor holder, the rotation IDLE with its
timer at 0 and the rest of the trim unit unchanged. A flag pending stays pending, and CAPTURE, TIME, FLOOR and LINK are
untouched (R171). -/
def Obligations.OpenCaptureRule : Prop :=
  ∀ (s : State) (f : Command) (rest : List Command), s.Executes f rest 1 → f.Is 0x10#8 1 →
    (s.cap.state = .capturing → exec .openCapture s = .next (s.answered f rest .state)) ∧
    (s.cap.state = .standby → s.trim.mapBuilt = false → exec .openCapture s = .next (s.answered f rest .notReady)) ∧
    (s.cap.state = .standby → s.trim.mapBuilt = true → 4294967246 < s.store.lastCustody + 1 →
      exec .openCapture s = .next (s.answered f rest .state)) ∧
    (∀ n : Nat, s.cap.state = .standby → s.trim.mapBuilt = true → s.store.lastCustody + 1 ≤ 4294967246 →
    n = (s.cap.number + 1) % 65536 → ∃ t : State, exec .openCapture s = .next t ∧
    t.cap = { s.cap with
      state := .capturing, number := n, period := 0, instant := 0, closeRequest := false
      proceeding := .recess, pendingProceeding := none
      changes := (pushListed s.cap.changes s.cap.changesUnlisted ⟨n, 0, s.cap.proceeding, .recess, .opened⟩).1
      changesUnlisted :=
        (pushListed s.cap.changes s.cap.changesUnlisted ⟨n, 0, s.cap.proceeding, .recess, .opened⟩).2 } ∧
    flagSet t.link.raised .proceeding = true ∧
    t.link = { s.link with
      raised := t.link.raised, cmdQueue := rest
      replyQueue := s.link.replyQueue ++ [.reply ⟨f.tag, 0x10#8, .ok, be 2 n⟩] } ∧
    (∀ c, (t.chan c).settings = (s.chan c).settings ∧ (t.chan c).pendingSettings = PendingSettings.empty ∧
      (t.chan c).route = (s.chan c).route ∧ (t.chan c).pendingRoute = none ∧ (t.chan c).block = none ∧
      (t.chan c).lastLevel = (s.chan c).lastLevel ∧ (t.chan c).chain = 0xFFFFFFFF#32 ∧
      (t.chan c).activity = .quiet ∧ (t.chan c).hangCounter = 0 ∧
      (if (s.chan c).settings.enable = true then
        (t.chan c).lastSeq = some 0 ∧ (t.chan c).seqCount = 1 ∧
        (((t.chan c).filling = some [] ∧ (t.chan c).gapTally = 0 ∧ (t.chan c).starved = false ∧
            (t.chan c).starvation = (s.chan c).starvation ∧ (t.chan c).newlyStarved = (s.chan c).newlyStarved) ∨
          ((t.chan c).filling = (s.chan c).filling ∧ (t.chan c).gapTally = 1 ∧ (t.chan c).starved = true ∧
            (t.chan c).starvation = satInc 4294967295 (s.chan c).starvation ∧ (t.chan c).newlyStarved = true ∧
            flagSet t.link.raised .store = true))
      else
        (t.chan c).lastSeq = none ∧ (t.chan c).seqCount = 0 ∧ (t.chan c).filling = (s.chan c).filling ∧
        (t.chan c).gapTally = 0 ∧ (t.chan c).starved = false ∧ (t.chan c).starvation = (s.chan c).starvation ∧
        (t.chan c).newlyStarved = (s.chan c).newlyStarved)) ∧
    t.floor = { s.floor with holder := none, challenger := none, lastDecision := none } ∧
    t.trim = { s.trim with
      convs := t.trim.convs, map := t.trim.map, rotation := .idle, named := none, shadow := none, timer := 0
      events := t.trim.events, unlisted := t.trim.unlisted } ∧
    (∀ k ∈ [NoticeKind.capture, .time, .floor, .link], flagSet t.link.raised k = flagSet s.link.raised k) ∧
    (∀ k, flagSet s.link.raised k = true → flagSet t.link.raised k = true) ∧
    t.time = { s.time with stepMark := false } ∧
    t.pending = s.pending ∧ t.ticks = s.ticks ∧ t.stream = s.stream ∧ t.feed = s.feed)

/-- What a taken OPEN_CAPTURE does before its reply (R2, R3). The trim unit sets every stuck count to 0 and gives the
channels on a FAULTED converter, enabled ones first, the SPARE ones in ascending order; those left over join the no-spare
set (R130 to R134). Then the opening allocation: the marker request first, with a marker record of period 0, tag RECESS
and the court time of that moment, in a marker chain and sequence that start afresh (R82, R111, R112); then the enabled
channels in the order KEEP, NORMAL, SHED and ascending within a class, each decided against what the earlier requests left
(R9, R33 to R35). -/
def Obligations.OpenCaptureReplacesAndAllocates : Prop :=
  ∀ (s : State) (f : Command) (rest : List Command) (n : Nat), s.Executes f rest 1 → f.Is 0x10#8 1 →
    s.cap.state = .standby → s.trim.mapBuilt = true → s.store.lastCustody + 1 ≤ 4294967246 →
    n = (s.cap.number + 1) % 65536 → ∃ t : State, exec .openCapture s = .next t ∧
    ∀ (bad : List Chan) (spares : List Conv) (rs : List (Option Chan × Sys2Proof.Machine.Class)),
      bad = (turns fun c => (s.chan c).settings.enable).filter (fun c => (s.conv (s.convOf c)).state = .faulted) →
      spares = (List.finRange 26).filter (fun v => (s.conv v).state = .spare) →
      rs = s.marks.request ++ audioRequests (fun c => (s.chan c).settings) →
      s.Replaced t bad spares ∧
      (∀ c, c ∉ bad → t.convOf c = s.convOf c ∧ (t.chan c).mismatch = (s.chan c).mismatch ∧
        (t.chan c).noSpare = (s.chan c).noSpare ∧ (t.chan c).handover = (s.chan c).handover) ∧
      (∀ v, t.conv v = { s.conv v with
        stuck := 0
        state := if ∃ c ∈ bad, t.convOf c = v ∧ s.convOf c ≠ v then .serving else (s.conv v).state }) ∧
      (t.trim.events, t.trim.unlisted) =
        pushAll (s.trim.events, s.trim.unlisted) (s.replacementEntries bad spares n 0) ∧
      flagSet t.link.raised .converter =
        (flagSet s.link.raised .converter || decide (s.replacementEntries bad spares n 0 ≠ [])) ∧
      (∃ ms : List MarkerRecord,
        ({ s.marks with sequence := 0, chain := 0xFFFFFFFF#32 } : Markers).Step t.marks (none ∈ (s.store.run rs).1) n
          (s.store.lastCustody + 1) 0 .recess ⟨s.time.day, s.time.instant, s.time.quality, false⟩ ms ∧
        t.store.posted = s.store.posted ++ ms.map (fun m => ⟨.marker m, s.ticks⟩) ∧
        t.store.lastCustody = s.store.lastCustody + ms.length ∧ t.store.sending = s.store.sending ∧
        flagSet t.link.raised .marker = (flagSet s.link.raised .marker || !ms.isEmpty)) ∧
      s.store.Allocated t.store rs ∧
      flagSet t.link.raised .store = (flagSet s.link.raised .store ||
        decide (t.store.level ≠ s.store.level ∨ t.store.custody ≠ s.store.custody ∨ ∃ c : Chan,
          (s.chan c).settings.enable = true ∧ some c ∉ (s.store.run rs).1)) ∧
      ∀ c, (s.chan c).settings.enable = true →
        if some c ∈ (s.store.run rs).1 then (t.chan c).filling = some [] ∧ (t.chan c).starved = false
        else (t.chan c).filling = (s.chan c).filling ∧ (t.chan c).starved = true

/-- CLOSE_CAPTURE (R12): refused with RANGE for another option than 0 or 1 and with STATE in STANDBY; taken, it sets the
close request, answers a deferred close request SUPERSEDED and is answered as R11 lays down. -/
def Obligations.CloseCaptureRule : Prop :=
  ∀ (s : State) (f : Command) (rest : List Command) (old : List Deferred),
    old = s.link.deferred.filter (fun e => e.request = .close) → s.Executes f rest (1 + old.length) → f.Is 0x11#8 2 →
    (1 < f.byte 1 → exec .closeCapture s = .next (s.answered f rest .range)) ∧
    (f.byte 1 ≤ 1 → s.cap.state = .standby → exec .closeCapture s = .next (s.answered f rest .state)) ∧
    (∀ option : Bool, f.payload = [0x11#8, if option = true then 0x01#8 else 0x00#8] → s.cap.state = .capturing →
      exec .closeCapture s = .next (({ s with
        cap := { s.cap with closeRequest := true }
        link := { s.link with
          replyQueue := s.link.replyQueue ++ old.map fun e => .reply ⟨e.tag, e.code, .superseded, []⟩
          deferred := s.link.deferred.filter fun e => e.request ≠ .close } } : State).taken f rest option .close))

/-- SET_CHANNEL passes or is refused as one request (R15): RANGE, with nothing changed, for an empty channel set or field
set, a bit above the nine, another option than 0 or 1, a selected value out of range, or a close code that would exceed
the open code of a selected channel. In one that passes, `m` is the channel set, `sel` the selected fields with their
values, and a byte of an unselected field may hold anything. In STANDBY the fields are written at once, a channel disabled
becomes QUIET (R93), and the reply is OK; while CAPTURING they replace those fields of the pending settings (R10), and the
request is answered as R11 lays down. -/
def Obligations.SetChannelRule : Prop :=
  (∀ (s : State) (f : Command) (rest : List Command), s.Executes f rest 1 → f.Is 0x12#8 17 →
      (f.num 1 3 = 0 ∨ f.num 4 2 = 0 ∨ 512 ≤ f.num 4 2 ∨ 1 < f.byte 16 ∨
        ((f.num 4 2).testBit 0 = true ∧ 1 < f.byte 6) ∨ ((f.num 4 2).testBit 2 = true ∧ 2 < f.byte 9) ∨
        ((f.num 4 2).testBit 3 = true ∧ 1 < f.byte 10) ∨ ((f.num 4 2).testBit 4 = true ∧ 1 < f.byte 11) ∨
        ((f.num 4 2).testBit 5 = true ∧ 1 < f.byte 12) ∨ ((f.num 4 2).testBit 6 = true ∧ 61 < f.byte 13) ∨
        ((f.num 4 2).testBit 7 = true ∧ 61 < f.byte 14) ∨ ((f.num 4 2).testBit 8 = true ∧ 250 < f.byte 15) ∨
        (∃ c : Chan, (f.num 1 3).testBit c.val = true ∧
          (if (f.num 4 2).testBit 6 = true then f.byte 13 else
            (s.chan c).pendingSettings.openCode.getD (s.chan c).settings.openCode) <
          (if (f.num 4 2).testBit 7 = true then f.byte 14 else
            (s.chan c).pendingSettings.closeCode.getD (s.chan c).settings.closeCode))) →
      exec .setChannel s = .next (s.answered f rest .range)) ∧
  (∀ (s : State) (f : Command) (rest : List Command) (m : Nat) (sel : PendingSettings) (option : Bool)
      (enable g0 g1 cls bench floorEligible feedInclude openCode closeCode hang : Byte), s.Executes f rest 1 →
      f.payload = 0x12#8 :: (be 3 m ++ be 2 sel.mask ++
        [enable, g0, g1, cls, bench, floorEligible, feedInclude, openCode, closeCode, hang,
          if option = true then 0x01#8 else 0x00#8]) →
      0 < m → m < 16777216 → sel ≠ PendingSettings.empty →
      (∀ x ∈ sel.enable, enable = if x = true then 0x01#8 else 0x00#8) →
      (∀ x ∈ sel.gain, x < 65536 ∧ [g0, g1] = be 2 x) →
      (∀ x ∈ sel.cls, cls = match x with | .keep => 0x00#8 | .normal => 0x01#8 | .shed => 0x02#8) →
      (∀ x ∈ sel.bench, bench = if x = true then 0x01#8 else 0x00#8) →
      (∀ x ∈ sel.floorEligible, floorEligible = if x = true then 0x01#8 else 0x00#8) →
      (∀ x ∈ sel.feedInclude, feedInclude = if x = true then 0x01#8 else 0x00#8) →
      (∀ x ∈ sel.openCode, x ≤ 61 ∧ openCode.toNat = x) → (∀ x ∈ sel.closeCode, x ≤ 61 ∧ closeCode.toNat = x) →
      (∀ x ∈ sel.hang, x ≤ 250 ∧ hang.toNat = x) →
      (∀ c : Chan, m.testBit c.val = true →
        (((s.chan c).settings.over ((s.chan c).pendingSettings.merge sel)).closeCode ≤
          ((s.chan c).settings.over ((s.chan c).pendingSettings.merge sel)).openCode)) →
      ∃ v : Vector Channel 24,
        (s.cap.state = .standby → exec .setChannel s = .next (({ s with chans := v } : State).answered f rest .ok) ∧
          ∀ c : Chan, v.get c = if m.testBit c.val = true then
              if ((s.chan c).settings.over sel).enable = true
              then { s.chan c with settings := (s.chan c).settings.over sel }
              else { s.chan c with settings := (s.chan c).settings.over sel, activity := .quiet, hangCounter := 0 }
            else s.chan c) ∧
        (s.cap.state = .capturing →
          exec .setChannel s = .next (({ s with chans := v } : State).taken f rest option .settings) ∧
          ∀ c : Chan, v.get c = if m.testBit c.val = true
            then { s.chan c with pendingSettings := (s.chan c).pendingSettings.merge sel } else s.chan c))

/-- LOAD_PATTERN (R17): a page number above 3 is refused with RANGE; else the 320 samples replace the page at once in
every state, and the reply is OK. ROUTE_PATTERN (R18, R10, R11): RANGE for an empty channel set, another target than 0..3
or 255 or another option than 0 or 1; in STANDBY the routes come into force at once; STATE while a record state is in
force or pending; else the pending routes are placed, deferred ROUTE_PATTERNs of which no pending route stands any longer
are answered SUPERSEDED, and the request is answered as R11 lays down; it waits while the reply queue lacks the entries
for all these answers (R168). Log entry 29: the request number. -/
def Obligations.PatternCommandRules : Prop :=
  (∀ (s : State) (f : Command) (rest : List Command), s.Executes f rest 1 → f.Is 0x14#8 642 →
      (3 < f.byte 1 → exec .loadPattern s = .next (s.answered f rest .range)) ∧
      (∀ p : Fin 4, f.byte 1 = p.val → ∃ v : Vector (Vector Sample 320) 4,
        (∀ q, q ≠ p → v.get q = s.cap.pages.get q) ∧
        (∀ j : Fin 320, (v.get p).get j = BitVec.ofNat 16 (f.byte (2 + 2 * j.val) * 256 + f.byte (3 + 2 * j.val))) ∧
        exec .loadPattern s = .next (({ s with cap := { s.cap with pages := v } } : State).answered f rest .ok))) ∧
  (∀ (s : State) (f : Command) (rest : List Command), f.Is 0x15#8 6 →
      (s.Executes f rest 1 → f.num 1 3 = 0 ∨ (3 < f.byte 4 ∧ f.byte 4 ≠ 255) ∨ 1 < f.byte 5 →
        exec .routePattern s = .next (s.answered f rest .range)) ∧
      ∀ (r : Route) (option : Bool), f.num 1 3 ≠ 0 →
        f.byte 4 = (match r with | .page p => p.val | .mic => 255) → f.byte 5 = (if option = true then 1 else 0) →
        (s.Executes f rest 1 → s.cap.state = .standby → ∃ v : Vector Channel 24,
          (∀ c : Chan, v.get c =
            if (f.num 1 3).testBit c.val = true then { s.chan c with route := r } else s.chan c) ∧
          exec .routePattern s = .next (({ s with chans := v } : State).answered f rest .ok)) ∧
        (s.Executes f rest 1 → s.cap.state = .capturing → s.recordState = true →
          exec .routePattern s = .next (s.answered f rest .state)) ∧
        (s.cap.state = .capturing → s.recordState = false → ∃ v : Vector Channel 24,
          (∀ c : Chan, v.get c = if (f.num 1 3).testBit c.val = true
            then { s.chan c with pendingRoute := some ⟨r, s.cap.nextRequest⟩ } else s.chan c) ∧
          ∀ old : List Deferred,
            old = s.link.deferred.filter (fun e => match e.request with
              | .route n => (List.finRange 24).all fun c => (v.get c).pendingRoute.all fun x => x.request != n
              | _ => false) →
            (s.link.cmdQueue = f :: rest → 8 < s.link.replyQueue.length + 1 + old.length →
              exec .routePattern s = .next s) ∧
            (s.Executes f rest (1 + old.length) → exec .routePattern s = .next (({ s with
              chans := v
              cap := { s.cap with nextRequest := s.cap.nextRequest + 1 }
              link := { s.link with
                replyQueue := s.link.replyQueue ++ old.map fun e => .reply ⟨e.tag, e.code, .superseded, []⟩
                deferred := s.link.deferred.filter fun e => !old.contains e } } : State).taken f rest option
                  (.route s.cap.nextRequest)))))

/-- SET_PROCEEDING refused, or naming the state in force (R66, R67, R68): RANGE, then STATE in STANDBY, then STATE for a
change the table does not allow; a request for the state in force discards the pending proceeding, answers its deferred
request SUPERSEDED, and is answered OK; it waits while the reply queue lacks the entries for these answers (R70). Log entry
39, the model's choice: the SUPERSEDED answer comes first in the reply
queue. -/
def Obligations.SetProceedingRefusedOrHeld : Prop :=
  ∀ (s : State) (f : Command) (rest : List Command), f.Is 0x20#8 3 →
    (s.Executes f rest 1 → f.byte 1 < 1 ∨ 4 < f.byte 1 ∨ 1 < f.byte 2 →
      exec .setProceeding s = .next (s.answered f rest .range)) ∧
    (s.Executes f rest 1 → 1 ≤ f.byte 1 → f.byte 1 ≤ 4 → f.byte 2 ≤ 1 → s.cap.state = .standby →
      exec .setProceeding s = .next (s.answered f rest .state)) ∧
    (∀ p : Proceeding, s.Executes f rest 1 → 1 ≤ p.code → f.byte 1 = p.code → f.byte 2 ≤ 1 →
      s.cap.state = .capturing → p ≠ s.cap.proceeding → transitionAllowed s.cap.proceeding p = false →
      exec .setProceeding s = .next (s.answered f rest .state)) ∧
    (∀ (p : Proceeding) (old : List Deferred) (data : Proceeding → List Byte), 1 ≤ p.code → f.byte 1 = p.code →
      f.byte 2 ≤ 1 → s.cap.state = .capturing → p = s.cap.proceeding →
      old = s.link.deferred.filter (fun e => match e.request with | .proceeding _ => true | _ => false) →
      (∀ q, data q = be 1 q.code ++ be 1 p.code ++ [0x00#8] ++ be 4 s.cap.period) →
      (s.link.cmdQueue = f :: rest → 8 < s.link.replyQueue.length + 1 + old.length →
        exec .setProceeding s = .next s) ∧
      (s.Executes f rest (1 + old.length) → exec .setProceeding s = .next (({ s with
        cap := { s.cap with pendingProceeding := none }
        link := { s.link with
          replyQueue := s.link.replyQueue ++ old.map fun e => .reply ⟨e.tag, e.code, .superseded,
            match e.request with | .proceeding q => data q | _ => []⟩
          deferred := s.link.deferred.filter fun e => !old.contains e } } : State).answered f rest .ok (data p))))

/-- A SET_PROCEEDING for an allowed change (R69): it becomes the pending proceeding; the deferred reply of the request it
replaces, and, for a record state, those of the ROUTE_PATTERNs whose pending routes it discards, are answered SUPERSEDED;
the request is answered as R11 lays down. It waits while the reply queue lacks the entries for these answers (R70). -/
def Obligations.SetProceedingTaken : Prop :=
  ∀ (s : State) (f : Command) (rest : List Command) (p : Proceeding) (option : Bool) (old : List Deferred)
    (data : Proceeding → List Byte), f.Is 0x20#8 3 → 1 ≤ p.code → f.byte 1 = p.code →
    f.byte 2 = (if option = true then 1 else 0) → s.cap.state = .capturing → p ≠ s.cap.proceeding →
    transitionAllowed s.cap.proceeding p = true →
    (∀ q, data q = be 1 q.code ++ be 1 s.cap.proceeding.code ++ [0x01#8] ++ be 1 p.code ++ be 4 s.cap.period) →
    ∃ v : Vector Channel 24,
      (∀ c : Chan, v.get c = if p.isRecord = true then { s.chan c with pendingRoute := none } else s.chan c) ∧
      (old = s.link.deferred.filter (fun e => match e.request with
          | .proceeding _ => true
          | .route n => (List.finRange 24).all fun c => (v.get c).pendingRoute.all fun x => x.request != n
          | _ => false) →
        (s.link.cmdQueue = f :: rest → 8 < s.link.replyQueue.length + 1 + old.length →
          exec .setProceeding s = .next s) ∧
        (s.Executes f rest (1 + old.length) → exec .setProceeding s = .next (({ s with
          chans := v
          cap := { s.cap with pendingProceeding := some p }
          link := { s.link with
            replyQueue := s.link.replyQueue ++ old.map fun e => .reply ⟨e.tag, e.code, .superseded,
              match e.request with | .proceeding q => data q | _ => []⟩
            deferred := s.link.deferred.filter fun e => !old.contains e } } : State).taken f rest option
              (.proceeding p) (data p))))

/-! ## Settings that act at once -/

/-- STORE_POLICY (R42), STREAM_CONTROL (R53), FLOOR_CONFIG (R105), TRIM_CONFIG (R136) and FEED_CONFIG (R161): the values
each refuses with RANGE, and its effect and reply when it is taken. A change of the level state raises STORE (R40). The
model's choices in the replies: the 4 bytes of STREAM_CONTROL's posted count (log entry 22), and FLOOR_CONFIG's challenger
as one optional field (log entry 26). -/
def Obligations.ImmediateSettingCommands : Prop :=
  ∀ (s : State) (f : Command) (rest : List Command), s.Executes f rest 1 →
    (f.Is 0x30#8 6 → f.num 1 2 < f.num 3 2 ∨ 1 < f.byte 5 → exec .storePolicy s = .next (s.answered f rest .range)) ∧
    (∀ on : Bool, f.Is 0x30#8 6 → f.num 3 2 ≤ f.num 1 2 → f.byte 5 = (if on = true then 1 else 0) →
      exec .storePolicy s = .next (({ s with
        store := { s.store with shed := f.num 1 2, keep := f.num 3 2, reclaim := on }
        link := { s.link with
          raised := if levelOf s.store.free (f.num 1 2) (f.num 3 2) = s.store.level then s.link.raised
            else s.link.raised ||| 0x40#8 } } : State).answered f rest .ok
            ((f.payload.drop 1) ++ be 1 (levelOf s.store.free (f.num 1 2) (f.num 3 2)).code))) ∧
    (f.Is 0x32#8 6 → 1 < f.byte 1 ∨ f.num 2 2 = 0 ∨ 256 < f.num 2 2 ∨ 1000 < f.num 4 2 →
      exec .streamControl s = .next (s.answered f rest .range)) ∧
    (∀ on : Bool, f.Is 0x32#8 6 → f.byte 1 = (if on = true then 1 else 0) → 1 ≤ f.num 2 2 → f.num 2 2 ≤ 256 →
      f.num 4 2 ≤ 1000 →
      exec .streamControl s = .next (({ s with stream := { s.stream with
        enable := on, threshold := f.num 2 2, wait := f.num 4 2 } } : State).answered f rest .ok
          (f.payload.drop 1 ++ be 4 s.store.posted.length ++ be 4 s.stream.lastSent ++
            (match s.store.sending with | none => [0x00#8] | some r => 0x01#8 :: be 4 r.custody)))) ∧
    (f.Is 0x50#8 3 → f.byte 1 = 0 ∨ 61 < f.byte 1 ∨ f.byte 2 = 0 ∨ 50 < f.byte 2 →
      exec .floorConfig s = .next (s.answered f rest .range)) ∧
    (f.Is 0x50#8 3 → 1 ≤ f.byte 1 → f.byte 1 ≤ 61 → 1 ≤ f.byte 2 → f.byte 2 ≤ 50 →
      exec .floorConfig s = .next (({ s with floor := { s.floor with
        margin := f.byte 1, takeover := f.byte 2 } } : State).answered f rest .ok
          (f.payload.drop 1 ++
            (match s.floor.challenger with
              | none => [0x00#8]
              | some (c, n) => 0x01#8 :: (be 1 c.val ++ be 1 n))))) ∧
    (f.Is 0x60#8 5 → 3600 < f.num 1 2 ∨ f.num 3 2 = 0 → exec .trimConfig s = .next (s.answered f rest .range)) ∧
    (∀ r : RotationState, f.Is 0x60#8 5 → f.num 1 2 ≤ 3600 → f.num 3 2 ≠ 0 →
      r = (if f.num 1 2 = 0 ∧ s.trim.rotation = .due ∧ s.trim.named = none then .idle else s.trim.rotation) →
      exec .trimConfig s = .next (({ s with trim := { s.trim with
        interval := f.num 1 2, limit := f.num 3 2, rotation := r } } : State).answered f rest .ok
          (f.payload.drop 1 ++ be 1 r.code ++ be 4 s.trim.timer))) ∧
    (f.Is 0x80#8 4 → 15 < f.byte 3 → f.byte 3 ≠ 255 → exec .feedConfig s = .next (s.answered f rest .range)) ∧
    (∀ k : Option Nat, f.Is 0x80#8 4 → (∀ n ∈ k, n ≤ 15) → f.byte 3 = k.getD 255 →
      exec .feedConfig s = .next (({ s with feed := { s.feed with
        multiplier := f.num 1 2, masking := k } } : State).answered f rest .ok
          (f.payload.drop 1 ++ be 4 s.feed.satCount)))

/-! ## Custody commands -/

/-- RELEASE up to K (R54): RANGE when K is above the last sent number; else every custody slot numbered at most K that is
unpinned and not release-pending is FREE, every pinned one not yet release-pending is so marked, and the reply counts
both. A change of the level state raises STORE (R40). Log entry 22, the model's choice: the two counts take 4 bytes each.
-/
def Obligations.ReleaseRule : Prop :=
  ∀ (s : State) (f : Command) (rest : List Command) (k : Nat) (gone kept : HeldSlot → Bool), s.Executes f rest 1 →
    f.Is 0x33#8 5 → k = f.num 1 4 →
    (∀ h, gone h = true ↔ h.record.custody ≤ k ∧ h.pins = 0 ∧ h.releasePending = false) →
    (∀ h, kept h = true ↔ h.record.custody ≤ k ∧ 0 < h.pins ∧ h.releasePending = false) →
    (s.stream.lastSent < k → exec .release s = .next (s.answered f rest .range)) ∧
    (k ≤ s.stream.lastSent → ∀ n, n = s.store.free + (s.store.custody.filter gone).length →
      exec .release s = .next (({ s with
        store := { s.store with
          free := n
          custody := (s.store.custody.filter fun h => !gone h).map fun h =>
            if kept h = true then { h with releasePending := true } else h }
        link := { s.link with
          raised := if levelOf n s.store.shed s.store.keep = s.store.level then s.link.raised
            else s.link.raised ||| 0x40#8 } } : State).answered f rest .ok
            (be 4 (s.store.custody.filter gone).length ++ be 4 (s.store.custody.filter kept).length ++
              be 4 s.stream.lastSent)))

/-- READ_HELD (R57, R58): NOT_HELD when no custody slot has the number; else the slot has one more pin, and its REREAD
copy and then the reply join the reply queue. It needs two entries of the reply queue, taken or not (R168). -/
def Obligations.ReadHeldRule : Prop :=
  (∀ s : State, 7 ≤ s.link.replyQueue.length → exec .readHeld s = .next s) ∧
  ∀ (s : State) (f : Command) (rest : List Command) (k : Nat), s.Executes f rest 2 → f.Is 0x34#8 5 → k = f.num 1 4 →
    ((∀ h ∈ s.store.custody, h.record.custody ≠ k) → exec .readHeld s = .next (s.answered f rest .notHeld)) ∧
    (∀ h ∈ s.store.custody, s.CustodyLaw → h.record.custody = k →
      exec .readHeld s = .next (({ s with
        store := { s.store with custody := s.store.custody.map fun g =>
          if g.record.custody = k then { g with pins := g.pins + 1 } else g }
        link := { s.link with replyQueue := s.link.replyQueue ++ [.copy k] } } : State).answered f rest .ok
          (be 4 k ++ be 1 (h.pins + 1))))


/-! ## Marker, converter and time commands -/

/-- PUT_MARKER (R109): RANGE for a value out of range, then STATE in STANDBY, then FULL for a FULL slot; else the slot
holds the marker, and the reply gives the slot, the period number and the number of FULL slots. -/
def Obligations.PutMarkerRule : Prop :=
  ∀ (s : State) (f : Command) (rest : List Command), s.Executes f rest 1 → f.payload.head? = some 0x40#8 →
    f.payload.length = 5 + f.byte 4 → 5 ≤ f.payload.length →
    (7 < f.byte 1 ∨ f.byte 2 = 0 ∨ 6 < f.byte 2 ∨ (23 < f.byte 3 ∧ f.byte 3 ≠ 255) ∨ 48 < f.byte 4 ∨
        (∃ b ∈ f.payload.drop 5, b.toNat < 0x20 ∨ 0x7E < b.toNat) →
      exec .putMarker s = .next (s.answered f rest .range)) ∧
    ∀ (i : Fin 8) (m : Marker), m.text.length ≤ 48 → (∀ b ∈ m.text, 0x20 ≤ b.toNat ∧ b.toNat ≤ 0x7E) →
      f.payload = 0x40#8 :: (be 1 i.val ++ be 1 m.kind.code ++ chanOr255 m.channel ++ be 1 m.text.length ++ m.text) →
      (s.cap.state = .standby → exec .putMarker s = .next (s.answered f rest .state)) ∧
      (s.cap.state = .capturing → s.marks.slots.get i ≠ none →
        exec .putMarker s = .next (s.answered f rest .full)) ∧
      (s.cap.state = .capturing → s.marks.slots.get i = none →
        exec .putMarker s = .next (({ s with marks := { s.marks with
          slots := s.marks.slots.set i (some m) } } : State).answered f rest .ok
            (be 1 i.val ++ be 4 s.cap.period ++
              be 1 (1 + ((List.finRange 8).filter fun j => (s.marks.slots.get j).isSome).length))))

/-- TRIM_NOW (R138) and CONVERTER_RESTORE (R139): their refusals in order, a SERVING converter named as the next target,
and the trims they start. Log entry 23, the model's choice: TRIM_NOW's sample instants are an optional field. -/
def Obligations.TrimCommandRules : Prop :=
  ∀ (s : State) (f : Command) (rest : List Command), s.Executes f rest 1 →
    (f.Is 0x62#8 2 → 25 < f.byte 1 → exec .trimNow s = .next (s.answered f rest .range)) ∧
    (f.Is 0x63#8 2 → 25 < f.byte 1 → exec .converterRestore s = .next (s.answered f rest .range)) ∧
    ∀ (v : Conv) (started : TrimKind → Nat → State), f.byte 1 = v.val →
      (∀ k n, started k n = { s with trim := { s.trim with
        convs := s.trim.convs.set v { s.conv v with state := .trimming }, engine := some ⟨v, k, n, 0⟩ } }) →
      (f.Is 0x62#8 2 →
        ((s.conv v).state = .untrimmed ∨ (s.conv v).state = .trimming ∨ (s.conv v).state = .shadow ∨
            (s.conv v).state = .faulted → exec .trimNow s = .next (s.answered f rest .state)) ∧
        ((s.conv v).state = .serving → s.cap.state = .standby →
          exec .trimNow s = .next (s.answered f rest .state)) ∧
        ((s.conv v).state = .serving → s.cap.state = .capturing → s.trim.rotation = .shadowing →
          exec .trimNow s = .next (s.answered f rest .notReady)) ∧
        ((s.conv v).state = .serving → s.cap.state = .capturing → s.trim.rotation ≠ .shadowing →
          exec .trimNow s = .next (({ s with trim := { s.trim with
            named := some v, rotation := .due } } : State).answered f rest .ok [0x04#8, 0x00#8])) ∧
        ((s.conv v).state = .spare → s.trim.engine ≠ none ∨ s.trim.rotation = .shadowing →
          exec .trimNow s = .next (s.answered f rest .notReady)) ∧
        ((s.conv v).state = .spare → s.trim.engine = none → s.trim.rotation ≠ .shadowing →
          exec .trimNow s = .next ((started .short 640).answered f rest .ok [0x01#8, 0x01#8, 0x02#8, 0x80#8]))) ∧
      (f.Is 0x63#8 2 →
        ((s.trim.mapBuilt = true ∧ ∃ c, s.convOf c = v) ∨ (s.conv v).state ≠ .faulted →
          exec .converterRestore s = .next (s.answered f rest .state)) ∧
        ((s.trim.mapBuilt = false ∨ ∀ c, s.convOf c ≠ v) → (s.conv v).state = .faulted →
          (s.trim.engine ≠ none ∨ s.trim.rotation = .shadowing →
            exec .converterRestore s = .next (s.answered f rest .notReady)) ∧
          (s.trim.engine = none → s.trim.rotation ≠ .shadowing →
            exec .converterRestore s = .next ((started .long 2560).answered f rest .ok [0x01#8, 0x0A#8, 0x00#8]))))

/-- SET_TIME (R150): RANGE for an instant that is none of a day, then STATE in LOCKED or HOLDOVER; else the next sample
instant carries the given time, court time is set, the step mark is set, the step count rises and a STEP event with cause
SET is added (R152). Log entry 13: the size is the plain difference of the two times. -/
def Obligations.SetTimeRule : Prop :=
  ∀ (s : State) (f : Command) (rest : List Command), s.Executes f rest 1 → f.Is 0x70#8 7 →
    (1382400000 ≤ f.num 3 4 → exec .setTime s = .next (s.answered f rest .range)) ∧
    (f.num 3 4 < 1382400000 → s.time.discipline = .locked ∨ s.time.discipline = .holdover →
      exec .setTime s = .next (s.answered f rest .state)) ∧
    (∀ ev : TimeEntry, f.num 3 4 < 1382400000 → s.time.discipline = .free ∨ s.time.discipline = .acquiring →
      ev = ⟨.step, .set, s.time.discipline, s.time.discipline,
        ((f.num 1 2 * 1382400000 + f.num 3 4 : Nat) : Int) - ((s.time.day * 1382400000 + s.time.instant : Nat) : Int),
        s.cap.number, s.cap.period, f.num 1 2, f.num 3 4⟩ →
      exec .setTime s = .next (({ s with
        time := { s.time with
          day := f.num 1 2, instant := f.num 3 4, isSet := true, stepMark := true
          steps := satInc 65535 s.time.steps
          events := (pushListed s.time.events s.time.unlisted ev).1
          unlisted := (pushListed s.time.events s.time.unlisted ev).2 }
        link := { s.link with raised := s.link.raised ||| 0x10#8 } } : State).answered f rest .ok
          [if s.time.discipline = .free then 0x00#8 else 0x01#8,
            if s.time.discipline = .acquiring ∧ s.time.lockHistory = true then 0x02#8 else 0x01#8]))

/-- A line on TMSG (R142): a line feed directly after a carriage return is ignored, and so is an empty line; five digits, a
comma and five digits within range become the held message; any other line is counted malformed. -/
def Obligations.TimeMessageRule : Prop :=
  ∀ (s : State) (line l : List (Option Byte)) (digits : Nat → List (Option Byte)), some 0x0D#8 ∉ line →
    l = (if s.time.afterCr = true ∧ line.head? = some (some 0x0A#8) then line.drop 1 else line) →
    (∀ n, digits n = [n / 10000 % 10, n / 1000 % 10, n / 100 % 10, n / 10 % 10, n % 10].map fun d =>
      some (BitVec.ofNat 8 (0x30 + d))) →
    (l = [] → exec (.timeMessage line) s = .next { s with time := { s.time with afterCr := true } }) ∧
    (∀ day second, day ≤ 65535 → second ≤ 86399 → l = digits day ++ some 0x2C#8 :: digits second →
      exec (.timeMessage line) s = .next { s with time := { s.time with
        afterCr := true, held := some ⟨day, second⟩ } }) ∧
    (l ≠ [] → (∀ day second, day ≤ 65535 → second ≤ 86399 → l ≠ digits day ++ some 0x2C#8 :: digits second) →
      exec (.timeMessage line) s = .next { s with time := { s.time with
        afterCr := true, malformed := satInc 65535 s.time.malformed } })

/-- A pulse that is not a measured one (R143): unnamed and off-window pulses are counted, break the good-pulse run and
consume the held message; a named pulse without a reference mark is an opening pulse: it sets the mark, restarts the
missing-pulse timer and leads to ACQUIRING (R146). `d` is the offset of R145; its sign at exactly half the span is a free
value: log entry 12. That a pulse is so taken in HOLDOVER even when the holdover limit has been reached and not yet taken
is the model's choice: log entry 43. -/
def Obligations.UnmeasuredPulses : Prop :=
  ∀ (s : State) (frac : BitVec 8),
    (s.time.held = none → exec (.trefPulse frac) s = .next { s with time := { s.time with
      good := 0, unnamed := satInc 65535 s.time.unnamed } }) ∧
    (∀ (m : HeldMessage) (mark : Nat), s.time.held = some m → s.time.refMark = some mark →
      s.ticks * 256 + frac.toNat < mark + 3686400 ∨ mark + 4505600 < s.ticks * 256 + frac.toNat →
      exec (.trefPulse frac) s = .next { s with time := { s.time with
        held := none, good := 0, offWindow := satInc 65535 s.time.offWindow } }) ∧
    (∀ m : HeldMessage, s.time.held = some m → s.time.refMark = none → ∃ (d k : Int),
      d = ((m.day * 1382400000 + m.second * 16000 : Nat) : Int) -
        (((s.time.day * 1382400000 + s.time.instant : Nat) : Int) - 1) + k * 90596966400000 ∧
      -45298483200000 ≤ d ∧ d ≤ 45298483200000 ∧
      ∀ (u : State) (ev : TimeEntry), u = { s with time := { s.time with
          held := none, refMark := some (s.ticks * 256 + frac.toNat), missingTimer := 0
          lastPulse := some ⟨s.ticks, none, d⟩, discipline := .acquiring, good := 0 } } →
        ev = ⟨.state, .pulse, s.time.discipline, .acquiring, 0, s.cap.number, s.cap.period, s.time.day,
          s.time.instant⟩ →
        (s.time.discipline = .acquiring → exec (.trefPulse frac) s = .next u) ∧
        (s.time.discipline ≠ .acquiring → exec (.trefPulse frac) s = .next { u with
          time := { u.time with
            events := (pushListed s.time.events s.time.unlisted ev).1
            unlisted := (pushListed s.time.events s.time.unlisted ev).2 }
          link := { s.link with raised := s.link.raised ||| 0x10#8 } }))

/-- A measured pulse in ACQUIRING or LOCKED (R143 to R148, R152): steering by the frequency error e and the offset d, the
discipline table, entry into LOCKED, the step and its event. `d` is the offset of R145; its sign at exactly half the span
is a free value: log entry 12. -/
def Obligations.MeasuredPulse : Prop :=
  ∀ (s : State) (frac : BitVec 8) (m : HeldMessage) (mark : Nat), s.time.held = some m → s.time.refMark = some mark →
    mark + 3686400 ≤ s.ticks * 256 + frac.toNat → s.ticks * 256 + frac.toNat ≤ mark + 4505600 →
    s.time.discipline = .acquiring ∨ s.time.discipline = .locked → s.time.good ≤ 3 → ∃ (d k : Int),
    d = ((m.day * 1382400000 + m.second * 16000 : Nat) : Int) -
      (((s.time.day * 1382400000 + s.time.instant : Nat) : Int) - 1) + k * 90596966400000 ∧
    -45298483200000 ≤ d ∧ d ≤ 45298483200000 ∧
    ∀ (e : Int) (after : Discipline) (good : Nat) (locks steps : Bool) (time : Nat × Nat) (l₁ l₂ : List TimeEntry × Nat),
      e = ((s.ticks * 256 + frac.toNat : Nat) : Int) - mark - 4096000 →
      (after, good) = (
        if s.time.discipline = .locked then (if -64 ≤ e ∧ e ≤ 64 then (.locked, 0) else (.acquiring, 0))
        else if -2 ≤ e ∧ e ≤ 2 then (if s.time.good ≤ 2 then (.acquiring, s.time.good + 1) else (.locked, 0))
        else (.acquiring, 0)) →
      (locks = true ↔ s.time.discipline = .acquiring ∧ after = .locked) →
      (steps = true ↔ after = .locked ∧ (d < -16 ∨ 16 < d ∨ (locks = true ∧ s.time.isSet = false))) →
      time = (if steps = false then (s.time.day, s.time.instant)
        else if m.second * 16000 + 1 < 1382400000 then (m.day, m.second * 16000 + 1) else ((m.day + 1) % 65536, 0)) →
      l₁ = (if after = s.time.discipline then (s.time.events, s.time.unlisted)
        else pushListed s.time.events s.time.unlisted
          ⟨.state, .pulse, s.time.discipline, after, 0, s.cap.number, s.cap.period, time.1, time.2⟩) →
      l₂ = (if steps = false then l₁ else pushListed l₁.1 l₁.2
        ⟨.step, if locks = true then .lock else .offset, after, after, d, s.cap.number, s.cap.period, time.1, time.2⟩) →
      exec (.trefPulse frac) s = .next { s with
        time := { s.time with
          held := none, refMark := some (s.ticks * 256 + frac.toNat), missingTimer := 0
          lastPulse := some ⟨s.ticks, some e, d⟩
          freqTrim := max (-200000) (min 200000 (s.time.freqTrim - 122 * e +
            if s.time.discipline = .locked ∧ -16 ≤ d ∧ d ≤ 16 then 500 * d else 0))
          discipline := after, good := good
          lockHistory := s.time.lockHistory || locks
          holdoverTimer := if locks = true then 0 else s.time.holdoverTimer
          day := time.1, instant := time.2
          isSet := s.time.isSet || steps, stepMark := s.time.stepMark || steps
          steps := if steps = true then satInc 65535 s.time.steps else s.time.steps
          events := l₂.1, unlisted := l₂.2 }
        link := { s.link with
          raised := if after = s.time.discipline ∧ steps = false then s.link.raised else s.link.raised ||| 0x10#8 } }

/-- The expiries of the two timers (R147): 24,000 sample instants without an accepted pulse end LOCKED in HOLDOVER and
ACQUIRING in HOLDOVER or FREE by the lock history mark; 57,600,000 in HOLDOVER end it in FREE and clear the mark. Before
their time nothing expires: a row that is not due leaves the state as it is, log entry 1, the model's choice. So is that
the limit waits while a pulse taken first has led out of HOLDOVER: log entry 43. -/
def Obligations.TimerExpiries : Prop :=
  ∀ (s : State) (after : Discipline) (ev : Discipline → TimeCause → TimeEntry),
    (∀ x k, ev x k = ⟨.state, k, s.time.discipline, x, 0, s.cap.number, s.cap.period, s.time.day, s.time.instant⟩) →
    after = (if s.time.discipline = .locked ∨ s.time.lockHistory = true then .holdover else .free) →
    (s.time.discipline = .acquiring ∨ s.time.discipline = .locked → 24000 ≤ s.time.missingTimer →
      exec .missingPulse s = .next { s with
        time := { s.time with
          refMark := none, good := 0, discipline := after
          events := (pushListed s.time.events s.time.unlisted (ev after .missing)).1
          unlisted := (pushListed s.time.events s.time.unlisted (ev after .missing)).2 }
        link := { s.link with raised := s.link.raised ||| 0x10#8 } }) ∧
    (s.time.discipline = .free ∨ s.time.discipline = .holdover ∨ s.time.missingTimer < 24000 →
      exec .missingPulse s = .next s) ∧
    (s.time.discipline = .holdover → 57600000 ≤ s.time.holdoverTimer → exec .holdoverLimit s = .next { s with
      time := { s.time with
        discipline := .free, lockHistory := false
        events := (pushListed s.time.events s.time.unlisted (ev .free .limit)).1
        unlisted := (pushListed s.time.events s.time.unlisted (ev .free .limit)).2 }
      link := { s.link with raised := s.link.raised ||| 0x10#8 } }) ∧
    (s.time.discipline ≠ .holdover ∨ s.time.holdoverTimer < 57600000 → exec .holdoverLimit s = .next s)

/-! ## Layouts -/

/-- Fields and their codes (R181): the bytes and numbers of a command's payload, numbers high byte first, signed ones in two's complement, optional fields, absent
channels and converters, lists and sets, and the code tables; the settings in GET_CHANNEL (R183). A frame (R163). The
checks (R83, R164): over covered bytes and the check itself they end at 0, and they have the spec's values for the digits
"123456789". The words in which other statements read a state: a channel, a converter, the map, whether a capture runs
(R1), the use of the lane, the level state (R37), the shadow record (R125), a trim completion time or 0 (R126), the channel
a converter is assigned to (R118), a link counter (R172). -/
def Obligations.CodingAndChecks : Prop :=
  (∀ (f : Command) (i k : Nat), f.byte i = (f.payload.getD i 0#8).toNat ∧ f.num i k < 256 ^ k ∧
    (i + k ≤ f.payload.length → (f.payload.drop i).take k = be k (f.num i k))) ∧
  (∀ k n i : Nat, (be k n)[i]? = if i < k then some (BitVec.ofNat 8 (n / 256 ^ (k - 1 - i))) else none) ∧
  (∀ (k : Nat) (x : Int), beInt k x = be k (x % (256 : Int) ^ k).toNat) ∧
  (∀ b : Bool, onOff b = if b = true then [0x01#8] else [0x00#8]) ∧
  (∀ (α : Type) (enc : α → List Byte) (x : α),
    optional enc none = [0x00#8] ∧ optional enc (some x) = 0x01#8 :: enc x) ∧
  (∀ (c : Chan) (v : Conv), chanOr255 none = [0xFF#8] ∧ chanOr255 (some c) = [BitVec.ofNat 8 c.val] ∧
    convOr255 none = [0xFF#8] ∧ convOr255 (some v) = [BitVec.ofNat 8 v.val]) ∧
  (∀ (α : Type) (enc : α → List Byte) (l : List α), counted enc l = be 1 l.length ++ l.flatMap enc) ∧
  (∀ p : Chan → Bool, ∃ n : Nat, chanSet p = be 3 n ∧ ∀ i : Nat, n.testBit i = if h : i < 24 then p ⟨i, h⟩ else false) ∧
  (∀ l : List (Fin 8), ∃ n : Nat, slotSet l = be 1 n ∧
    ∀ i : Nat, n.testBit i = if h : i < 8 then decide (⟨i, h⟩ ∈ l) else false) ∧
  [Tag.recess, .session, .restricted].map Tag.code = [0, 1, 2] ∧
  [TimeQuality.unset, .free, .holdover, .locked].map TimeQuality.code = [0, 1, 2, 3] ∧
  [Discipline.free, .acquiring, .locked, .holdover].map Discipline.code = [0, 1, 2, 3] ∧
  [Activity.quiet, .active, .hanging].map Activity.code = [0, 1, 2] ∧
  [Proceeding.standby, .recess, .session, .sidebar, .inCamera].map Proceeding.code = [0, 1, 2, 3, 4] ∧
  [CaptureState.standby, .capturing].map CaptureState.code = [0, 1] ∧
  [Sys2Proof.Machine.Class.keep, .normal, .shed].map Sys2Proof.Machine.Class.code = [0, 1, 2] ∧
  [Route.page 0, .page 1, .page 2, .page 3, .mic].map Route.code = [0, 1, 2, 3, 0xFF] ∧
  [MarkerKind.exhibit, .oath, .objection, .ruling, .speaker, .note].map MarkerKind.code = [1, 2, 3, 4, 5, 6] ∧
  [LevelState.normal, .shedding, .keepOnly, .exhausted].map LevelState.code = [0, 1, 2, 3] ∧
  [ConvState.untrimmed, .trimming, .spare, .shadow, .serving, .faulted].map ConvState.code = [0, 1, 2, 3, 4, 5] ∧
  [TrimKind.long, .short].map TrimKind.code = [1, 2] ∧
  [RotationState.idle, .due, .shadowing].map RotationState.code = [0, 1, 2] ∧
  [EndReason.closed, .limit].map EndReason.code = [1, 2] ∧
  [ChangeCause.opened, .command, .closed, .limit].map ChangeCause.code = [1, 2, 3, 4] ∧
  [FloorCause.opened, .handoff, .takeover, .lapse].map FloorCause.code = [1, 2, 3, 4] ∧
  [ConverterEvent.faulted, .handover, .noSpare].map ConverterEvent.code = [1, 2, 0x0B] ∧
  [ConverterCause.none, .trim, .stuck, .mismatch, .rotation, .unmatched, .replacement].map ConverterCause.code =
    [0, 1, 2, 3, 4, 5, 6] ∧
  [TimeEvent.state, .step].map TimeEvent.code = [1, 2] ∧
  [TimeCause.pulse, .missing, .limit, .lock, .offset, .set].map TimeCause.code = [1, 2, 3, 4, 5, 6] ∧
  [NoticeKind.capture, .store, .converter, .time, .proceeding, .marker, .floor, .link].map NoticeKind.code =
    [1, 2, 3, 4, 5, 6, 7, 8] ∧
  [Result.ok, .accepted, .superseded, .busy, .state, .range, .badLength, .unknown, .notReady, .full, .notHeld,
    .noSpare].map Result.code = [0, 1, 2, 3, 4, 5, 6, 7, 8, 9, 10, 11] ∧
  (∀ (flags : BitVec 8) (k : NoticeKind), flagSet flags k = flags.getLsbD (8 - k.code)) ∧
  (∀ x : Settings, x.bytes = onOff x.enable ++ be 2 x.gain ++ be 1 x.cls.code ++ onOff x.bench ++
    onOff x.floorEligible ++ onOff x.feedInclude ++ be 1 x.openCode ++ be 1 x.closeCode ++ be 1 x.hang) ∧
  (∀ (p : PendingSettings) (i : Nat), p.mask.testBit i = ([p.enable.isSome, p.gain.isSome, p.cls.isSome, p.bench.isSome,
    p.floorEligible.isSome, p.feedInclude.isSome, p.openCode.isSome, p.closeCode.isSome, p.hang.isSome].getD i false)) ∧
  (∀ p : PendingSettings, p.bytes = be 2 p.mask ++ onOff (p.enable.getD false) ++ be 2 (p.gain.getD 0) ++
    be 1 ((p.cls.map Sys2Proof.Machine.Class.code).getD 0) ++ onOff (p.bench.getD false) ++
    onOff (p.floorEligible.getD false) ++ onOff (p.feedInclude.getD false) ++ be 1 (p.openCode.getD 0) ++
    be 1 (p.closeCode.getD 0) ++ be 1 (p.hang.getD 0)) ∧
  (∀ (kind tag : Byte) (p : List Byte), frameBytes kind tag p =
    0xC5#8 :: kind :: tag :: (be 2 p.length ++ p ++ [crc8 (kind :: tag :: (be 2 p.length ++ p))])) ∧
  (∀ bs : List Byte, crc8 (bs ++ [crc8 bs]) = 0#8) ∧
  (∀ (start : BitVec 32) (bs : List Byte), crc32 start (bs ++ be 4 (crc32 start bs).toNat) = 0#32) ∧
  crc8 [0x31, 0x32, 0x33, 0x34, 0x35, 0x36, 0x37, 0x38, 0x39] = 0xF4#8 ∧
  crc32 0xFFFFFFFF#32 [0x31, 0x32, 0x33, 0x34, 0x35, 0x36, 0x37, 0x38, 0x39] = 0x0376E6E7#32 ∧
  (∀ (s : State) (c : Chan) (v : Conv), s.chan c = s.chans.get c ∧ s.conv v = s.trim.convs.get v ∧
    s.convOf c = s.trim.map.get c ∧ (s.capturing = true ↔ s.cap.state = .capturing) ∧
    s.laneUse = s.link.lane.map LaneFrame.use ∧ s.store.level = levelOf s.store.free s.store.shed s.store.keep ∧
    s.shadowing = (if s.trim.rotation = .shadowing then s.trim.shadow else none) ∧
    s.trimTime v = ((s.conv v).doneAt.getD 0) ∧
    (s.channelOf v = none ↔ s.trim.mapBuilt = false ∨ ∀ d, s.convOf d ≠ v) ∧
    (s.channelOf v = some c → s.trim.mapBuilt = true ∧ s.convOf c = v)) ∧
  (∀ k : Counters, [CounterName.stray, .check, .oversize, .gap, .line, .busy, .replyLost].map k.get =
    [k.stray, k.check, k.oversize, k.gap, k.line, k.busy, k.replyLost])

/-- The layouts of records: the fields of an audio record of 320 samples at their positions, its 683 bytes, the 675 its
chain check covers and the 690 of its block frame (R84, R184); the fields of a marker record of k entries and T text
bytes, its 33 + 4k + T bytes and the 25 + 4k + T its check covers (R85, R185). -/
def Obligations.RecordLayouts : Prop :=
  (∀ r : AudioRecord, r.samples.length = 320 →
    r.bytes.length = 683 ∧ (frameBytes 0x83#8 0x00#8 (blockPayload 0x01#8 (.audio r))).length = 690 ∧
    (∀ x ∈ [(0, [0x01#8]), (1, be 1 r.channel.val), (2, be 2 r.capture), (4, be 4 r.custody), (8, be 4 r.sequence),
        (12, be 4 r.period), (16, be 4 r.gap), (20, be 2 r.day), (22, be 4 r.instant), (26, be 1 r.quality.code),
        (27, be 1 r.tag.code),
        (28, be 1 (r.flags.pattern.toNat + 2 * r.flags.handover.toNat + 4 * r.flags.convFault.toNat +
          8 * r.flags.stepped.toNat)),
        (29, be 1 r.converter.val), (30, be 2 r.gain), (32, be 1 r.level), (33, be 1 r.activity.code),
        (34, chanOr255 r.holder), (35, be 2 r.peak), (37, be 2 r.clipped), (39, be 4 r.check.toNat)],
      (r.bytes.drop x.1).take x.2.length = x.2) ∧
    (∀ (i : Nat) (h : i < r.samples.length), (r.bytes.drop (43 + 2 * i)).take 2 = be 2 (r.samples[i]).toNat) ∧
    r.covered = r.bytes.take 4 ++ (r.bytes.drop 8).take 31 ++ r.bytes.drop 43 ∧ r.covered.length = 675) ∧
  (∀ (r : MarkerRecord) (texts : Nat), texts = (r.entries.map fun e => e.2.text.length).sum →
    r.bytes.length = 33 + 4 * r.entries.length + texts ∧ r.covered.length = 25 + 4 * r.entries.length + texts ∧
    (∀ x ∈ [(0, [0x02#8, 0xFF#8]), (2, be 2 r.capture), (4, be 4 r.custody), (8, be 4 r.sequence), (12, be 4 r.period),
        (16, [0x00#8, 0x00#8, 0x00#8, 0x00#8]), (20, be 2 r.day), (22, be 4 r.instant), (26, be 1 r.quality.code),
        (27, be 1 r.tag.code), (28, be 1 r.entries.length),
        (29, r.entries.flatMap fun e => be 1 e.1.val ++ be 1 e.2.kind.code ++ chanOr255 e.2.channel ++
          be 1 e.2.text.length ++ e.2.text), (29 + 4 * r.entries.length + texts, be 4 r.check.toNat)],
      (r.bytes.drop x.1).take x.2.length = x.2) ∧
    r.covered = r.bytes.take 4 ++ (r.bytes.drop 8).take (21 + 4 * r.entries.length + texts))

/-! ## Laws of the whole part -/

/-- Every law of the part holds after a full reset (State.reset; the reset tables of sections 1.12, 2.10, 3.8, 4.7, 5.3,
6.6, 7.6, 8.8, 9.7, 10.5 and 11.9). -/
def Obligations.LawsHoldAtReset : Prop :=
  State.reset.ProceedingLaw ∧ State.reset.ChannelLaw ∧ State.reset.SlotLaw ∧ State.reset.CustodyLaw ∧
  State.reset.PinLaw ∧ State.reset.FloorLaw ∧ State.reset.TrimLaw ∧ State.reset.TimeLaw ∧ State.reset.LinkLaw ∧
  State.reset.ConfigLaw

/-- Every step keeps the proceeding's law: STANDBY exactly in the capture state STANDBY, and no record state with a pattern
route in force (R1, R10, R65, R77). -/
def Obligations.StepKeepsProceedingLaw : Prop :=
  ∀ s t : State, s.ProceedingLaw → step s = .next t → t.ProceedingLaw

/-- Every step keeps the channels' law: settings in range, activity state and hang counter consistent, a FILLING slot with
one sample for each sample instant of its period (sections 1.5, 1.7 and 6.3, R27, R91). -/
def Obligations.StepKeepsChannelLaw : Prop :=
  ∀ s t : State, s.ChannelLaw → step s = .next t → t.ChannelLaw

/-- Every step keeps the store's laws: FREE, FILLING, POSTED, SENDING and HELD slots sum to 65,536 (R26); custody numbers
strictly increase through custody, the SENDING slot and the posted queue (R30, R31, R51); a slot's pin count is the number
of its copies in the reply queue (R58, R59, R60). -/
def Obligations.StepKeepsStoreLaws : Prop :=
  ∀ s t : State, s.SlotLaw → s.CustodyLaw → s.PinLaw → step s = .next t → t.SlotLaw ∧ t.CustodyLaw ∧ t.PinLaw

/-- Every step keeps the floor's law: a holder is a candidate that is not QUIET (R97), none in STANDBY (R100), and FLOOR is
raised exactly while the floor log holds a record (R103). -/
def Obligations.StepKeepsFloorLaw : Prop :=
  ∀ s t : State, s.FloorLaw → step s = .next t → t.FloorLaw

/-- Every step keeps the converters' law: map and converter states agree (R118, R122, R124), and no converter serves two
channels. -/
def Obligations.StepKeepsTrimLaw : Prop :=
  ∀ s t : State, s.TrimLaw → step s = .next t → t.TrimLaw

/-- Every step keeps the timebase's law: the frequency trim within 200,000 ppb (R144), the reference mark present exactly in
ACQUIRING and LOCKED, the good-pulse count 0 outside ACQUIRING (R146). -/
def Obligations.StepKeepsTimeLaw : Prop :=
  ∀ s t : State, s.TimeLaw → step s = .next t → t.TimeLaw

/-- Every step keeps the sizes of the queues and lists (R41, R78, R115, R134, R152, R167, R169, R170), the letters of the
schedule (R178), the agreement of the lane with the reply queue and the restarting phase (R169, R179), and the ranges of the
settings (R32, R46, R125, R158). -/
def Obligations.StepKeepsLinkAndConfigLaw : Prop :=
  ∀ s t : State, s.LinkLaw → s.ConfigLaw → step s = .next t → t.LinkLaw ∧ t.ConfigLaw
end

