-- ==== Sys2Proof/Laws/Commands.lean ====
section
/-! SUPPORT. What the command engine can do, said once: when the head executes, when it is answered BAD_LENGTH, when it
waits, and what its answer leaves (R168, R170). -/

namespace Sys2Proof.Machine

/-- The conditions of `State.Executes` are those the engine tests. -/
theorem State.Executes.engineFree {s : State} {f : Command} {rest : List Command} {n : Nat} (h : s.Executes f rest n) :
    s.engineFree = true := by
  simp only [State.engineFree, h.2.1, Bool.and_eq_true, List.all_eq_true]
  exact ⟨rfl, fun e he => by simp [Deferred.waiting, h.2.2.1 e he]⟩

theorem State.Executes.room {s : State} {f : Command} {rest : List Command} {n : Nat} (h : s.Executes f rest n) :
    s.room n = true := by
  simpa [State.room] using h.2.2.2

/-- While a head may execute, every entry of the table is WAITING. -/
theorem State.Executes.waiting {s : State} {f : Command} {rest : List Command} {n : Nat} (h : s.Executes f rest n)
    (p : Deferred → Bool) : (s.link.deferred.filter fun e => e.waiting && p e) = s.link.deferred.filter p := by
  apply List.filter_congr
  intro e he
  simp [Deferred.waiting, h.2.2.1 e he]

/-- A head that fits its command runs the command's body on the state without it. -/
theorem runCommand_executes {s : State} {f : Command} {rest : List Command} {code : Byte}
    {need : Command → State → Nat} {fits : Command → Bool} {body : Command → State → State}
    (h : s.Executes f rest (need f s)) (hc : f.payload.head? = some code) (hf : fits f = true) :
    runCommand code need fits body s = body f s.popCommand := by
  simp [runCommand, h.1, hc, h.engineFree, h.room, hf]

/-- A head that does not fit its command is answered BAD_LENGTH. -/
theorem runCommand_badLength {s : State} {f : Command} {rest : List Command} {code : Byte}
    {need : Command → State → Nat} {fits : Command → Bool} {body : Command → State → State}
    (h : s.Executes f rest (need f s)) (hc : f.payload.head? = some code) (hf : fits f = false) :
    runCommand code need fits body s = s.popCommand.reply f .badLength := by
  simp [runCommand, h.1, hc, h.engineFree, h.room, hf]

/-- Whatever the head, a row that may not run changes nothing. -/
theorem runCommand_waits {s : State} {code : Byte} {need : Command → State → Nat} {fits : Command → Bool}
    {body : Command → State → State}
    (h : ∀ f rest, s.link.cmdQueue = f :: rest →
      f.payload.head? ≠ some code ∨ s.engineFree = false ∨ s.room (need f s) = false) :
    runCommand code need fits body s = s := by
  unfold runCommand
  split
  · rfl
  · next f rest hq =>
    rw [if_neg]
    rintro ⟨h1, h2, h3⟩
    rcases h f rest hq with h | h | h
    · exact h h1
    · simp [h] at h2
    · simp [h] at h3

/-- Everything `runCommand` can do. -/
theorem runCommand_cases (code : Byte) (need : Command → State → Nat) (fits : Command → Bool)
    (body : Command → State → State) (s : State) :
    runCommand code need fits body s = s ∨ ∃ f rest, s.link.cmdQueue = f :: rest ∧ f.payload.head? = some code ∧
      s.engineFree = true ∧ s.room (need f s) = true ∧
      ((fits f = true ∧ runCommand code need fits body s = body f s.popCommand) ∨
        (fits f = false ∧ runCommand code need fits body s = s.popCommand.reply f .badLength)) := by
  cases hq : s.link.cmdQueue with
  | nil => exact .inl (by simp [runCommand, hq])
  | cons f rest =>
    by_cases hc : f.payload.head? = some code ∧ s.engineFree = true ∧ s.room (need f s) = true
    · refine .inr ⟨f, rest, rfl, hc.1, hc.2.1, hc.2.2, ?_⟩
      cases hf : fits f <;> simp [runCommand, hq, hc.1, hc.2.1, hc.2.2, hf]
    · exact .inl (by simp only [runCommand, hq, if_neg hc])

/-- The head popped and answered is the state `State.answered` names. -/
theorem popCommand_reply {s : State} {f : Command} {rest : List Command} (h : s.link.cmdQueue = f :: rest)
    (r : Result) (data : List Byte) : s.popCommand.reply f r data = s.answered f rest r data := by
  simp [State.popCommand, State.reply, State.enqueue, State.answered, Command.code, h]

/-- An answer after a change that leaves the link alone. -/
theorem reply_eq_answered {t : State} {f : Command} {rest : List Command} (h : t.link.cmdQueue = rest) (r : Result)
    (data : List Byte) : t.reply f r data = t.answered f rest r data := by
  subst h
  simp [State.reply, State.enqueue, State.answered, Command.code]

/-- A taken boundary-effective command's answer is the state `State.taken` names (R11, R170). -/
theorem answerTaken_eq_taken {t : State} {f : Command} {rest : List Command} (h : t.link.cmdQueue = rest)
    (option : Bool) (req : Request) (data : List Byte) :
    t.answerTaken f option req data = t.taken f rest option req data := by
  subst h
  simp [State.answerTaken, State.taken, State.deferredFor, Command.code, Config.deferredMax,
    reply_eq_answered (rfl : t.link.cmdQueue = t.link.cmdQueue)]

end Sys2Proof.Machine
end

