-- ==== Sys2Proof/Laws/State.lean ====
section
/-! SUPPORT. What each update of the state leaves alone: for every shared operation, one lemma for each block of the state
it does not touch, and for an update of the link controller one for each of its fields. -/

namespace Sys2Proof.Machine

variable (s : State)

/-! ### modChan -/

@[simp] theorem State.modChan_pending (c : Chan) (f : Channel → Channel) : (s.modChan c f).pending = s.pending := by rfl
@[simp] theorem State.modChan_ticks (c : Chan) (f : Channel → Channel) : (s.modChan c f).ticks = s.ticks := by rfl
@[simp] theorem State.modChan_cap (c : Chan) (f : Channel → Channel) : (s.modChan c f).cap = s.cap := by rfl
@[simp] theorem State.modChan_store (c : Chan) (f : Channel → Channel) : (s.modChan c f).store = s.store := by rfl
@[simp] theorem State.modChan_stream (c : Chan) (f : Channel → Channel) : (s.modChan c f).stream = s.stream := by rfl
@[simp] theorem State.modChan_marks (c : Chan) (f : Channel → Channel) : (s.modChan c f).marks = s.marks := by rfl
@[simp] theorem State.modChan_floor (c : Chan) (f : Channel → Channel) : (s.modChan c f).floor = s.floor := by rfl
@[simp] theorem State.modChan_trim (c : Chan) (f : Channel → Channel) : (s.modChan c f).trim = s.trim := by rfl
@[simp] theorem State.modChan_time (c : Chan) (f : Channel → Channel) : (s.modChan c f).time = s.time := by rfl
@[simp] theorem State.modChan_feed (c : Chan) (f : Channel → Channel) : (s.modChan c f).feed = s.feed := by rfl
@[simp] theorem State.modChan_link (c : Chan) (f : Channel → Channel) : (s.modChan c f).link = s.link := by rfl

/-! ### mapChans -/

@[simp] theorem State.mapChans_pending (f : Chan → Channel → Channel) : (s.mapChans f).pending = s.pending := by simp only [State.mapChans]
@[simp] theorem State.mapChans_ticks (f : Chan → Channel → Channel) : (s.mapChans f).ticks = s.ticks := by simp only [State.mapChans]
@[simp] theorem State.mapChans_cap (f : Chan → Channel → Channel) : (s.mapChans f).cap = s.cap := by simp only [State.mapChans]
@[simp] theorem State.mapChans_store (f : Chan → Channel → Channel) : (s.mapChans f).store = s.store := by simp only [State.mapChans]
@[simp] theorem State.mapChans_stream (f : Chan → Channel → Channel) : (s.mapChans f).stream = s.stream := by simp only [State.mapChans]
@[simp] theorem State.mapChans_marks (f : Chan → Channel → Channel) : (s.mapChans f).marks = s.marks := by simp only [State.mapChans]
@[simp] theorem State.mapChans_floor (f : Chan → Channel → Channel) : (s.mapChans f).floor = s.floor := by simp only [State.mapChans]
@[simp] theorem State.mapChans_trim (f : Chan → Channel → Channel) : (s.mapChans f).trim = s.trim := by simp only [State.mapChans]
@[simp] theorem State.mapChans_time (f : Chan → Channel → Channel) : (s.mapChans f).time = s.time := by simp only [State.mapChans]
@[simp] theorem State.mapChans_feed (f : Chan → Channel → Channel) : (s.mapChans f).feed = s.feed := by simp only [State.mapChans]
@[simp] theorem State.mapChans_link (f : Chan → Channel → Channel) : (s.mapChans f).link = s.link := by simp only [State.mapChans]

/-! ### modConv -/

@[simp] theorem State.modConv_pending (v : Conv) (f : Converter → Converter) : (s.modConv v f).pending = s.pending := by rfl
@[simp] theorem State.modConv_ticks (v : Conv) (f : Converter → Converter) : (s.modConv v f).ticks = s.ticks := by rfl
@[simp] theorem State.modConv_cap (v : Conv) (f : Converter → Converter) : (s.modConv v f).cap = s.cap := by rfl
@[simp] theorem State.modConv_chans (v : Conv) (f : Converter → Converter) : (s.modConv v f).chans = s.chans := by rfl
@[simp] theorem State.modConv_store (v : Conv) (f : Converter → Converter) : (s.modConv v f).store = s.store := by rfl
@[simp] theorem State.modConv_stream (v : Conv) (f : Converter → Converter) : (s.modConv v f).stream = s.stream := by rfl
@[simp] theorem State.modConv_marks (v : Conv) (f : Converter → Converter) : (s.modConv v f).marks = s.marks := by rfl
@[simp] theorem State.modConv_floor (v : Conv) (f : Converter → Converter) : (s.modConv v f).floor = s.floor := by rfl
@[simp] theorem State.modConv_time (v : Conv) (f : Converter → Converter) : (s.modConv v f).time = s.time := by rfl
@[simp] theorem State.modConv_feed (v : Conv) (f : Converter → Converter) : (s.modConv v f).feed = s.feed := by rfl
@[simp] theorem State.modConv_link (v : Conv) (f : Converter → Converter) : (s.modConv v f).link = s.link := by rfl

/-! ### mapConvs -/

@[simp] theorem State.mapConvs_pending (f : Conv → Converter → Converter) : (s.mapConvs f).pending = s.pending := by simp only [State.mapConvs]
@[simp] theorem State.mapConvs_ticks (f : Conv → Converter → Converter) : (s.mapConvs f).ticks = s.ticks := by simp only [State.mapConvs]
@[simp] theorem State.mapConvs_cap (f : Conv → Converter → Converter) : (s.mapConvs f).cap = s.cap := by simp only [State.mapConvs]
@[simp] theorem State.mapConvs_chans (f : Conv → Converter → Converter) : (s.mapConvs f).chans = s.chans := by simp only [State.mapConvs]
@[simp] theorem State.mapConvs_store (f : Conv → Converter → Converter) : (s.mapConvs f).store = s.store := by simp only [State.mapConvs]
@[simp] theorem State.mapConvs_stream (f : Conv → Converter → Converter) : (s.mapConvs f).stream = s.stream := by simp only [State.mapConvs]
@[simp] theorem State.mapConvs_marks (f : Conv → Converter → Converter) : (s.mapConvs f).marks = s.marks := by simp only [State.mapConvs]
@[simp] theorem State.mapConvs_floor (f : Conv → Converter → Converter) : (s.mapConvs f).floor = s.floor := by simp only [State.mapConvs]
@[simp] theorem State.mapConvs_time (f : Conv → Converter → Converter) : (s.mapConvs f).time = s.time := by simp only [State.mapConvs]
@[simp] theorem State.mapConvs_feed (f : Conv → Converter → Converter) : (s.mapConvs f).feed = s.feed := by simp only [State.mapConvs]
@[simp] theorem State.mapConvs_link (f : Conv → Converter → Converter) : (s.mapConvs f).link = s.link := by simp only [State.mapConvs]

/-! ### raise -/

@[simp] theorem State.raise_pending (k : NoticeKind) : (s.raise k).pending = s.pending := by rfl
@[simp] theorem State.raise_ticks (k : NoticeKind) : (s.raise k).ticks = s.ticks := by rfl
@[simp] theorem State.raise_cap (k : NoticeKind) : (s.raise k).cap = s.cap := by rfl
@[simp] theorem State.raise_chans (k : NoticeKind) : (s.raise k).chans = s.chans := by rfl
@[simp] theorem State.raise_store (k : NoticeKind) : (s.raise k).store = s.store := by rfl
@[simp] theorem State.raise_stream (k : NoticeKind) : (s.raise k).stream = s.stream := by rfl
@[simp] theorem State.raise_marks (k : NoticeKind) : (s.raise k).marks = s.marks := by rfl
@[simp] theorem State.raise_floor (k : NoticeKind) : (s.raise k).floor = s.floor := by rfl
@[simp] theorem State.raise_trim (k : NoticeKind) : (s.raise k).trim = s.trim := by rfl
@[simp] theorem State.raise_time (k : NoticeKind) : (s.raise k).time = s.time := by rfl
@[simp] theorem State.raise_feed (k : NoticeKind) : (s.raise k).feed = s.feed := by rfl
@[simp] theorem State.raise_link_receiver (k : NoticeKind) : (s.raise k).link.receiver = s.link.receiver := by rfl
@[simp] theorem State.raise_link_cmdQueue (k : NoticeKind) : (s.raise k).link.cmdQueue = s.link.cmdQueue := by rfl
@[simp] theorem State.raise_link_replyQueue (k : NoticeKind) : (s.raise k).link.replyQueue = s.link.replyQueue := by rfl
@[simp] theorem State.raise_link_deferred (k : NoticeKind) : (s.raise k).link.deferred = s.link.deferred := by rfl
@[simp] theorem State.raise_link_enabled (k : NoticeKind) : (s.raise k).link.enabled = s.link.enabled := by rfl
@[simp] theorem State.raise_link_counters (k : NoticeKind) : (s.raise k).link.counters = s.link.counters := by rfl
@[simp] theorem State.raise_link_changes (k : NoticeKind) : (s.raise k).link.changes = s.link.changes := by rfl
@[simp] theorem State.raise_link_schedule (k : NoticeKind) : (s.raise k).link.schedule = s.link.schedule := by rfl
@[simp] theorem State.raise_link_position (k : NoticeKind) : (s.raise k).link.position = s.link.position := by rfl
@[simp] theorem State.raise_link_lane (k : NoticeKind) : (s.raise k).link.lane = s.link.lane := by rfl
@[simp] theorem State.raise_link_restart (k : NoticeKind) : (s.raise k).link.restart = s.link.restart := by rfl
@[simp] theorem State.raise_link_hold (k : NoticeKind) : (s.raise k).link.hold = s.link.hold := by rfl

/-! ### lower -/

@[simp] theorem State.lower_pending (k : NoticeKind) : (s.lower k).pending = s.pending := by rfl
@[simp] theorem State.lower_ticks (k : NoticeKind) : (s.lower k).ticks = s.ticks := by rfl
@[simp] theorem State.lower_cap (k : NoticeKind) : (s.lower k).cap = s.cap := by rfl
@[simp] theorem State.lower_chans (k : NoticeKind) : (s.lower k).chans = s.chans := by rfl
@[simp] theorem State.lower_store (k : NoticeKind) : (s.lower k).store = s.store := by rfl
@[simp] theorem State.lower_stream (k : NoticeKind) : (s.lower k).stream = s.stream := by rfl
@[simp] theorem State.lower_marks (k : NoticeKind) : (s.lower k).marks = s.marks := by rfl
@[simp] theorem State.lower_floor (k : NoticeKind) : (s.lower k).floor = s.floor := by rfl
@[simp] theorem State.lower_trim (k : NoticeKind) : (s.lower k).trim = s.trim := by rfl
@[simp] theorem State.lower_time (k : NoticeKind) : (s.lower k).time = s.time := by rfl
@[simp] theorem State.lower_feed (k : NoticeKind) : (s.lower k).feed = s.feed := by rfl
@[simp] theorem State.lower_link_receiver (k : NoticeKind) : (s.lower k).link.receiver = s.link.receiver := by rfl
@[simp] theorem State.lower_link_cmdQueue (k : NoticeKind) : (s.lower k).link.cmdQueue = s.link.cmdQueue := by rfl
@[simp] theorem State.lower_link_replyQueue (k : NoticeKind) : (s.lower k).link.replyQueue = s.link.replyQueue := by rfl
@[simp] theorem State.lower_link_deferred (k : NoticeKind) : (s.lower k).link.deferred = s.link.deferred := by rfl
@[simp] theorem State.lower_link_enabled (k : NoticeKind) : (s.lower k).link.enabled = s.link.enabled := by rfl
@[simp] theorem State.lower_link_counters (k : NoticeKind) : (s.lower k).link.counters = s.link.counters := by rfl
@[simp] theorem State.lower_link_changes (k : NoticeKind) : (s.lower k).link.changes = s.link.changes := by rfl
@[simp] theorem State.lower_link_schedule (k : NoticeKind) : (s.lower k).link.schedule = s.link.schedule := by rfl
@[simp] theorem State.lower_link_position (k : NoticeKind) : (s.lower k).link.position = s.link.position := by rfl
@[simp] theorem State.lower_link_lane (k : NoticeKind) : (s.lower k).link.lane = s.link.lane := by rfl
@[simp] theorem State.lower_link_restart (k : NoticeKind) : (s.lower k).link.restart = s.link.restart := by rfl
@[simp] theorem State.lower_link_hold (k : NoticeKind) : (s.lower k).link.hold = s.link.hold := by rfl

/-! ### addChange -/

@[simp] theorem State.addChange_pending (e : ProceedingChange) : (s.addChange e).pending = s.pending := by rfl
@[simp] theorem State.addChange_ticks (e : ProceedingChange) : (s.addChange e).ticks = s.ticks := by rfl
@[simp] theorem State.addChange_chans (e : ProceedingChange) : (s.addChange e).chans = s.chans := by rfl
@[simp] theorem State.addChange_store (e : ProceedingChange) : (s.addChange e).store = s.store := by rfl
@[simp] theorem State.addChange_stream (e : ProceedingChange) : (s.addChange e).stream = s.stream := by rfl
@[simp] theorem State.addChange_marks (e : ProceedingChange) : (s.addChange e).marks = s.marks := by rfl
@[simp] theorem State.addChange_floor (e : ProceedingChange) : (s.addChange e).floor = s.floor := by rfl
@[simp] theorem State.addChange_trim (e : ProceedingChange) : (s.addChange e).trim = s.trim := by rfl
@[simp] theorem State.addChange_time (e : ProceedingChange) : (s.addChange e).time = s.time := by rfl
@[simp] theorem State.addChange_feed (e : ProceedingChange) : (s.addChange e).feed = s.feed := by rfl
@[simp] theorem State.addChange_link_receiver (e : ProceedingChange) : (s.addChange e).link.receiver = s.link.receiver := by rfl
@[simp] theorem State.addChange_link_cmdQueue (e : ProceedingChange) : (s.addChange e).link.cmdQueue = s.link.cmdQueue := by rfl
@[simp] theorem State.addChange_link_replyQueue (e : ProceedingChange) : (s.addChange e).link.replyQueue = s.link.replyQueue := by rfl
@[simp] theorem State.addChange_link_deferred (e : ProceedingChange) : (s.addChange e).link.deferred = s.link.deferred := by rfl
@[simp] theorem State.addChange_link_enabled (e : ProceedingChange) : (s.addChange e).link.enabled = s.link.enabled := by rfl
@[simp] theorem State.addChange_link_counters (e : ProceedingChange) : (s.addChange e).link.counters = s.link.counters := by rfl
@[simp] theorem State.addChange_link_changes (e : ProceedingChange) : (s.addChange e).link.changes = s.link.changes := by rfl
@[simp] theorem State.addChange_link_schedule (e : ProceedingChange) : (s.addChange e).link.schedule = s.link.schedule := by rfl
@[simp] theorem State.addChange_link_position (e : ProceedingChange) : (s.addChange e).link.position = s.link.position := by rfl
@[simp] theorem State.addChange_link_lane (e : ProceedingChange) : (s.addChange e).link.lane = s.link.lane := by rfl
@[simp] theorem State.addChange_link_restart (e : ProceedingChange) : (s.addChange e).link.restart = s.link.restart := by rfl
@[simp] theorem State.addChange_link_hold (e : ProceedingChange) : (s.addChange e).link.hold = s.link.hold := by rfl

/-! ### addConverter -/

@[simp] theorem State.addConverter_pending (e : ConverterEntry) : (s.addConverter e).pending = s.pending := by rfl
@[simp] theorem State.addConverter_ticks (e : ConverterEntry) : (s.addConverter e).ticks = s.ticks := by rfl
@[simp] theorem State.addConverter_cap (e : ConverterEntry) : (s.addConverter e).cap = s.cap := by rfl
@[simp] theorem State.addConverter_chans (e : ConverterEntry) : (s.addConverter e).chans = s.chans := by rfl
@[simp] theorem State.addConverter_store (e : ConverterEntry) : (s.addConverter e).store = s.store := by rfl
@[simp] theorem State.addConverter_stream (e : ConverterEntry) : (s.addConverter e).stream = s.stream := by rfl
@[simp] theorem State.addConverter_marks (e : ConverterEntry) : (s.addConverter e).marks = s.marks := by rfl
@[simp] theorem State.addConverter_floor (e : ConverterEntry) : (s.addConverter e).floor = s.floor := by rfl
@[simp] theorem State.addConverter_time (e : ConverterEntry) : (s.addConverter e).time = s.time := by rfl
@[simp] theorem State.addConverter_feed (e : ConverterEntry) : (s.addConverter e).feed = s.feed := by rfl
@[simp] theorem State.addConverter_link_receiver (e : ConverterEntry) : (s.addConverter e).link.receiver = s.link.receiver := by rfl
@[simp] theorem State.addConverter_link_cmdQueue (e : ConverterEntry) : (s.addConverter e).link.cmdQueue = s.link.cmdQueue := by rfl
@[simp] theorem State.addConverter_link_replyQueue (e : ConverterEntry) : (s.addConverter e).link.replyQueue = s.link.replyQueue := by rfl
@[simp] theorem State.addConverter_link_deferred (e : ConverterEntry) : (s.addConverter e).link.deferred = s.link.deferred := by rfl
@[simp] theorem State.addConverter_link_enabled (e : ConverterEntry) : (s.addConverter e).link.enabled = s.link.enabled := by rfl
@[simp] theorem State.addConverter_link_counters (e : ConverterEntry) : (s.addConverter e).link.counters = s.link.counters := by rfl
@[simp] theorem State.addConverter_link_changes (e : ConverterEntry) : (s.addConverter e).link.changes = s.link.changes := by rfl
@[simp] theorem State.addConverter_link_schedule (e : ConverterEntry) : (s.addConverter e).link.schedule = s.link.schedule := by rfl
@[simp] theorem State.addConverter_link_position (e : ConverterEntry) : (s.addConverter e).link.position = s.link.position := by rfl
@[simp] theorem State.addConverter_link_lane (e : ConverterEntry) : (s.addConverter e).link.lane = s.link.lane := by rfl
@[simp] theorem State.addConverter_link_restart (e : ConverterEntry) : (s.addConverter e).link.restart = s.link.restart := by rfl
@[simp] theorem State.addConverter_link_hold (e : ConverterEntry) : (s.addConverter e).link.hold = s.link.hold := by rfl

/-! ### addTime -/

@[simp] theorem State.addTime_pending (e : TimeEntry) : (s.addTime e).pending = s.pending := by rfl
@[simp] theorem State.addTime_ticks (e : TimeEntry) : (s.addTime e).ticks = s.ticks := by rfl
@[simp] theorem State.addTime_cap (e : TimeEntry) : (s.addTime e).cap = s.cap := by rfl
@[simp] theorem State.addTime_chans (e : TimeEntry) : (s.addTime e).chans = s.chans := by rfl
@[simp] theorem State.addTime_store (e : TimeEntry) : (s.addTime e).store = s.store := by rfl
@[simp] theorem State.addTime_stream (e : TimeEntry) : (s.addTime e).stream = s.stream := by rfl
@[simp] theorem State.addTime_marks (e : TimeEntry) : (s.addTime e).marks = s.marks := by rfl
@[simp] theorem State.addTime_floor (e : TimeEntry) : (s.addTime e).floor = s.floor := by rfl
@[simp] theorem State.addTime_trim (e : TimeEntry) : (s.addTime e).trim = s.trim := by rfl
@[simp] theorem State.addTime_feed (e : TimeEntry) : (s.addTime e).feed = s.feed := by rfl
@[simp] theorem State.addTime_link_receiver (e : TimeEntry) : (s.addTime e).link.receiver = s.link.receiver := by rfl
@[simp] theorem State.addTime_link_cmdQueue (e : TimeEntry) : (s.addTime e).link.cmdQueue = s.link.cmdQueue := by rfl
@[simp] theorem State.addTime_link_replyQueue (e : TimeEntry) : (s.addTime e).link.replyQueue = s.link.replyQueue := by rfl
@[simp] theorem State.addTime_link_deferred (e : TimeEntry) : (s.addTime e).link.deferred = s.link.deferred := by rfl
@[simp] theorem State.addTime_link_enabled (e : TimeEntry) : (s.addTime e).link.enabled = s.link.enabled := by rfl
@[simp] theorem State.addTime_link_counters (e : TimeEntry) : (s.addTime e).link.counters = s.link.counters := by rfl
@[simp] theorem State.addTime_link_changes (e : TimeEntry) : (s.addTime e).link.changes = s.link.changes := by rfl
@[simp] theorem State.addTime_link_schedule (e : TimeEntry) : (s.addTime e).link.schedule = s.link.schedule := by rfl
@[simp] theorem State.addTime_link_position (e : TimeEntry) : (s.addTime e).link.position = s.link.position := by rfl
@[simp] theorem State.addTime_link_lane (e : TimeEntry) : (s.addTime e).link.lane = s.link.lane := by rfl
@[simp] theorem State.addTime_link_restart (e : TimeEntry) : (s.addTime e).link.restart = s.link.restart := by rfl
@[simp] theorem State.addTime_link_hold (e : TimeEntry) : (s.addTime e).link.hold = s.link.hold := by rfl

/-! ### addTaking -/

@[simp] theorem State.addTaking_pending (e : Taking) : (s.addTaking e).pending = s.pending := by rfl
@[simp] theorem State.addTaking_ticks (e : Taking) : (s.addTaking e).ticks = s.ticks := by rfl
@[simp] theorem State.addTaking_cap (e : Taking) : (s.addTaking e).cap = s.cap := by rfl
@[simp] theorem State.addTaking_chans (e : Taking) : (s.addTaking e).chans = s.chans := by rfl
@[simp] theorem State.addTaking_store (e : Taking) : (s.addTaking e).store = s.store := by rfl
@[simp] theorem State.addTaking_stream (e : Taking) : (s.addTaking e).stream = s.stream := by rfl
@[simp] theorem State.addTaking_floor (e : Taking) : (s.addTaking e).floor = s.floor := by rfl
@[simp] theorem State.addTaking_trim (e : Taking) : (s.addTaking e).trim = s.trim := by rfl
@[simp] theorem State.addTaking_time (e : Taking) : (s.addTaking e).time = s.time := by rfl
@[simp] theorem State.addTaking_feed (e : Taking) : (s.addTaking e).feed = s.feed := by rfl
@[simp] theorem State.addTaking_link_receiver (e : Taking) : (s.addTaking e).link.receiver = s.link.receiver := by rfl
@[simp] theorem State.addTaking_link_cmdQueue (e : Taking) : (s.addTaking e).link.cmdQueue = s.link.cmdQueue := by rfl
@[simp] theorem State.addTaking_link_replyQueue (e : Taking) : (s.addTaking e).link.replyQueue = s.link.replyQueue := by rfl
@[simp] theorem State.addTaking_link_deferred (e : Taking) : (s.addTaking e).link.deferred = s.link.deferred := by rfl
@[simp] theorem State.addTaking_link_enabled (e : Taking) : (s.addTaking e).link.enabled = s.link.enabled := by rfl
@[simp] theorem State.addTaking_link_counters (e : Taking) : (s.addTaking e).link.counters = s.link.counters := by rfl
@[simp] theorem State.addTaking_link_changes (e : Taking) : (s.addTaking e).link.changes = s.link.changes := by rfl
@[simp] theorem State.addTaking_link_schedule (e : Taking) : (s.addTaking e).link.schedule = s.link.schedule := by rfl
@[simp] theorem State.addTaking_link_position (e : Taking) : (s.addTaking e).link.position = s.link.position := by rfl
@[simp] theorem State.addTaking_link_lane (e : Taking) : (s.addTaking e).link.lane = s.link.lane := by rfl
@[simp] theorem State.addTaking_link_restart (e : Taking) : (s.addTaking e).link.restart = s.link.restart := by rfl
@[simp] theorem State.addTaking_link_hold (e : Taking) : (s.addTaking e).link.hold = s.link.hold := by rfl

/-! ### addFloor -/

@[simp] theorem State.addFloor_pending (e : FloorRecord) : (s.addFloor e).pending = s.pending := by unfold State.addFloor; split <;> rfl
@[simp] theorem State.addFloor_ticks (e : FloorRecord) : (s.addFloor e).ticks = s.ticks := by unfold State.addFloor; split <;> rfl
@[simp] theorem State.addFloor_cap (e : FloorRecord) : (s.addFloor e).cap = s.cap := by unfold State.addFloor; split <;> rfl
@[simp] theorem State.addFloor_chans (e : FloorRecord) : (s.addFloor e).chans = s.chans := by unfold State.addFloor; split <;> rfl
@[simp] theorem State.addFloor_store (e : FloorRecord) : (s.addFloor e).store = s.store := by unfold State.addFloor; split <;> rfl
@[simp] theorem State.addFloor_stream (e : FloorRecord) : (s.addFloor e).stream = s.stream := by unfold State.addFloor; split <;> rfl
@[simp] theorem State.addFloor_marks (e : FloorRecord) : (s.addFloor e).marks = s.marks := by unfold State.addFloor; split <;> rfl
@[simp] theorem State.addFloor_trim (e : FloorRecord) : (s.addFloor e).trim = s.trim := by unfold State.addFloor; split <;> rfl
@[simp] theorem State.addFloor_time (e : FloorRecord) : (s.addFloor e).time = s.time := by unfold State.addFloor; split <;> rfl
@[simp] theorem State.addFloor_feed (e : FloorRecord) : (s.addFloor e).feed = s.feed := by unfold State.addFloor; split <;> rfl
@[simp] theorem State.addFloor_link_receiver (e : FloorRecord) : (s.addFloor e).link.receiver = s.link.receiver := by unfold State.addFloor; split <;> rfl
@[simp] theorem State.addFloor_link_cmdQueue (e : FloorRecord) : (s.addFloor e).link.cmdQueue = s.link.cmdQueue := by unfold State.addFloor; split <;> rfl
@[simp] theorem State.addFloor_link_replyQueue (e : FloorRecord) : (s.addFloor e).link.replyQueue = s.link.replyQueue := by unfold State.addFloor; split <;> rfl
@[simp] theorem State.addFloor_link_deferred (e : FloorRecord) : (s.addFloor e).link.deferred = s.link.deferred := by unfold State.addFloor; split <;> rfl
@[simp] theorem State.addFloor_link_enabled (e : FloorRecord) : (s.addFloor e).link.enabled = s.link.enabled := by unfold State.addFloor; split <;> rfl
@[simp] theorem State.addFloor_link_counters (e : FloorRecord) : (s.addFloor e).link.counters = s.link.counters := by unfold State.addFloor; split <;> rfl
@[simp] theorem State.addFloor_link_changes (e : FloorRecord) : (s.addFloor e).link.changes = s.link.changes := by unfold State.addFloor; split <;> rfl
@[simp] theorem State.addFloor_link_schedule (e : FloorRecord) : (s.addFloor e).link.schedule = s.link.schedule := by unfold State.addFloor; split <;> rfl
@[simp] theorem State.addFloor_link_position (e : FloorRecord) : (s.addFloor e).link.position = s.link.position := by unfold State.addFloor; split <;> rfl
@[simp] theorem State.addFloor_link_lane (e : FloorRecord) : (s.addFloor e).link.lane = s.link.lane := by unfold State.addFloor; split <;> rfl
@[simp] theorem State.addFloor_link_restart (e : FloorRecord) : (s.addFloor e).link.restart = s.link.restart := by unfold State.addFloor; split <;> rfl
@[simp] theorem State.addFloor_link_hold (e : FloorRecord) : (s.addFloor e).link.hold = s.link.hold := by unfold State.addFloor; split <;> rfl

/-! ### count -/

@[simp] theorem State.count_pending (k : CounterName) : (s.count k).pending = s.pending := by unfold State.count; split <;> rfl
@[simp] theorem State.count_ticks (k : CounterName) : (s.count k).ticks = s.ticks := by unfold State.count; split <;> rfl
@[simp] theorem State.count_cap (k : CounterName) : (s.count k).cap = s.cap := by unfold State.count; split <;> rfl
@[simp] theorem State.count_chans (k : CounterName) : (s.count k).chans = s.chans := by unfold State.count; split <;> rfl
@[simp] theorem State.count_store (k : CounterName) : (s.count k).store = s.store := by unfold State.count; split <;> rfl
@[simp] theorem State.count_stream (k : CounterName) : (s.count k).stream = s.stream := by unfold State.count; split <;> rfl
@[simp] theorem State.count_marks (k : CounterName) : (s.count k).marks = s.marks := by unfold State.count; split <;> rfl
@[simp] theorem State.count_floor (k : CounterName) : (s.count k).floor = s.floor := by unfold State.count; split <;> rfl
@[simp] theorem State.count_trim (k : CounterName) : (s.count k).trim = s.trim := by unfold State.count; split <;> rfl
@[simp] theorem State.count_time (k : CounterName) : (s.count k).time = s.time := by unfold State.count; split <;> rfl
@[simp] theorem State.count_feed (k : CounterName) : (s.count k).feed = s.feed := by unfold State.count; split <;> rfl
@[simp] theorem State.count_link_receiver (k : CounterName) : (s.count k).link.receiver = s.link.receiver := by unfold State.count; split <;> rfl
@[simp] theorem State.count_link_cmdQueue (k : CounterName) : (s.count k).link.cmdQueue = s.link.cmdQueue := by unfold State.count; split <;> rfl
@[simp] theorem State.count_link_replyQueue (k : CounterName) : (s.count k).link.replyQueue = s.link.replyQueue := by unfold State.count; split <;> rfl
@[simp] theorem State.count_link_deferred (k : CounterName) : (s.count k).link.deferred = s.link.deferred := by unfold State.count; split <;> rfl
@[simp] theorem State.count_link_enabled (k : CounterName) : (s.count k).link.enabled = s.link.enabled := by unfold State.count; split <;> rfl
@[simp] theorem State.count_link_schedule (k : CounterName) : (s.count k).link.schedule = s.link.schedule := by unfold State.count; split <;> rfl
@[simp] theorem State.count_link_position (k : CounterName) : (s.count k).link.position = s.link.position := by unfold State.count; split <;> rfl
@[simp] theorem State.count_link_lane (k : CounterName) : (s.count k).link.lane = s.link.lane := by unfold State.count; split <;> rfl
@[simp] theorem State.count_link_restart (k : CounterName) : (s.count k).link.restart = s.link.restart := by unfold State.count; split <;> rfl
@[simp] theorem State.count_link_hold (k : CounterName) : (s.count k).link.hold = s.link.hold := by unfold State.count; split <;> rfl

/-! ### enqueue -/

@[simp] theorem State.enqueue_pending (e : ReplyEntry) : (s.enqueue e).pending = s.pending := by rfl
@[simp] theorem State.enqueue_ticks (e : ReplyEntry) : (s.enqueue e).ticks = s.ticks := by rfl
@[simp] theorem State.enqueue_cap (e : ReplyEntry) : (s.enqueue e).cap = s.cap := by rfl
@[simp] theorem State.enqueue_chans (e : ReplyEntry) : (s.enqueue e).chans = s.chans := by rfl
@[simp] theorem State.enqueue_store (e : ReplyEntry) : (s.enqueue e).store = s.store := by rfl
@[simp] theorem State.enqueue_stream (e : ReplyEntry) : (s.enqueue e).stream = s.stream := by rfl
@[simp] theorem State.enqueue_marks (e : ReplyEntry) : (s.enqueue e).marks = s.marks := by rfl
@[simp] theorem State.enqueue_floor (e : ReplyEntry) : (s.enqueue e).floor = s.floor := by rfl
@[simp] theorem State.enqueue_trim (e : ReplyEntry) : (s.enqueue e).trim = s.trim := by rfl
@[simp] theorem State.enqueue_time (e : ReplyEntry) : (s.enqueue e).time = s.time := by rfl
@[simp] theorem State.enqueue_feed (e : ReplyEntry) : (s.enqueue e).feed = s.feed := by rfl
@[simp] theorem State.enqueue_link_receiver (e : ReplyEntry) : (s.enqueue e).link.receiver = s.link.receiver := by rfl
@[simp] theorem State.enqueue_link_cmdQueue (e : ReplyEntry) : (s.enqueue e).link.cmdQueue = s.link.cmdQueue := by rfl
@[simp] theorem State.enqueue_link_deferred (e : ReplyEntry) : (s.enqueue e).link.deferred = s.link.deferred := by rfl
@[simp] theorem State.enqueue_link_enabled (e : ReplyEntry) : (s.enqueue e).link.enabled = s.link.enabled := by rfl
@[simp] theorem State.enqueue_link_raised (e : ReplyEntry) : (s.enqueue e).link.raised = s.link.raised := by rfl
@[simp] theorem State.enqueue_link_counters (e : ReplyEntry) : (s.enqueue e).link.counters = s.link.counters := by rfl
@[simp] theorem State.enqueue_link_changes (e : ReplyEntry) : (s.enqueue e).link.changes = s.link.changes := by rfl
@[simp] theorem State.enqueue_link_schedule (e : ReplyEntry) : (s.enqueue e).link.schedule = s.link.schedule := by rfl
@[simp] theorem State.enqueue_link_position (e : ReplyEntry) : (s.enqueue e).link.position = s.link.position := by rfl
@[simp] theorem State.enqueue_link_lane (e : ReplyEntry) : (s.enqueue e).link.lane = s.link.lane := by rfl
@[simp] theorem State.enqueue_link_restart (e : ReplyEntry) : (s.enqueue e).link.restart = s.link.restart := by rfl
@[simp] theorem State.enqueue_link_hold (e : ReplyEntry) : (s.enqueue e).link.hold = s.link.hold := by rfl

/-! ### reply -/

@[simp] theorem State.reply_pending (f : Command) (r : Result) (d : List Byte) : (s.reply f r d).pending = s.pending := by rfl
@[simp] theorem State.reply_ticks (f : Command) (r : Result) (d : List Byte) : (s.reply f r d).ticks = s.ticks := by rfl
@[simp] theorem State.reply_cap (f : Command) (r : Result) (d : List Byte) : (s.reply f r d).cap = s.cap := by rfl
@[simp] theorem State.reply_chans (f : Command) (r : Result) (d : List Byte) : (s.reply f r d).chans = s.chans := by rfl
@[simp] theorem State.reply_store (f : Command) (r : Result) (d : List Byte) : (s.reply f r d).store = s.store := by rfl
@[simp] theorem State.reply_stream (f : Command) (r : Result) (d : List Byte) : (s.reply f r d).stream = s.stream := by rfl
@[simp] theorem State.reply_marks (f : Command) (r : Result) (d : List Byte) : (s.reply f r d).marks = s.marks := by rfl
@[simp] theorem State.reply_floor (f : Command) (r : Result) (d : List Byte) : (s.reply f r d).floor = s.floor := by rfl
@[simp] theorem State.reply_trim (f : Command) (r : Result) (d : List Byte) : (s.reply f r d).trim = s.trim := by rfl
@[simp] theorem State.reply_time (f : Command) (r : Result) (d : List Byte) : (s.reply f r d).time = s.time := by rfl
@[simp] theorem State.reply_feed (f : Command) (r : Result) (d : List Byte) : (s.reply f r d).feed = s.feed := by rfl
@[simp] theorem State.reply_link_receiver (f : Command) (r : Result) (d : List Byte) : (s.reply f r d).link.receiver = s.link.receiver := by rfl
@[simp] theorem State.reply_link_cmdQueue (f : Command) (r : Result) (d : List Byte) : (s.reply f r d).link.cmdQueue = s.link.cmdQueue := by rfl
@[simp] theorem State.reply_link_deferred (f : Command) (r : Result) (d : List Byte) : (s.reply f r d).link.deferred = s.link.deferred := by rfl
@[simp] theorem State.reply_link_enabled (f : Command) (r : Result) (d : List Byte) : (s.reply f r d).link.enabled = s.link.enabled := by rfl
@[simp] theorem State.reply_link_raised (f : Command) (r : Result) (d : List Byte) : (s.reply f r d).link.raised = s.link.raised := by rfl
@[simp] theorem State.reply_link_counters (f : Command) (r : Result) (d : List Byte) : (s.reply f r d).link.counters = s.link.counters := by rfl
@[simp] theorem State.reply_link_changes (f : Command) (r : Result) (d : List Byte) : (s.reply f r d).link.changes = s.link.changes := by rfl
@[simp] theorem State.reply_link_schedule (f : Command) (r : Result) (d : List Byte) : (s.reply f r d).link.schedule = s.link.schedule := by rfl
@[simp] theorem State.reply_link_position (f : Command) (r : Result) (d : List Byte) : (s.reply f r d).link.position = s.link.position := by rfl
@[simp] theorem State.reply_link_lane (f : Command) (r : Result) (d : List Byte) : (s.reply f r d).link.lane = s.link.lane := by rfl
@[simp] theorem State.reply_link_restart (f : Command) (r : Result) (d : List Byte) : (s.reply f r d).link.restart = s.link.restart := by rfl
@[simp] theorem State.reply_link_hold (f : Command) (r : Result) (d : List Byte) : (s.reply f r d).link.hold = s.link.hold := by rfl

/-! ### answerTaken -/

@[simp] theorem State.answerTaken_pending (f : Command) (o : Bool) (q : Request) (d : List Byte) : (s.answerTaken f o q d).pending = s.pending := by unfold State.answerTaken; split <;> rfl
@[simp] theorem State.answerTaken_ticks (f : Command) (o : Bool) (q : Request) (d : List Byte) : (s.answerTaken f o q d).ticks = s.ticks := by unfold State.answerTaken; split <;> rfl
@[simp] theorem State.answerTaken_cap (f : Command) (o : Bool) (q : Request) (d : List Byte) : (s.answerTaken f o q d).cap = s.cap := by unfold State.answerTaken; split <;> rfl
@[simp] theorem State.answerTaken_chans (f : Command) (o : Bool) (q : Request) (d : List Byte) : (s.answerTaken f o q d).chans = s.chans := by unfold State.answerTaken; split <;> rfl
@[simp] theorem State.answerTaken_store (f : Command) (o : Bool) (q : Request) (d : List Byte) : (s.answerTaken f o q d).store = s.store := by unfold State.answerTaken; split <;> rfl
@[simp] theorem State.answerTaken_stream (f : Command) (o : Bool) (q : Request) (d : List Byte) : (s.answerTaken f o q d).stream = s.stream := by unfold State.answerTaken; split <;> rfl
@[simp] theorem State.answerTaken_marks (f : Command) (o : Bool) (q : Request) (d : List Byte) : (s.answerTaken f o q d).marks = s.marks := by unfold State.answerTaken; split <;> rfl
@[simp] theorem State.answerTaken_floor (f : Command) (o : Bool) (q : Request) (d : List Byte) : (s.answerTaken f o q d).floor = s.floor := by unfold State.answerTaken; split <;> rfl
@[simp] theorem State.answerTaken_trim (f : Command) (o : Bool) (q : Request) (d : List Byte) : (s.answerTaken f o q d).trim = s.trim := by unfold State.answerTaken; split <;> rfl
@[simp] theorem State.answerTaken_time (f : Command) (o : Bool) (q : Request) (d : List Byte) : (s.answerTaken f o q d).time = s.time := by unfold State.answerTaken; split <;> rfl
@[simp] theorem State.answerTaken_feed (f : Command) (o : Bool) (q : Request) (d : List Byte) : (s.answerTaken f o q d).feed = s.feed := by unfold State.answerTaken; split <;> rfl
@[simp] theorem State.answerTaken_link_receiver (f : Command) (o : Bool) (q : Request) (d : List Byte) : (s.answerTaken f o q d).link.receiver = s.link.receiver := by unfold State.answerTaken; split <;> rfl
@[simp] theorem State.answerTaken_link_cmdQueue (f : Command) (o : Bool) (q : Request) (d : List Byte) : (s.answerTaken f o q d).link.cmdQueue = s.link.cmdQueue := by unfold State.answerTaken; split <;> rfl
@[simp] theorem State.answerTaken_link_enabled (f : Command) (o : Bool) (q : Request) (d : List Byte) : (s.answerTaken f o q d).link.enabled = s.link.enabled := by unfold State.answerTaken; split <;> rfl
@[simp] theorem State.answerTaken_link_raised (f : Command) (o : Bool) (q : Request) (d : List Byte) : (s.answerTaken f o q d).link.raised = s.link.raised := by unfold State.answerTaken; split <;> rfl
@[simp] theorem State.answerTaken_link_counters (f : Command) (o : Bool) (q : Request) (d : List Byte) : (s.answerTaken f o q d).link.counters = s.link.counters := by unfold State.answerTaken; split <;> rfl
@[simp] theorem State.answerTaken_link_changes (f : Command) (o : Bool) (q : Request) (d : List Byte) : (s.answerTaken f o q d).link.changes = s.link.changes := by unfold State.answerTaken; split <;> rfl
@[simp] theorem State.answerTaken_link_schedule (f : Command) (o : Bool) (q : Request) (d : List Byte) : (s.answerTaken f o q d).link.schedule = s.link.schedule := by unfold State.answerTaken; split <;> rfl
@[simp] theorem State.answerTaken_link_position (f : Command) (o : Bool) (q : Request) (d : List Byte) : (s.answerTaken f o q d).link.position = s.link.position := by unfold State.answerTaken; split <;> rfl
@[simp] theorem State.answerTaken_link_lane (f : Command) (o : Bool) (q : Request) (d : List Byte) : (s.answerTaken f o q d).link.lane = s.link.lane := by unfold State.answerTaken; split <;> rfl
@[simp] theorem State.answerTaken_link_restart (f : Command) (o : Bool) (q : Request) (d : List Byte) : (s.answerTaken f o q d).link.restart = s.link.restart := by unfold State.answerTaken; split <;> rfl
@[simp] theorem State.answerTaken_link_hold (f : Command) (o : Bool) (q : Request) (d : List Byte) : (s.answerTaken f o q d).link.hold = s.link.hold := by unfold State.answerTaken; split <;> rfl

/-! ### supersede -/

@[simp] theorem State.supersede_pending (p : Deferred → Bool) (d : Deferred → List Byte) : (s.supersede p d).pending = s.pending := by rfl
@[simp] theorem State.supersede_ticks (p : Deferred → Bool) (d : Deferred → List Byte) : (s.supersede p d).ticks = s.ticks := by rfl
@[simp] theorem State.supersede_cap (p : Deferred → Bool) (d : Deferred → List Byte) : (s.supersede p d).cap = s.cap := by rfl
@[simp] theorem State.supersede_chans (p : Deferred → Bool) (d : Deferred → List Byte) : (s.supersede p d).chans = s.chans := by rfl
@[simp] theorem State.supersede_store (p : Deferred → Bool) (d : Deferred → List Byte) : (s.supersede p d).store = s.store := by rfl
@[simp] theorem State.supersede_stream (p : Deferred → Bool) (d : Deferred → List Byte) : (s.supersede p d).stream = s.stream := by rfl
@[simp] theorem State.supersede_marks (p : Deferred → Bool) (d : Deferred → List Byte) : (s.supersede p d).marks = s.marks := by rfl
@[simp] theorem State.supersede_floor (p : Deferred → Bool) (d : Deferred → List Byte) : (s.supersede p d).floor = s.floor := by rfl
@[simp] theorem State.supersede_trim (p : Deferred → Bool) (d : Deferred → List Byte) : (s.supersede p d).trim = s.trim := by rfl
@[simp] theorem State.supersede_time (p : Deferred → Bool) (d : Deferred → List Byte) : (s.supersede p d).time = s.time := by rfl
@[simp] theorem State.supersede_feed (p : Deferred → Bool) (d : Deferred → List Byte) : (s.supersede p d).feed = s.feed := by rfl
@[simp] theorem State.supersede_link_receiver (p : Deferred → Bool) (d : Deferred → List Byte) : (s.supersede p d).link.receiver = s.link.receiver := by rfl
@[simp] theorem State.supersede_link_cmdQueue (p : Deferred → Bool) (d : Deferred → List Byte) : (s.supersede p d).link.cmdQueue = s.link.cmdQueue := by rfl
@[simp] theorem State.supersede_link_enabled (p : Deferred → Bool) (d : Deferred → List Byte) : (s.supersede p d).link.enabled = s.link.enabled := by rfl
@[simp] theorem State.supersede_link_raised (p : Deferred → Bool) (d : Deferred → List Byte) : (s.supersede p d).link.raised = s.link.raised := by rfl
@[simp] theorem State.supersede_link_counters (p : Deferred → Bool) (d : Deferred → List Byte) : (s.supersede p d).link.counters = s.link.counters := by rfl
@[simp] theorem State.supersede_link_changes (p : Deferred → Bool) (d : Deferred → List Byte) : (s.supersede p d).link.changes = s.link.changes := by rfl
@[simp] theorem State.supersede_link_schedule (p : Deferred → Bool) (d : Deferred → List Byte) : (s.supersede p d).link.schedule = s.link.schedule := by rfl
@[simp] theorem State.supersede_link_position (p : Deferred → Bool) (d : Deferred → List Byte) : (s.supersede p d).link.position = s.link.position := by rfl
@[simp] theorem State.supersede_link_lane (p : Deferred → Bool) (d : Deferred → List Byte) : (s.supersede p d).link.lane = s.link.lane := by rfl
@[simp] theorem State.supersede_link_restart (p : Deferred → Bool) (d : Deferred → List Byte) : (s.supersede p d).link.restart = s.link.restart := by rfl
@[simp] theorem State.supersede_link_hold (p : Deferred → Bool) (d : Deferred → List Byte) : (s.supersede p d).link.hold = s.link.hold := by rfl

/-! ### answerAtBoundary -/

@[simp] theorem State.answerAtBoundary_pending (a : Deferred → Option Reply) : (s.answerAtBoundary a).pending = s.pending := by rfl
@[simp] theorem State.answerAtBoundary_ticks (a : Deferred → Option Reply) : (s.answerAtBoundary a).ticks = s.ticks := by rfl
@[simp] theorem State.answerAtBoundary_cap (a : Deferred → Option Reply) : (s.answerAtBoundary a).cap = s.cap := by rfl
@[simp] theorem State.answerAtBoundary_chans (a : Deferred → Option Reply) : (s.answerAtBoundary a).chans = s.chans := by rfl
@[simp] theorem State.answerAtBoundary_store (a : Deferred → Option Reply) : (s.answerAtBoundary a).store = s.store := by rfl
@[simp] theorem State.answerAtBoundary_stream (a : Deferred → Option Reply) : (s.answerAtBoundary a).stream = s.stream := by rfl
@[simp] theorem State.answerAtBoundary_marks (a : Deferred → Option Reply) : (s.answerAtBoundary a).marks = s.marks := by rfl
@[simp] theorem State.answerAtBoundary_floor (a : Deferred → Option Reply) : (s.answerAtBoundary a).floor = s.floor := by rfl
@[simp] theorem State.answerAtBoundary_trim (a : Deferred → Option Reply) : (s.answerAtBoundary a).trim = s.trim := by rfl
@[simp] theorem State.answerAtBoundary_time (a : Deferred → Option Reply) : (s.answerAtBoundary a).time = s.time := by rfl
@[simp] theorem State.answerAtBoundary_feed (a : Deferred → Option Reply) : (s.answerAtBoundary a).feed = s.feed := by rfl
@[simp] theorem State.answerAtBoundary_link_receiver (a : Deferred → Option Reply) : (s.answerAtBoundary a).link.receiver = s.link.receiver := by rfl
@[simp] theorem State.answerAtBoundary_link_cmdQueue (a : Deferred → Option Reply) : (s.answerAtBoundary a).link.cmdQueue = s.link.cmdQueue := by rfl
@[simp] theorem State.answerAtBoundary_link_replyQueue (a : Deferred → Option Reply) : (s.answerAtBoundary a).link.replyQueue = s.link.replyQueue := by rfl
@[simp] theorem State.answerAtBoundary_link_enabled (a : Deferred → Option Reply) : (s.answerAtBoundary a).link.enabled = s.link.enabled := by rfl
@[simp] theorem State.answerAtBoundary_link_raised (a : Deferred → Option Reply) : (s.answerAtBoundary a).link.raised = s.link.raised := by rfl
@[simp] theorem State.answerAtBoundary_link_counters (a : Deferred → Option Reply) : (s.answerAtBoundary a).link.counters = s.link.counters := by rfl
@[simp] theorem State.answerAtBoundary_link_changes (a : Deferred → Option Reply) : (s.answerAtBoundary a).link.changes = s.link.changes := by rfl
@[simp] theorem State.answerAtBoundary_link_schedule (a : Deferred → Option Reply) : (s.answerAtBoundary a).link.schedule = s.link.schedule := by rfl
@[simp] theorem State.answerAtBoundary_link_position (a : Deferred → Option Reply) : (s.answerAtBoundary a).link.position = s.link.position := by rfl
@[simp] theorem State.answerAtBoundary_link_lane (a : Deferred → Option Reply) : (s.answerAtBoundary a).link.lane = s.link.lane := by rfl
@[simp] theorem State.answerAtBoundary_link_restart (a : Deferred → Option Reply) : (s.answerAtBoundary a).link.restart = s.link.restart := by rfl
@[simp] theorem State.answerAtBoundary_link_hold (a : Deferred → Option Reply) : (s.answerAtBoundary a).link.hold = s.link.hold := by rfl

/-! ### popCommand -/

@[simp] theorem State.popCommand_pending : (s.popCommand).pending = s.pending := by rfl
@[simp] theorem State.popCommand_ticks : (s.popCommand).ticks = s.ticks := by rfl
@[simp] theorem State.popCommand_cap : (s.popCommand).cap = s.cap := by rfl
@[simp] theorem State.popCommand_chans : (s.popCommand).chans = s.chans := by rfl
@[simp] theorem State.popCommand_store : (s.popCommand).store = s.store := by rfl
@[simp] theorem State.popCommand_stream : (s.popCommand).stream = s.stream := by rfl
@[simp] theorem State.popCommand_marks : (s.popCommand).marks = s.marks := by rfl
@[simp] theorem State.popCommand_floor : (s.popCommand).floor = s.floor := by rfl
@[simp] theorem State.popCommand_trim : (s.popCommand).trim = s.trim := by rfl
@[simp] theorem State.popCommand_time : (s.popCommand).time = s.time := by rfl
@[simp] theorem State.popCommand_feed : (s.popCommand).feed = s.feed := by rfl
@[simp] theorem State.popCommand_link_receiver : (s.popCommand).link.receiver = s.link.receiver := by rfl
@[simp] theorem State.popCommand_link_replyQueue : (s.popCommand).link.replyQueue = s.link.replyQueue := by rfl
@[simp] theorem State.popCommand_link_deferred : (s.popCommand).link.deferred = s.link.deferred := by rfl
@[simp] theorem State.popCommand_link_enabled : (s.popCommand).link.enabled = s.link.enabled := by rfl
@[simp] theorem State.popCommand_link_raised : (s.popCommand).link.raised = s.link.raised := by rfl
@[simp] theorem State.popCommand_link_counters : (s.popCommand).link.counters = s.link.counters := by rfl
@[simp] theorem State.popCommand_link_changes : (s.popCommand).link.changes = s.link.changes := by rfl
@[simp] theorem State.popCommand_link_schedule : (s.popCommand).link.schedule = s.link.schedule := by rfl
@[simp] theorem State.popCommand_link_position : (s.popCommand).link.position = s.link.position := by rfl
@[simp] theorem State.popCommand_link_lane : (s.popCommand).link.lane = s.link.lane := by rfl
@[simp] theorem State.popCommand_link_restart : (s.popCommand).link.restart = s.link.restart := by rfl
@[simp] theorem State.popCommand_link_hold : (s.popCommand).link.hold = s.link.hold := by rfl

/-! ### popReply -/

@[simp] theorem State.popReply_pending : (s.popReply).pending = s.pending := by rfl
@[simp] theorem State.popReply_ticks : (s.popReply).ticks = s.ticks := by rfl
@[simp] theorem State.popReply_cap : (s.popReply).cap = s.cap := by rfl
@[simp] theorem State.popReply_chans : (s.popReply).chans = s.chans := by rfl
@[simp] theorem State.popReply_store : (s.popReply).store = s.store := by rfl
@[simp] theorem State.popReply_stream : (s.popReply).stream = s.stream := by rfl
@[simp] theorem State.popReply_marks : (s.popReply).marks = s.marks := by rfl
@[simp] theorem State.popReply_floor : (s.popReply).floor = s.floor := by rfl
@[simp] theorem State.popReply_trim : (s.popReply).trim = s.trim := by rfl
@[simp] theorem State.popReply_time : (s.popReply).time = s.time := by rfl
@[simp] theorem State.popReply_feed : (s.popReply).feed = s.feed := by rfl
@[simp] theorem State.popReply_link_receiver : (s.popReply).link.receiver = s.link.receiver := by rfl
@[simp] theorem State.popReply_link_cmdQueue : (s.popReply).link.cmdQueue = s.link.cmdQueue := by rfl
@[simp] theorem State.popReply_link_deferred : (s.popReply).link.deferred = s.link.deferred := by rfl
@[simp] theorem State.popReply_link_enabled : (s.popReply).link.enabled = s.link.enabled := by rfl
@[simp] theorem State.popReply_link_raised : (s.popReply).link.raised = s.link.raised := by rfl
@[simp] theorem State.popReply_link_counters : (s.popReply).link.counters = s.link.counters := by rfl
@[simp] theorem State.popReply_link_changes : (s.popReply).link.changes = s.link.changes := by rfl
@[simp] theorem State.popReply_link_schedule : (s.popReply).link.schedule = s.link.schedule := by rfl
@[simp] theorem State.popReply_link_position : (s.popReply).link.position = s.link.position := by rfl
@[simp] theorem State.popReply_link_lane : (s.popReply).link.lane = s.link.lane := by rfl
@[simp] theorem State.popReply_link_restart : (s.popReply).link.restart = s.link.restart := by rfl
@[simp] theorem State.popReply_link_hold : (s.popReply).link.hold = s.link.hold := by rfl

/-! ### receive -/

@[simp] theorem State.receive_pending (r : Receiver) : (s.receive r).pending = s.pending := by rfl
@[simp] theorem State.receive_ticks (r : Receiver) : (s.receive r).ticks = s.ticks := by rfl
@[simp] theorem State.receive_cap (r : Receiver) : (s.receive r).cap = s.cap := by rfl
@[simp] theorem State.receive_chans (r : Receiver) : (s.receive r).chans = s.chans := by rfl
@[simp] theorem State.receive_store (r : Receiver) : (s.receive r).store = s.store := by rfl
@[simp] theorem State.receive_stream (r : Receiver) : (s.receive r).stream = s.stream := by rfl
@[simp] theorem State.receive_marks (r : Receiver) : (s.receive r).marks = s.marks := by rfl
@[simp] theorem State.receive_floor (r : Receiver) : (s.receive r).floor = s.floor := by rfl
@[simp] theorem State.receive_trim (r : Receiver) : (s.receive r).trim = s.trim := by rfl
@[simp] theorem State.receive_time (r : Receiver) : (s.receive r).time = s.time := by rfl
@[simp] theorem State.receive_feed (r : Receiver) : (s.receive r).feed = s.feed := by rfl
@[simp] theorem State.receive_link_cmdQueue (r : Receiver) : (s.receive r).link.cmdQueue = s.link.cmdQueue := by rfl
@[simp] theorem State.receive_link_replyQueue (r : Receiver) : (s.receive r).link.replyQueue = s.link.replyQueue := by rfl
@[simp] theorem State.receive_link_deferred (r : Receiver) : (s.receive r).link.deferred = s.link.deferred := by rfl
@[simp] theorem State.receive_link_enabled (r : Receiver) : (s.receive r).link.enabled = s.link.enabled := by rfl
@[simp] theorem State.receive_link_raised (r : Receiver) : (s.receive r).link.raised = s.link.raised := by rfl
@[simp] theorem State.receive_link_counters (r : Receiver) : (s.receive r).link.counters = s.link.counters := by rfl
@[simp] theorem State.receive_link_changes (r : Receiver) : (s.receive r).link.changes = s.link.changes := by rfl
@[simp] theorem State.receive_link_schedule (r : Receiver) : (s.receive r).link.schedule = s.link.schedule := by rfl
@[simp] theorem State.receive_link_position (r : Receiver) : (s.receive r).link.position = s.link.position := by rfl
@[simp] theorem State.receive_link_lane (r : Receiver) : (s.receive r).link.lane = s.link.lane := by rfl
@[simp] theorem State.receive_link_restart (r : Receiver) : (s.receive r).link.restart = s.link.restart := by rfl
@[simp] theorem State.receive_link_hold (r : Receiver) : (s.receive r).link.hold = s.link.hold := by rfl

/-! ### startFrame -/

@[simp] theorem State.startFrame_pending (u : LaneUse) (k t : Byte) (p : List Byte) : (s.startFrame u k t p).pending = s.pending := by rfl
@[simp] theorem State.startFrame_ticks (u : LaneUse) (k t : Byte) (p : List Byte) : (s.startFrame u k t p).ticks = s.ticks := by rfl
@[simp] theorem State.startFrame_cap (u : LaneUse) (k t : Byte) (p : List Byte) : (s.startFrame u k t p).cap = s.cap := by rfl
@[simp] theorem State.startFrame_chans (u : LaneUse) (k t : Byte) (p : List Byte) : (s.startFrame u k t p).chans = s.chans := by rfl
@[simp] theorem State.startFrame_store (u : LaneUse) (k t : Byte) (p : List Byte) : (s.startFrame u k t p).store = s.store := by rfl
@[simp] theorem State.startFrame_stream (u : LaneUse) (k t : Byte) (p : List Byte) : (s.startFrame u k t p).stream = s.stream := by rfl
@[simp] theorem State.startFrame_marks (u : LaneUse) (k t : Byte) (p : List Byte) : (s.startFrame u k t p).marks = s.marks := by rfl
@[simp] theorem State.startFrame_floor (u : LaneUse) (k t : Byte) (p : List Byte) : (s.startFrame u k t p).floor = s.floor := by rfl
@[simp] theorem State.startFrame_trim (u : LaneUse) (k t : Byte) (p : List Byte) : (s.startFrame u k t p).trim = s.trim := by rfl
@[simp] theorem State.startFrame_time (u : LaneUse) (k t : Byte) (p : List Byte) : (s.startFrame u k t p).time = s.time := by rfl
@[simp] theorem State.startFrame_feed (u : LaneUse) (k t : Byte) (p : List Byte) : (s.startFrame u k t p).feed = s.feed := by rfl
@[simp] theorem State.startFrame_link_receiver (u : LaneUse) (k t : Byte) (p : List Byte) : (s.startFrame u k t p).link.receiver = s.link.receiver := by rfl
@[simp] theorem State.startFrame_link_cmdQueue (u : LaneUse) (k t : Byte) (p : List Byte) : (s.startFrame u k t p).link.cmdQueue = s.link.cmdQueue := by rfl
@[simp] theorem State.startFrame_link_replyQueue (u : LaneUse) (k t : Byte) (p : List Byte) : (s.startFrame u k t p).link.replyQueue = s.link.replyQueue := by rfl
@[simp] theorem State.startFrame_link_deferred (u : LaneUse) (k t : Byte) (p : List Byte) : (s.startFrame u k t p).link.deferred = s.link.deferred := by rfl
@[simp] theorem State.startFrame_link_enabled (u : LaneUse) (k t : Byte) (p : List Byte) : (s.startFrame u k t p).link.enabled = s.link.enabled := by rfl
@[simp] theorem State.startFrame_link_raised (u : LaneUse) (k t : Byte) (p : List Byte) : (s.startFrame u k t p).link.raised = s.link.raised := by rfl
@[simp] theorem State.startFrame_link_counters (u : LaneUse) (k t : Byte) (p : List Byte) : (s.startFrame u k t p).link.counters = s.link.counters := by rfl
@[simp] theorem State.startFrame_link_changes (u : LaneUse) (k t : Byte) (p : List Byte) : (s.startFrame u k t p).link.changes = s.link.changes := by rfl
@[simp] theorem State.startFrame_link_schedule (u : LaneUse) (k t : Byte) (p : List Byte) : (s.startFrame u k t p).link.schedule = s.link.schedule := by rfl
@[simp] theorem State.startFrame_link_position (u : LaneUse) (k t : Byte) (p : List Byte) : (s.startFrame u k t p).link.position = s.link.position := by rfl
@[simp] theorem State.startFrame_link_restart (u : LaneUse) (k t : Byte) (p : List Byte) : (s.startFrame u k t p).link.restart = s.link.restart := by rfl
@[simp] theorem State.startFrame_link_hold (u : LaneUse) (k t : Byte) (p : List Byte) : (s.startFrame u k t p).link.hold = s.link.hold := by rfl

/-! ### endFrame -/

@[simp] theorem State.endFrame_pending : (s.endFrame).pending = s.pending := by rfl
@[simp] theorem State.endFrame_ticks : (s.endFrame).ticks = s.ticks := by rfl
@[simp] theorem State.endFrame_cap : (s.endFrame).cap = s.cap := by rfl
@[simp] theorem State.endFrame_chans : (s.endFrame).chans = s.chans := by rfl
@[simp] theorem State.endFrame_store : (s.endFrame).store = s.store := by rfl
@[simp] theorem State.endFrame_stream : (s.endFrame).stream = s.stream := by rfl
@[simp] theorem State.endFrame_marks : (s.endFrame).marks = s.marks := by rfl
@[simp] theorem State.endFrame_floor : (s.endFrame).floor = s.floor := by rfl
@[simp] theorem State.endFrame_trim : (s.endFrame).trim = s.trim := by rfl
@[simp] theorem State.endFrame_time : (s.endFrame).time = s.time := by rfl
@[simp] theorem State.endFrame_feed : (s.endFrame).feed = s.feed := by rfl
@[simp] theorem State.endFrame_link_receiver : (s.endFrame).link.receiver = s.link.receiver := by rfl
@[simp] theorem State.endFrame_link_cmdQueue : (s.endFrame).link.cmdQueue = s.link.cmdQueue := by rfl
@[simp] theorem State.endFrame_link_replyQueue : (s.endFrame).link.replyQueue = s.link.replyQueue := by rfl
@[simp] theorem State.endFrame_link_deferred : (s.endFrame).link.deferred = s.link.deferred := by rfl
@[simp] theorem State.endFrame_link_enabled : (s.endFrame).link.enabled = s.link.enabled := by rfl
@[simp] theorem State.endFrame_link_raised : (s.endFrame).link.raised = s.link.raised := by rfl
@[simp] theorem State.endFrame_link_counters : (s.endFrame).link.counters = s.link.counters := by rfl
@[simp] theorem State.endFrame_link_changes : (s.endFrame).link.changes = s.link.changes := by rfl
@[simp] theorem State.endFrame_link_schedule : (s.endFrame).link.schedule = s.link.schedule := by rfl
@[simp] theorem State.endFrame_link_position : (s.endFrame).link.position = s.link.position := by rfl
@[simp] theorem State.endFrame_link_restart : (s.endFrame).link.restart = s.link.restart := by rfl
@[simp] theorem State.endFrame_link_hold : (s.endFrame).link.hold = s.link.hold := by rfl

/-! ### setFree -/

@[simp] theorem State.setFree_pending (n : Nat) : (s.setFree n).pending = s.pending := by simp only [State.setFree]; split <;> rfl
@[simp] theorem State.setFree_ticks (n : Nat) : (s.setFree n).ticks = s.ticks := by simp only [State.setFree]; split <;> rfl
@[simp] theorem State.setFree_cap (n : Nat) : (s.setFree n).cap = s.cap := by simp only [State.setFree]; split <;> rfl
@[simp] theorem State.setFree_chans (n : Nat) : (s.setFree n).chans = s.chans := by simp only [State.setFree]; split <;> rfl
@[simp] theorem State.setFree_stream (n : Nat) : (s.setFree n).stream = s.stream := by simp only [State.setFree]; split <;> rfl
@[simp] theorem State.setFree_marks (n : Nat) : (s.setFree n).marks = s.marks := by simp only [State.setFree]; split <;> rfl
@[simp] theorem State.setFree_floor (n : Nat) : (s.setFree n).floor = s.floor := by simp only [State.setFree]; split <;> rfl
@[simp] theorem State.setFree_trim (n : Nat) : (s.setFree n).trim = s.trim := by simp only [State.setFree]; split <;> rfl
@[simp] theorem State.setFree_time (n : Nat) : (s.setFree n).time = s.time := by simp only [State.setFree]; split <;> rfl
@[simp] theorem State.setFree_feed (n : Nat) : (s.setFree n).feed = s.feed := by simp only [State.setFree]; split <;> rfl
@[simp] theorem State.setFree_link_receiver (n : Nat) : (s.setFree n).link.receiver = s.link.receiver := by simp only [State.setFree]; split <;> rfl
@[simp] theorem State.setFree_link_cmdQueue (n : Nat) : (s.setFree n).link.cmdQueue = s.link.cmdQueue := by simp only [State.setFree]; split <;> rfl
@[simp] theorem State.setFree_link_replyQueue (n : Nat) : (s.setFree n).link.replyQueue = s.link.replyQueue := by simp only [State.setFree]; split <;> rfl
@[simp] theorem State.setFree_link_deferred (n : Nat) : (s.setFree n).link.deferred = s.link.deferred := by simp only [State.setFree]; split <;> rfl
@[simp] theorem State.setFree_link_enabled (n : Nat) : (s.setFree n).link.enabled = s.link.enabled := by simp only [State.setFree]; split <;> rfl
@[simp] theorem State.setFree_link_counters (n : Nat) : (s.setFree n).link.counters = s.link.counters := by simp only [State.setFree]; split <;> rfl
@[simp] theorem State.setFree_link_changes (n : Nat) : (s.setFree n).link.changes = s.link.changes := by simp only [State.setFree]; split <;> rfl
@[simp] theorem State.setFree_link_schedule (n : Nat) : (s.setFree n).link.schedule = s.link.schedule := by simp only [State.setFree]; split <;> rfl
@[simp] theorem State.setFree_link_position (n : Nat) : (s.setFree n).link.position = s.link.position := by simp only [State.setFree]; split <;> rfl
@[simp] theorem State.setFree_link_lane (n : Nat) : (s.setFree n).link.lane = s.link.lane := by simp only [State.setFree]; split <;> rfl
@[simp] theorem State.setFree_link_restart (n : Nat) : (s.setFree n).link.restart = s.link.restart := by simp only [State.setFree]; split <;> rfl
@[simp] theorem State.setFree_link_hold (n : Nat) : (s.setFree n).link.hold = s.link.hold := by simp only [State.setFree]; split <;> rfl

/-! ### post -/

@[simp] theorem State.post_pending (r : Record) : (s.post r).pending = s.pending := by rfl
@[simp] theorem State.post_ticks (r : Record) : (s.post r).ticks = s.ticks := by rfl
@[simp] theorem State.post_cap (r : Record) : (s.post r).cap = s.cap := by rfl
@[simp] theorem State.post_chans (r : Record) : (s.post r).chans = s.chans := by rfl
@[simp] theorem State.post_stream (r : Record) : (s.post r).stream = s.stream := by rfl
@[simp] theorem State.post_marks (r : Record) : (s.post r).marks = s.marks := by rfl
@[simp] theorem State.post_floor (r : Record) : (s.post r).floor = s.floor := by rfl
@[simp] theorem State.post_trim (r : Record) : (s.post r).trim = s.trim := by rfl
@[simp] theorem State.post_time (r : Record) : (s.post r).time = s.time := by rfl
@[simp] theorem State.post_feed (r : Record) : (s.post r).feed = s.feed := by rfl
@[simp] theorem State.post_link (r : Record) : (s.post r).link = s.link := by rfl

/-! ### startTrim -/

@[simp] theorem State.startTrim_pending (v : Conv) (k : TrimKind) : (s.startTrim v k).pending = s.pending := by rfl
@[simp] theorem State.startTrim_ticks (v : Conv) (k : TrimKind) : (s.startTrim v k).ticks = s.ticks := by rfl
@[simp] theorem State.startTrim_cap (v : Conv) (k : TrimKind) : (s.startTrim v k).cap = s.cap := by rfl
@[simp] theorem State.startTrim_chans (v : Conv) (k : TrimKind) : (s.startTrim v k).chans = s.chans := by rfl
@[simp] theorem State.startTrim_store (v : Conv) (k : TrimKind) : (s.startTrim v k).store = s.store := by rfl
@[simp] theorem State.startTrim_stream (v : Conv) (k : TrimKind) : (s.startTrim v k).stream = s.stream := by rfl
@[simp] theorem State.startTrim_marks (v : Conv) (k : TrimKind) : (s.startTrim v k).marks = s.marks := by rfl
@[simp] theorem State.startTrim_floor (v : Conv) (k : TrimKind) : (s.startTrim v k).floor = s.floor := by rfl
@[simp] theorem State.startTrim_time (v : Conv) (k : TrimKind) : (s.startTrim v k).time = s.time := by rfl
@[simp] theorem State.startTrim_feed (v : Conv) (k : TrimKind) : (s.startTrim v k).feed = s.feed := by rfl
@[simp] theorem State.startTrim_link (v : Conv) (k : TrimKind) : (s.startTrim v k).link = s.link := by rfl

/-! ### serve -/

@[simp] theorem State.serve_pending (c : Chan) (v : Conv) : (s.serve c v).pending = s.pending := by rfl
@[simp] theorem State.serve_ticks (c : Chan) (v : Conv) : (s.serve c v).ticks = s.ticks := by rfl
@[simp] theorem State.serve_cap (c : Chan) (v : Conv) : (s.serve c v).cap = s.cap := by rfl
@[simp] theorem State.serve_chans (c : Chan) (v : Conv) : (s.serve c v).chans = s.chans := by rfl
@[simp] theorem State.serve_store (c : Chan) (v : Conv) : (s.serve c v).store = s.store := by rfl
@[simp] theorem State.serve_stream (c : Chan) (v : Conv) : (s.serve c v).stream = s.stream := by rfl
@[simp] theorem State.serve_marks (c : Chan) (v : Conv) : (s.serve c v).marks = s.marks := by rfl
@[simp] theorem State.serve_floor (c : Chan) (v : Conv) : (s.serve c v).floor = s.floor := by rfl
@[simp] theorem State.serve_time (c : Chan) (v : Conv) : (s.serve c v).time = s.time := by rfl
@[simp] theorem State.serve_feed (c : Chan) (v : Conv) : (s.serve c v).feed = s.feed := by rfl
@[simp] theorem State.serve_link (c : Chan) (v : Conv) : (s.serve c v).link = s.link := by rfl

/-! ### endRotation -/

@[simp] theorem State.endRotation_pending (r : RotationState) : (s.endRotation r).pending = s.pending := by rfl
@[simp] theorem State.endRotation_ticks (r : RotationState) : (s.endRotation r).ticks = s.ticks := by rfl
@[simp] theorem State.endRotation_cap (r : RotationState) : (s.endRotation r).cap = s.cap := by rfl
@[simp] theorem State.endRotation_chans (r : RotationState) : (s.endRotation r).chans = s.chans := by rfl
@[simp] theorem State.endRotation_store (r : RotationState) : (s.endRotation r).store = s.store := by rfl
@[simp] theorem State.endRotation_stream (r : RotationState) : (s.endRotation r).stream = s.stream := by rfl
@[simp] theorem State.endRotation_marks (r : RotationState) : (s.endRotation r).marks = s.marks := by rfl
@[simp] theorem State.endRotation_floor (r : RotationState) : (s.endRotation r).floor = s.floor := by rfl
@[simp] theorem State.endRotation_time (r : RotationState) : (s.endRotation r).time = s.time := by rfl
@[simp] theorem State.endRotation_feed (r : RotationState) : (s.endRotation r).feed = s.feed := by rfl
@[simp] theorem State.endRotation_link (r : RotationState) : (s.endRotation r).link = s.link := by rfl

/-! ### joinNoSpare -/

@[simp] theorem State.joinNoSpare_pending (p : Nat) (c : Chan) : (s.joinNoSpare p c).pending = s.pending := by unfold State.joinNoSpare; split <;> rfl
@[simp] theorem State.joinNoSpare_ticks (p : Nat) (c : Chan) : (s.joinNoSpare p c).ticks = s.ticks := by unfold State.joinNoSpare; split <;> rfl
@[simp] theorem State.joinNoSpare_cap (p : Nat) (c : Chan) : (s.joinNoSpare p c).cap = s.cap := by unfold State.joinNoSpare; split <;> rfl
@[simp] theorem State.joinNoSpare_store (p : Nat) (c : Chan) : (s.joinNoSpare p c).store = s.store := by unfold State.joinNoSpare; split <;> rfl
@[simp] theorem State.joinNoSpare_stream (p : Nat) (c : Chan) : (s.joinNoSpare p c).stream = s.stream := by unfold State.joinNoSpare; split <;> rfl
@[simp] theorem State.joinNoSpare_marks (p : Nat) (c : Chan) : (s.joinNoSpare p c).marks = s.marks := by unfold State.joinNoSpare; split <;> rfl
@[simp] theorem State.joinNoSpare_floor (p : Nat) (c : Chan) : (s.joinNoSpare p c).floor = s.floor := by unfold State.joinNoSpare; split <;> rfl
@[simp] theorem State.joinNoSpare_time (p : Nat) (c : Chan) : (s.joinNoSpare p c).time = s.time := by unfold State.joinNoSpare; split <;> rfl
@[simp] theorem State.joinNoSpare_feed (p : Nat) (c : Chan) : (s.joinNoSpare p c).feed = s.feed := by unfold State.joinNoSpare; split <;> rfl
@[simp] theorem State.joinNoSpare_link_receiver (p : Nat) (c : Chan) : (s.joinNoSpare p c).link.receiver = s.link.receiver := by unfold State.joinNoSpare; split <;> rfl
@[simp] theorem State.joinNoSpare_link_cmdQueue (p : Nat) (c : Chan) : (s.joinNoSpare p c).link.cmdQueue = s.link.cmdQueue := by unfold State.joinNoSpare; split <;> rfl
@[simp] theorem State.joinNoSpare_link_replyQueue (p : Nat) (c : Chan) : (s.joinNoSpare p c).link.replyQueue = s.link.replyQueue := by unfold State.joinNoSpare; split <;> rfl
@[simp] theorem State.joinNoSpare_link_deferred (p : Nat) (c : Chan) : (s.joinNoSpare p c).link.deferred = s.link.deferred := by unfold State.joinNoSpare; split <;> rfl
@[simp] theorem State.joinNoSpare_link_enabled (p : Nat) (c : Chan) : (s.joinNoSpare p c).link.enabled = s.link.enabled := by unfold State.joinNoSpare; split <;> rfl
@[simp] theorem State.joinNoSpare_link_counters (p : Nat) (c : Chan) : (s.joinNoSpare p c).link.counters = s.link.counters := by unfold State.joinNoSpare; split <;> rfl
@[simp] theorem State.joinNoSpare_link_changes (p : Nat) (c : Chan) : (s.joinNoSpare p c).link.changes = s.link.changes := by unfold State.joinNoSpare; split <;> rfl
@[simp] theorem State.joinNoSpare_link_schedule (p : Nat) (c : Chan) : (s.joinNoSpare p c).link.schedule = s.link.schedule := by unfold State.joinNoSpare; split <;> rfl
@[simp] theorem State.joinNoSpare_link_position (p : Nat) (c : Chan) : (s.joinNoSpare p c).link.position = s.link.position := by unfold State.joinNoSpare; split <;> rfl
@[simp] theorem State.joinNoSpare_link_lane (p : Nat) (c : Chan) : (s.joinNoSpare p c).link.lane = s.link.lane := by unfold State.joinNoSpare; split <;> rfl
@[simp] theorem State.joinNoSpare_link_restart (p : Nat) (c : Chan) : (s.joinNoSpare p c).link.restart = s.link.restart := by unfold State.joinNoSpare; split <;> rfl
@[simp] theorem State.joinNoSpare_link_hold (p : Nat) (c : Chan) : (s.joinNoSpare p c).link.hold = s.link.hold := by unfold State.joinNoSpare; split <;> rfl

/-! ### handOver -/

@[simp] theorem State.handOver_pending (p : Nat) (c : Chan) (v : Conv) (k : ConverterCause) : (s.handOver p c v k).pending = s.pending := by rfl
@[simp] theorem State.handOver_ticks (p : Nat) (c : Chan) (v : Conv) (k : ConverterCause) : (s.handOver p c v k).ticks = s.ticks := by rfl
@[simp] theorem State.handOver_cap (p : Nat) (c : Chan) (v : Conv) (k : ConverterCause) : (s.handOver p c v k).cap = s.cap := by rfl
@[simp] theorem State.handOver_store (p : Nat) (c : Chan) (v : Conv) (k : ConverterCause) : (s.handOver p c v k).store = s.store := by rfl
@[simp] theorem State.handOver_stream (p : Nat) (c : Chan) (v : Conv) (k : ConverterCause) : (s.handOver p c v k).stream = s.stream := by rfl
@[simp] theorem State.handOver_marks (p : Nat) (c : Chan) (v : Conv) (k : ConverterCause) : (s.handOver p c v k).marks = s.marks := by rfl
@[simp] theorem State.handOver_floor (p : Nat) (c : Chan) (v : Conv) (k : ConverterCause) : (s.handOver p c v k).floor = s.floor := by rfl
@[simp] theorem State.handOver_time (p : Nat) (c : Chan) (v : Conv) (k : ConverterCause) : (s.handOver p c v k).time = s.time := by rfl
@[simp] theorem State.handOver_feed (p : Nat) (c : Chan) (v : Conv) (k : ConverterCause) : (s.handOver p c v k).feed = s.feed := by rfl
@[simp] theorem State.handOver_link_receiver (p : Nat) (c : Chan) (v : Conv) (k : ConverterCause) : (s.handOver p c v k).link.receiver = s.link.receiver := by rfl
@[simp] theorem State.handOver_link_cmdQueue (p : Nat) (c : Chan) (v : Conv) (k : ConverterCause) : (s.handOver p c v k).link.cmdQueue = s.link.cmdQueue := by rfl
@[simp] theorem State.handOver_link_replyQueue (p : Nat) (c : Chan) (v : Conv) (k : ConverterCause) : (s.handOver p c v k).link.replyQueue = s.link.replyQueue := by rfl
@[simp] theorem State.handOver_link_deferred (p : Nat) (c : Chan) (v : Conv) (k : ConverterCause) : (s.handOver p c v k).link.deferred = s.link.deferred := by rfl
@[simp] theorem State.handOver_link_enabled (p : Nat) (c : Chan) (v : Conv) (k : ConverterCause) : (s.handOver p c v k).link.enabled = s.link.enabled := by rfl
@[simp] theorem State.handOver_link_counters (p : Nat) (c : Chan) (v : Conv) (k : ConverterCause) : (s.handOver p c v k).link.counters = s.link.counters := by rfl
@[simp] theorem State.handOver_link_changes (p : Nat) (c : Chan) (v : Conv) (k : ConverterCause) : (s.handOver p c v k).link.changes = s.link.changes := by rfl
@[simp] theorem State.handOver_link_schedule (p : Nat) (c : Chan) (v : Conv) (k : ConverterCause) : (s.handOver p c v k).link.schedule = s.link.schedule := by rfl
@[simp] theorem State.handOver_link_position (p : Nat) (c : Chan) (v : Conv) (k : ConverterCause) : (s.handOver p c v k).link.position = s.link.position := by rfl
@[simp] theorem State.handOver_link_lane (p : Nat) (c : Chan) (v : Conv) (k : ConverterCause) : (s.handOver p c v k).link.lane = s.link.lane := by rfl
@[simp] theorem State.handOver_link_restart (p : Nat) (c : Chan) (v : Conv) (k : ConverterCause) : (s.handOver p c v k).link.restart = s.link.restart := by rfl
@[simp] theorem State.handOver_link_hold (p : Nat) (c : Chan) (v : Conv) (k : ConverterCause) : (s.handOver p c v k).link.hold = s.link.hold := by rfl

/-! ### revertRoutes -/

@[simp] theorem State.revertRoutes_pending : (s.revertRoutes).pending = s.pending := by simp [State.revertRoutes]
@[simp] theorem State.revertRoutes_ticks : (s.revertRoutes).ticks = s.ticks := by simp [State.revertRoutes]
@[simp] theorem State.revertRoutes_cap : (s.revertRoutes).cap = s.cap := by simp [State.revertRoutes]
@[simp] theorem State.revertRoutes_store : (s.revertRoutes).store = s.store := by simp [State.revertRoutes]
@[simp] theorem State.revertRoutes_stream : (s.revertRoutes).stream = s.stream := by simp [State.revertRoutes]
@[simp] theorem State.revertRoutes_marks : (s.revertRoutes).marks = s.marks := by simp [State.revertRoutes]
@[simp] theorem State.revertRoutes_floor : (s.revertRoutes).floor = s.floor := by simp [State.revertRoutes]
@[simp] theorem State.revertRoutes_trim : (s.revertRoutes).trim = s.trim := by simp [State.revertRoutes]
@[simp] theorem State.revertRoutes_time : (s.revertRoutes).time = s.time := by simp [State.revertRoutes]
@[simp] theorem State.revertRoutes_feed : (s.revertRoutes).feed = s.feed := by simp [State.revertRoutes]
@[simp] theorem State.revertRoutes_link : (s.revertRoutes).link = s.link := by simp [State.revertRoutes]

/-! ### clearMarks -/

@[simp] theorem State.clearMarks_pending : (s.clearMarks).pending = s.pending := by simp [State.clearMarks]
@[simp] theorem State.clearMarks_ticks : (s.clearMarks).ticks = s.ticks := by simp [State.clearMarks]
@[simp] theorem State.clearMarks_cap : (s.clearMarks).cap = s.cap := by simp [State.clearMarks]
@[simp] theorem State.clearMarks_store : (s.clearMarks).store = s.store := by simp [State.clearMarks]
@[simp] theorem State.clearMarks_stream : (s.clearMarks).stream = s.stream := by simp [State.clearMarks]
@[simp] theorem State.clearMarks_marks : (s.clearMarks).marks = s.marks := by simp [State.clearMarks]
@[simp] theorem State.clearMarks_floor : (s.clearMarks).floor = s.floor := by simp [State.clearMarks]
@[simp] theorem State.clearMarks_trim : (s.clearMarks).trim = s.trim := by simp [State.clearMarks]
@[simp] theorem State.clearMarks_time : (s.clearMarks).time = s.time := by simp [State.clearMarks]
@[simp] theorem State.clearMarks_feed : (s.clearMarks).feed = s.feed := by simp [State.clearMarks]
@[simp] theorem State.clearMarks_link : (s.clearMarks).link = s.link := by simp [State.clearMarks]

/-! ### completeBlocks -/

@[simp] theorem State.completeBlocks_pending : (s.completeBlocks).pending = s.pending := by simp [State.completeBlocks]
@[simp] theorem State.completeBlocks_ticks : (s.completeBlocks).ticks = s.ticks := by simp [State.completeBlocks]
@[simp] theorem State.completeBlocks_cap : (s.completeBlocks).cap = s.cap := by simp [State.completeBlocks]
@[simp] theorem State.completeBlocks_store : (s.completeBlocks).store = s.store := by simp [State.completeBlocks]
@[simp] theorem State.completeBlocks_stream : (s.completeBlocks).stream = s.stream := by simp [State.completeBlocks]
@[simp] theorem State.completeBlocks_marks : (s.completeBlocks).marks = s.marks := by simp [State.completeBlocks]
@[simp] theorem State.completeBlocks_floor : (s.completeBlocks).floor = s.floor := by simp [State.completeBlocks]
@[simp] theorem State.completeBlocks_trim : (s.completeBlocks).trim = s.trim := by simp [State.completeBlocks]
@[simp] theorem State.completeBlocks_time : (s.completeBlocks).time = s.time := by simp [State.completeBlocks]
@[simp] theorem State.completeBlocks_feed : (s.completeBlocks).feed = s.feed := by simp [State.completeBlocks]
@[simp] theorem State.completeBlocks_link : (s.completeBlocks).link = s.link := by simp [State.completeBlocks]

/-! ### commitRoutes -/

@[simp] theorem State.commitRoutes_pending : (s.commitRoutes).pending = s.pending := by simp [State.commitRoutes]
@[simp] theorem State.commitRoutes_ticks : (s.commitRoutes).ticks = s.ticks := by simp [State.commitRoutes]
@[simp] theorem State.commitRoutes_cap : (s.commitRoutes).cap = s.cap := by simp [State.commitRoutes]
@[simp] theorem State.commitRoutes_store : (s.commitRoutes).store = s.store := by simp [State.commitRoutes]
@[simp] theorem State.commitRoutes_stream : (s.commitRoutes).stream = s.stream := by simp [State.commitRoutes]
@[simp] theorem State.commitRoutes_marks : (s.commitRoutes).marks = s.marks := by simp [State.commitRoutes]
@[simp] theorem State.commitRoutes_floor : (s.commitRoutes).floor = s.floor := by simp [State.commitRoutes]
@[simp] theorem State.commitRoutes_trim : (s.commitRoutes).trim = s.trim := by simp [State.commitRoutes]
@[simp] theorem State.commitRoutes_time : (s.commitRoutes).time = s.time := by simp [State.commitRoutes]
@[simp] theorem State.commitRoutes_feed : (s.commitRoutes).feed = s.feed := by simp [State.commitRoutes]
@[simp] theorem State.commitRoutes_link : (s.commitRoutes).link = s.link := by simp [State.commitRoutes]

/-! ### commitSettings -/

@[simp] theorem State.commitSettings_pending : (s.commitSettings).pending = s.pending := by simp [State.commitSettings]
@[simp] theorem State.commitSettings_ticks : (s.commitSettings).ticks = s.ticks := by simp [State.commitSettings]
@[simp] theorem State.commitSettings_cap : (s.commitSettings).cap = s.cap := by simp [State.commitSettings]
@[simp] theorem State.commitSettings_store : (s.commitSettings).store = s.store := by simp [State.commitSettings]
@[simp] theorem State.commitSettings_stream : (s.commitSettings).stream = s.stream := by simp [State.commitSettings]
@[simp] theorem State.commitSettings_marks : (s.commitSettings).marks = s.marks := by simp [State.commitSettings]
@[simp] theorem State.commitSettings_floor : (s.commitSettings).floor = s.floor := by simp [State.commitSettings]
@[simp] theorem State.commitSettings_time : (s.commitSettings).time = s.time := by simp [State.commitSettings]
@[simp] theorem State.commitSettings_feed : (s.commitSettings).feed = s.feed := by simp [State.commitSettings]
@[simp] theorem State.commitSettings_link : (s.commitSettings).link = s.link := by simp [State.commitSettings]

/-! ## One channel and one converter -/

/-- Reading a vector after one entry is set. -/
theorem vector_get_set {α : Type} {n : Nat} (v : Vector α n) (i j : Fin n) (x : α) :
    (v.set i.val x i.isLt).get j = if j = i then x else v.get j := by
  change (v.set i.val x i.isLt)[j.val] = if j = i then x else v[j.val]
  rw [Vector.getElem_set]
  simp only [Fin.ext_iff, eq_comm]

/-- Reading a vector given entry by entry. -/
theorem vector_get_ofFn {α : Type} {n : Nat} (f : Fin n → α) (i : Fin n) : (Vector.ofFn f).get i = f i := by
  change (Vector.ofFn f)[i.val] = f i
  rw [Vector.getElem_ofFn]

theorem State.chan_modChan (c d : Chan) (f : Channel → Channel) :
    (s.modChan c f).chan d = if d = c then f (s.chan c) else s.chan d := vector_get_set s.chans c d _

@[simp] theorem State.chan_modChan_self (c : Chan) (f : Channel → Channel) :
    (s.modChan c f).chan c = f (s.chan c) := by
  simp [State.chan_modChan]

theorem State.chan_modChan_of_ne {c d : Chan} (f : Channel → Channel) (h : d ≠ c) :
    (s.modChan c f).chan d = s.chan d := by
  simp [State.chan_modChan, h]

@[simp] theorem State.chan_mapChans (c : Chan) (f : Chan → Channel → Channel) :
    (s.mapChans f).chan c = f c (s.chan c) := vector_get_ofFn _ c

theorem State.conv_modConv (v w : Conv) (f : Converter → Converter) :
    (s.modConv v f).conv w = if w = v then f (s.conv v) else s.conv w := vector_get_set s.trim.convs v w _

@[simp] theorem State.conv_modConv_self (v : Conv) (f : Converter → Converter) :
    (s.modConv v f).conv v = f (s.conv v) := by
  simp [State.conv_modConv]

theorem State.conv_modConv_of_ne {v w : Conv} (f : Converter → Converter) (h : w ≠ v) :
    (s.modConv v f).conv w = s.conv w := by
  simp [State.conv_modConv, h]

@[simp] theorem State.conv_mapConvs (v : Conv) (f : Conv → Converter → Converter) :
    (s.mapConvs f).conv v = f v (s.conv v) := vector_get_ofFn _ v

/-- The map after channel `c` takes converter `v` (R124). -/
theorem State.convOf_serve (c d : Chan) (v : Conv) : (s.serve c v).convOf d = if d = c then v else s.convOf d :=
  vector_get_set s.trim.map c d v

@[simp] theorem State.convOf_modConv (c : Chan) (v : Conv) (f : Converter → Converter) :
    (s.modConv v f).convOf c = s.convOf c := by rfl

@[simp] theorem State.convOf_modChan (c d : Chan) (f : Channel → Channel) :
    (s.modChan d f).convOf c = s.convOf c := by rfl

@[simp] theorem State.convOf_addConverter (c : Chan) (e : ConverterEntry) :
    (s.addConverter e).convOf c = s.convOf c := by rfl

@[simp] theorem State.conv_addConverter (v : Conv) (e : ConverterEntry) : (s.addConverter e).conv v = s.conv v := by rfl

@[simp] theorem State.conv_modChan (v : Conv) (c : Chan) (f : Channel → Channel) :
    (s.modChan c f).conv v = s.conv v := by rfl

@[simp] theorem State.chan_modConv (c : Chan) (v : Conv) (f : Converter → Converter) :
    (s.modConv v f).chan c = s.chan c := by rfl

@[simp] theorem mem_allChans (c : Chan) : c ∈ allChans := List.mem_finRange c

@[simp] theorem mem_allConvs (v : Conv) : v ∈ allConvs := List.mem_finRange v

end Sys2Proof.Machine
end

