-- ==== Sys2Proof/Laws/Ops.lean ====
section
/-! SUPPORT. One lemma for each shared operation, which says everything it can do; later proofs cite these and unfold
none of the operations. -/

namespace Sys2Proof.Machine

/-! ## Arithmetic -/

theorem clamp_eq {lo hi : Int} (h : lo ≤ hi) (x : Int) : clamp lo hi x = max lo (min hi x) := by
  unfold clamp; split <;> [skip; split] <;> omega

/-- Narrowing keeps a value within 16 bits and holds another at the bound. -/
theorem narrow_toInt (y : Int) : (narrow y).toInt = max (-32768) (min 32767 y) := by
  have h := clamp_eq (show (-32768 : Int) ≤ 32767 by decide) y
  rw [narrow, BitVec.toInt_ofInt, h, Int.bmod_eq_of_le] <;> omega

theorem satInc_le {m n : Nat} (h : n ≤ m) : satInc m n ≤ m := by unfold satInc; split <;> omega

theorem wrapInc_lt (n : Nat) : wrapInc n < 4294967296 := Nat.mod_lt _ (by decide)

/-! ## Notices -/

/-- A bounded list either has room, or loses its oldest entry to the unlisted count. -/
theorem pushListed_cases {α : Type} (l : List α) (n : Nat) (x : α) :
    (l.length < 8 ∧ pushListed l n x = (l ++ [x], n)) ∨
      (8 ≤ l.length ∧ pushListed l n x = (l.drop 1 ++ [x], satInc 255 n)) := by
  by_cases h : l.length < 8
  · exact .inl ⟨h, if_pos h⟩
  · exact .inr ⟨by omega, if_neg h⟩

theorem pushListed_length {α : Type} {l : List α} (h : l.length ≤ 8) (n : Nat) (x : α) :
    (pushListed l n x).1.length ≤ 8 := by
  rcases pushListed_cases l n x with ⟨h', e⟩ | ⟨h', e⟩ <;> rw [e] <;> simp <;> omega

/-- A rise of a counter does nothing at 65,535; below it raises LINK. -/
theorem count_cases (s : State) (c : CounterName) :
    (65535 ≤ s.link.counters.get c ∧ s.count c = s) ∨
      (s.link.counters.get c < 65535 ∧ s.count c = State.raise { s with link := { s.link with
        counters := s.link.counters.put (s.link.counters.get c + 1) c
        changes := s.link.changes.put (satInc 65535 (s.link.changes.get c)) c } } .link) := by
  by_cases h : s.link.counters.get c < 65535
  · exact .inr ⟨h, if_pos h⟩
  · exact .inl ⟨by omega, if_neg h⟩

@[simp] theorem Counters.get_put_self (k : Counters) (n : Nat) (c : CounterName) : (k.put n c).get c = n := by
  cases c <;> rfl

theorem Counters.get_put_of_ne (k : Counters) (n : Nat) {c d : CounterName} (h : d ≠ c) :
    (k.put n c).get d = k.get d := by
  cases c <;> cases d <;> first | rfl | exact absurd rfl h

/-! ## Deferred replies -/

/-- A taken command is deferred, or answered ACCEPTED. -/
theorem answerTaken_cases (s : State) (f : Command) (o : Bool) (q : Request) (data : List Byte) :
    (o = true ∧ s.link.deferred.length < 4 ∧ s.answerTaken f o q data =
      { s with link := { s.link with deferred := s.link.deferred ++ [⟨f.tag, f.code, q, none⟩] } }) ∨
    ((o = false ∨ 4 ≤ s.link.deferred.length) ∧ s.answerTaken f o q data = s.reply f .accepted data) := by
  by_cases h : o = true ∧ s.link.deferred.length < Config.deferredMax
  · exact .inl ⟨h.1, h.2, if_pos h⟩
  · refine .inr ⟨?_, if_neg h⟩
    cases o
    · exact .inl rfl
    · exact .inr (by simpa [Config.deferredMax] using h)

/-- The first ANSWERED entry, with the table without it. -/
theorem takeAnswered_some {l : List Deferred} {r : Reply} {l' : List Deferred} (h : takeAnswered l = some (r, l')) :
    ∃ a e b, l = a ++ e :: b ∧ (∀ x ∈ a, x.answer = none) ∧ e.answer = some r ∧ l' = a ++ b := by
  induction l generalizing l' with
  | nil => simp [takeAnswered] at h
  | cons e rest ih =>
    simp only [takeAnswered] at h
    split at h
    · next r' he =>
      simp only [Option.some.injEq, Prod.mk.injEq] at h
      exact ⟨[], e, rest, rfl, by simp, by rw [he, h.1], by simp [h.2]⟩
    · next he =>
      rw [Option.map_eq_some_iff] at h
      obtain ⟨⟨r', q⟩, hp, hq⟩ := h
      simp only [Prod.mk.injEq] at hq
      obtain ⟨a, x, b, rfl, ha, hx, rfl⟩ := ih (hq.1 ▸ hp)
      exact ⟨e :: a, x, b, rfl, by simpa [he] using ha, hx, by simp [← hq.2]⟩

theorem takeAnswered_none {l : List Deferred} (h : takeAnswered l = none) : ∀ x ∈ l, x.answer = none := by
  induction l with
  | nil => simp
  | cons e rest ih =>
    simp only [takeAnswered] at h
    split at h
    · cases h
    · next he => simpa [he] using ih (by simpa using h)

/-! ## The block store -/

/-- The free count formed again: the store changes in it alone, and STORE is raised when the level state changes. -/
theorem setFree_cases (s : State) (n : Nat) :
    s.setFree n = { s with store := { s.store with free := n } } ∨
      s.setFree n = State.raise { s with store := { s.store with free := n } } .store := by
  unfold State.setFree
  simp only []
  split
  · exact .inl rfl
  · exact .inr rfl

/-- The slot reclaim takes is the first eligible one of the custody list. -/
theorem takeEligible_some {l : List HeldSlot} {h : HeldSlot} {l' : List HeldSlot}
    (e : takeEligible l = some (h, l')) :
    ∃ a b, l = a ++ h :: b ∧ (∀ x ∈ a, x.eligible = false) ∧ h.eligible = true ∧ l' = a ++ b := by
  induction l generalizing l' with
  | nil => simp [takeEligible] at e
  | cons g rest ih =>
    simp only [takeEligible] at e
    split at e
    · next hg =>
      simp only [Option.some.injEq, Prod.mk.injEq] at e
      obtain ⟨rfl, rfl⟩ := e
      exact ⟨[], rest, rfl, by simp, hg, rfl⟩
    · next hg =>
      rw [Option.map_eq_some_iff] at e
      obtain ⟨⟨g', q⟩, hp, hq⟩ := e
      simp only [Prod.mk.injEq] at hq
      obtain ⟨rfl, rfl⟩ := hq
      obtain ⟨a, b, rfl, ha, hh, rfl⟩ := ih hp
      exact ⟨g :: a, b, rfl, by simpa [hg] using ha, hh, rfl⟩

theorem takeEligible_none {l : List HeldSlot} (e : takeEligible l = none) : ∀ x ∈ l, x.eligible = false := by
  induction l with
  | nil => simp
  | cons g rest ih =>
    simp only [takeEligible] at e
    split at e
    · cases e
    · next hg => simpa [hg] using ih (by simpa using e)

/-- A granted slot request takes a FREE slot, or, for KEEP with none FREE, a slot that reclaim gives. -/
theorem slotRequest_some {s t : State} {k : Class} (h : s.slotRequest k = some t) :
    (0 < s.store.free ∧ t = s.setFree (s.store.free - 1)) ∨
      (k = .keep ∧ s.store.free = 0 ∧ s.reclaimSlot = some t) := by
  cases k <;> simp only [State.slotRequest] at h <;> split at h
  all_goals first
    | (simp only [Option.some.injEq] at h; exact .inl ⟨by omega, h.symm⟩)
    | exact .inr ⟨rfl, by omega, h⟩
    | cases h

/-- What reclaim gives: one eligible slot of custody less, counted and listed, with STORE raised. -/
theorem reclaimSlot_some {s t : State} (h : s.reclaimSlot = some t) :
    ∃ a x b, s.store.reclaim = true ∧ s.store.custody = a ++ x :: b ∧ (∀ y ∈ a, y.eligible = false) ∧
      x.eligible = true ∧ t = State.raise { s with store := { s.store with
        custody := a ++ b
        reclaimCount := satInc 4294967295 s.store.reclaimCount
        reclaimList := if s.store.reclaimList.length < 32
          then s.store.reclaimList ++ [x.record.custody] else s.store.reclaimList
        notListed := if s.store.reclaimList.length < 32
          then s.store.notListed else satInc 65535 s.store.notListed } } .store := by
  simp only [State.reclaimSlot] at h
  split at h
  · next hr =>
    rw [Option.map_eq_some_iff] at h
    obtain ⟨⟨x, q⟩, hp, rfl⟩ := h
    obtain ⟨a, b, hl, ha, hx, rfl⟩ := takeEligible_some hp
    exact ⟨a, x, b, hr, hl, ha, hx, rfl⟩
  · cases h

/-! ## Folds over channels and converters -/

/-- What every turn of a fold keeps, the fold keeps. -/
theorem foldl_keeps {α : Type} {P : State → Prop} {f : State → α → State} (h : ∀ s x, P s → P (f s x)) (l : List α)
    {s : State} (hs : P s) : P (l.foldl f s) := by
  induction l generalizing s with
  | nil => exact hs
  | cons x rest ih => exact ih (h s x hs)

/-- What every turn of a fold leaves alone, the fold leaves alone. -/
theorem foldl_frame {α β : Type} {g : State → β} {f : State → α → State} (h : ∀ s x, g (f s x) = g s) (l : List α)
    (s : State) : g (l.foldl f s) = g s :=
  foldl_keeps (P := fun t => g t = g s) (fun t x ht => (h t x).trans ht) l rfl

/-! ## Steps -/

/-- Every command answers a next state: no meaning faults and none refuses. -/
theorem exec_next (c : Instr) (s : State) : ∃ t, exec c s = .next t := by
  cases c <;> exact ⟨_, rfl⟩

/-- Everything a step can do: idle, or run the front command. -/
theorem step_cases {s t : State} (h : step s = .next t) :
    (s.pending = [] ∧ t = s) ∨ ∃ c rest, s.pending = c :: rest ∧ exec c { s with pending := rest } = .next t := by
  unfold step at h
  split at h
  · next hp => exact .inl ⟨hp, by cases h; rfl⟩
  · next c rest hp => exact .inr ⟨c, rest, hp, h⟩

end Sys2Proof.Machine
end

