-- ==== Sys2Proof/Laws/Trim.lean ====
section
/-! SUPPORT. What each operation of the trim unit can do, case by case (R121 to R133), for proofs that follow one
operation through a boundary. -/

namespace Sys2Proof.Machine

theorem lowestSpare_some {s : State} {v : Conv} (h : s.lowestSpare = some v) : (s.conv v).state = .spare := by
  simpa using List.find?_some h

theorem lowestSpare_none {s : State} (h : s.lowestSpare = none) (v : Conv) : (s.conv v).state ≠ .spare := by
  simpa using List.find?_eq_none.mp h v (List.mem_finRange v)

theorem channelOf_some {s : State} {v : Conv} {c : Chan} (h : s.channelOf v = some c) :
    s.trim.mapBuilt = true ∧ s.convOf c = v := by
  unfold State.channelOf at h
  split at h
  · next hb => exact ⟨hb, by simpa using List.find?_some h⟩
  · cases h

theorem channelOf_none {s : State} {v : Conv} (h : s.channelOf v = none) (hb : s.trim.mapBuilt = true) (c : Chan) :
    s.convOf c ≠ v := by
  unfold State.channelOf at h
  rw [if_pos hb] at h
  simpa using List.find?_eq_none.mp h c (List.mem_finRange c)

theorem shadowing_some {s : State} {r : Shadow} (h : s.shadowing = some r) :
    s.trim.rotation = .shadowing ∧ s.trim.shadow = some r := by
  unfold State.shadowing at h
  split at h
  · next hr => exact ⟨hr, h⟩
  · cases h

/-- A channel joins the no-spare set once (R132). -/
theorem joinNoSpare_cases (s : State) (p : Nat) (c : Chan) :
    ((s.chan c).noSpare = true ∧ s.joinNoSpare p c = s) ∨
      ((s.chan c).noSpare = false ∧ s.joinNoSpare p c =
        (s.modChan c fun x => { x with noSpare := true }).addConverter
          ⟨.noSpare, .none, s.convOf c, some c, none, s.cap.number, p⟩) := by
  unfold State.joinNoSpare
  cases h : (s.chan c).noSpare
  · exact .inr ⟨rfl, rfl⟩
  · exact .inl ⟨rfl, rfl⟩

/-- One converter's examination (R130): nothing, one count more, the fault, or the count at 0. -/
theorem examine_cases (p : Nat) (s : State) (v : Conv) :
    State.examine p s v = s ∨
      (∃ c, s.channelOf v = some c ∧ (s.conv v).state = .serving ∧
        ((State.examine p s v = s.modConv v fun x => { x with stuck := 0 }) ∨
          ((s.conv v).stuck = 0 ∧ State.examine p s v = s.modConv v fun x => { x with stuck := x.stuck + 1 }) ∨
          (1 ≤ (s.conv v).stuck ∧ State.examine p s v =
            (s.modConv v fun x => { x with stuck := 2, state := .faulted }).addConverter
              ⟨.faulted, .stuck, v, some c, none, s.cap.number, p⟩))) := by
  unfold State.examine
  cases hc : s.channelOf v with
  | none => exact .inl rfl
  | some c =>
    simp only []
    split
    · next h =>
      refine .inr ⟨c, rfl, h.1, ?_⟩
      split
      · split
        · exact .inr (.inl ⟨by omega, rfl⟩)
        · exact .inr (.inr ⟨by omega, rfl⟩)
      · exact .inl rfl
    · exact .inl rfl

/-- One channel's replacement (R131, step 4). -/
theorem replace_cases (p : Nat) (s : State) (c : Chan) :
    ((s.conv (s.convOf c)).state ≠ .faulted ∧ State.replace p s c = s) ∨
      ((s.conv (s.convOf c)).state = .faulted ∧
        ((∃ v, s.lowestSpare = some v ∧ State.replace p s c = s.handOver p c v .replacement) ∨
          (s.lowestSpare = none ∧ ∃ r, s.shadowing = some r ∧ State.replace p s c =
            { (s.handOver p c r.spare .replacement).endRotation .due with
              trim := { ((s.handOver p c r.spare .replacement).endRotation .due).trim with named := none } }) ∨
          (s.lowestSpare = none ∧ s.shadowing = none ∧ State.replace p s c = s.joinNoSpare p c))) := by
  unfold State.replace
  by_cases hf : (s.conv (s.convOf c)).state = .faulted
  · refine .inr ⟨hf, ?_⟩
    rw [if_pos hf]
    cases hl : s.lowestSpare with
    | some v => exact .inl ⟨v, rfl, rfl⟩
    | none =>
      cases hs : s.shadowing with
      | some r => exact .inr (.inl ⟨rfl, r, rfl, rfl⟩)
      | none => exact .inr (.inr ⟨rfl, rfl, rfl⟩)
  · exact .inl ⟨hf, if_neg hf⟩

/-- The match of a rotation still SHADOWING (R128): none, the handover, a new trim of the spare, or the target's fault. -/
theorem evaluateMatch_cases (s : State) (p : Nat) :
    (s.shadowing = none ∧ s.evaluateMatch p = s) ∨ ∃ r, s.shadowing = some r ∧
      ((s.trim.matchSum ≤ s.trim.limit * 320 ∧ s.evaluateMatch p =
          ((s.handOver p r.channel r.spare .rotation).startTrim r.target .short).endRotation .idle) ∨
        (s.trim.limit * 320 < s.trim.matchSum ∧ (s.chan r.channel).mismatch = 0 ∧ s.evaluateMatch p =
          ((s.startTrim r.spare .long).modChan r.channel fun x => { x with mismatch := 1 }).endRotation .idle) ∨
        (s.trim.limit * 320 < s.trim.matchSum ∧ (s.chan r.channel).mismatch ≠ 0 ∧ s.evaluateMatch p =
          (((s.modConv r.target fun x => { x with state := .faulted }).addConverter
            ⟨.faulted, .mismatch, r.target, some r.channel, none, s.cap.number, p⟩).handOver
            p r.channel r.spare .mismatch).endRotation .idle)) := by
  unfold State.evaluateMatch
  cases hs : s.shadowing with
  | none => exact .inl ⟨rfl, rfl⟩
  | some r =>
    refine .inr ⟨r, rfl, ?_⟩
    simp only []
    by_cases h1 : s.trim.matchSum ≤ s.trim.limit * Config.periodLength
    · exact .inl ⟨h1, by rw [if_pos h1]⟩
    · by_cases h2 : (s.chan r.channel).mismatch = 0
      · exact .inr (.inl ⟨by simpa using h1, h2, by rw [if_neg h1, if_pos h2]⟩)
      · exact .inr (.inr ⟨by simpa using h1, h2, by rw [if_neg h1, if_neg h2]⟩)

/-- A DUE rotation begins only with the engine idle, a SPARE converter and a target (R126). -/
theorem beginRotation_cases (s : State) (en : Chan → Bool) :
    s.beginRotation en = s ∨
      s.beginRotation en = { s with trim := { s.trim with named := none } } ∨
      ∃ v t c, s.trim.rotation = .due ∧ s.trim.engine = none ∧ s.lowestSpare = some v ∧
        s.rotationTarget en = some t ∧ s.channelOf t = some c ∧
        s.beginRotation en = { (s.modConv v fun x => { x with state := .shadow }) with
          trim := { (s.modConv v fun x => { x with state := .shadow }).trim with
            rotation := .shadowing, shadow := some ⟨v, t, c⟩, matchSum := 0, named := none, timer := 0 } } := by
  unfold State.beginRotation
  split
  · next h =>
    cases hl : s.lowestSpare with
    | none => exact .inl rfl
    | some v =>
      cases ht : s.rotationTarget en with
      | none => exact .inr (.inl rfl)
      | some t =>
        cases hc : s.channelOf t with
        | none => exact .inl (by simp [hc])
        | some c => exact .inr (.inr ⟨v, t, c, h.1, h.2, rfl, rfl, hc, by simp [hc]⟩)
  · exact .inl rfl

/-- The end of a trim (R121): the converter is SPARE with its offset, or FAULTED with an event; then the start-up sequence
goes on. -/
theorem completeTrim_cases (s : State) (p : Nat) :
    (s.trim.engine = none ∧ s.completeTrim p = s) ∨ ∃ e, s.trim.engine = some e ∧
      ((-24000 ≤ trimResult e.kind e.sum ∧ trimResult e.kind e.sum ≤ 24000 ∧ s.completeTrim p =
          (State.modConv { s with trim := { s.trim with engine := none } } e.conv fun x => { x with
            state := .spare, offset := trimResult e.kind e.sum, doneAt := some s.trim.trimClock }).afterTrim p e.conv) ∨
        ((trimResult e.kind e.sum < -24000 ∨ 24000 < trimResult e.kind e.sum) ∧ s.completeTrim p =
          ((State.modConv { s with trim := { s.trim with engine := none } } e.conv fun x => { x with
            state := .faulted }).addConverter ⟨.faulted, .trim, e.conv, none, none, s.cap.number, p⟩).afterTrim p
              e.conv)) := by
  unfold State.completeTrim
  cases he : s.trim.engine with
  | none => exact .inl ⟨rfl, rfl⟩
  | some e =>
    refine .inr ⟨e, rfl, ?_⟩
    simp only []
    by_cases h : -Config.offsetLimit ≤ trimResult e.kind e.sum ∧ trimResult e.kind e.sum ≤ Config.offsetLimit
    · exact .inl ⟨h.1, h.2, by rw [if_pos h]⟩
    · refine .inr ⟨?_, by rw [if_neg h]⟩
      simp only [Config.offsetLimit] at h
      omega

end Sys2Proof.Machine
end

