-- ==== Sys2Proof/Tests/Slice0.lean ====
section
/-! SUPPORT. The model's own tests: ill-formed operands refused, the worked figures of the spec (their section named at each
test), and for every statement a concrete state and operands that meet its hypotheses. -/

open Sys2Proof Sys2Proof.Machine

namespace Sys2Proof.Tests

-- One proof at a time: each thread of its own would count its stack against the check's memory limit.
set_option Elab.async false

/-! ## Helpers -/

/-- The state after one command of the table. -/
def after (i : Instr) (s : State) : State :=
  match exec i s with
  | .next t => t
  | .fault _ | .refused _ => s

/-- A state whose command queue holds one frame, of tag 7. -/
def cmd (s : State) (p : List Byte) : State := { s with link := { s.link with cmdQueue := [⟨0x07#8, p⟩] } }

/-- The entry a reply with tag 7 makes. -/
def rep (code : Byte) (r : Result) (data : List Byte := []) : List ReplyEntry := [.reply ⟨0x07#8, code, r, data⟩]

/-- CAPTURING in RECESS, period 0, with the map built. -/
def capt : State := { State.reset with
  cap := { State.reset.cap with state := .capturing, number := 1, proceeding := .recess }
  trim := { State.reset.trim with
    mapBuilt := true, engine := none
    convs := State.reset.trim.convs.set 0 { Converter.reset with state := .serving, doneAt := some 0 } } }

/-- STANDBY with the map built. -/
def ready : State := { State.reset with trim := { State.reset.trim with mapBuilt := true } }

/-- CAPTURING in SESSION. -/
def sess : State := { capt with cap := { capt.cap with proceeding := .session } }

/-- The boundary of `capt` is due. -/
def edge : State := { capt with cap := { capt.cap with instant := 320 } }

/-- Every channel disabled but CH0, which is in the class KEEP. -/
def solo (s : State) : State := { s with
  chans := (Vector.replicate 24 { Channel.reset with settings := { Settings.reset with enable := false } }).set 0
    { Channel.reset with settings := { Settings.reset with cls := .keep } } }

/-- A record of custody number `k`. -/
def record (k : Nat) : Record := .marker ⟨1, k, 0, 0, 0, 0, .unset, .recess, [], 0#32⟩

/-- The store with slots 1 (pinned once, release-pending) and 2 (unpinned) in custody. -/
def held : State := { State.reset with
  store := { State.reset.store with
    free := 65534, custody := [⟨record 1, 1, true⟩, ⟨record 2, 0, false⟩], lastCustody := 2, reclaim := true }
  stream := { State.reset.stream with lastSent := 2 }
  link := { State.reset.link with replyQueue := [.copy 1] } }

/-! ## WellFormed: what each check refuses -/

theorem test_strayByte_refuses_sync : (Instr.strayByte 0xC5#8).wf = false := by decide +kernel
theorem test_oversize_refuses_1024 : (Instr.oversizeLength 1024#16).wf = false := by decide +kernel
theorem test_frame_refuses_1025 : (Instr.frameComplete 1 0 (List.replicate 1025 0#8) 0).wf = false := by decide +kernel
theorem test_line_refuses_cr : (Instr.timeMessage [some 0x41#8, some 0x0D#8]).wf = false := by decide +kernel
theorem test_wf_accepts : (Instr.strayByte 0xC4#8).wf = true ∧ (Instr.oversizeLength 1025#16).wf = true ∧
    (Instr.frameComplete 1 0 [0x01#8] 0).wf = true ∧ (Instr.timeMessage [none]).wf = true := by decide +kernel

/-! ## Worked figures of the spec -/

/-- R83 and R164: the nine ASCII bytes "123456789". -/
theorem test_crc32_digits : crc32 0xFFFFFFFF#32 [0x31, 0x32, 0x33, 0x34, 0x35, 0x36, 0x37, 0x38, 0x39] = 0x0376E6E7#32 := by
  decide +kernel
theorem test_crc8_digits : crc8 [0x31, 0x32, 0x33, 0x34, 0x35, 0x36, 0x37, 0x38, 0x39] = 0xF4#8 := by decide +kernel

/-- Section 1.10, rounding, the negative input, saturation and negative full scale. -/
theorem test_gain_figures : scaled 1234567 6144 = 7234 ∧ scaled (-1234567) 6144 = -7234 ∧
    narrow (scaled 8000000 8192) = 32767#16 ∧ clips (scaled 8000000 8192) = true ∧
    scaled (patternInput (-32768)) 4096 = -32768 ∧ clips (-32768) = false := by decide +kernel

/-- R19: r = −8,388,600 with t = 1,000 saturates. -/
theorem test_corrected_saturates : corrected (-8388600) 1000 = -8388608 := by decide +kernel

/-- Section 1.10, level codes for whole blocks. -/
theorem test_level_codes : levelCode 0 = 0 ∧ levelCode 1600000 = 25 ∧ levelCode 320000000 = 40 ∧
    levelCode 343576412480 = 60 ∧ levelCode 343597383680 = 61 := by decide +kernel

/-- R121: a short trim and a long one. -/
theorem test_trim_results : trimResult .short 1234567 = 1929 ∧ trimResult .long (-3097600) = -1210 := by decide +kernel

/-- Section 10.6: the samples in SESSION and in SIDEBAR, the half at a negative sum, and both saturations. -/
theorem test_feed_samples : feedSample ⟨6144, some 4, 0xE270#16, 0, 0, 0⟩ .session 17500 = (26250#16, false) ∧
    feedSample ⟨6144, some 4, 0xE270#16, 0, 0, 0⟩ .sidebar 5500 = (7777#16, false) ∧
    feedScaled (-3) 6144 = -4 ∧ feedSample ⟨6144, some 4, 0, 0, 0, 0⟩ .session 51500 = (32767#16, true) ∧
    feedSample ⟨4096, some 0, 0x7138#16, 0, 0, 0⟩ .sidebar 32700 = (32767#16, true) := by decide +kernel

/-- R158: ACE1h is followed by E270h and 7138h. -/
theorem test_noise_sequence : noiseNext 0xACE1#16 = 0xE270#16 ∧ noiseNext 0xE270#16 = 0x7138#16 := by decide +kernel

/-- Section 9.8, pulses 2 and 3, and steering while LOCKED with e = −1 and d = 3. -/
theorem test_steering : steered 0 49 0 false = -5978 ∧ steered (-5978) 25 0 false = -9028 ∧
    steered 0 (-1) 3 true = 1622 := by decide +kernel

/-- R142: "00412,34200" names second 34,200 of day 412. -/
theorem test_message : parseMessage ([0x30, 0x30, 0x34, 0x31, 0x32, 0x2C, 0x33, 0x34, 0x32, 0x30, 0x30].map some) =
    some ⟨412, 34200⟩ := by decide +kernel

/-- Section 12.6: the carried-over marker record has 60 bytes, 52 of them covered. -/
theorem test_marker_record_size : ∀ r : MarkerRecord, r = ⟨16, 9, 0, 0, 0, 0, .unset, .recess,
    [(2, ⟨.ruling, none, List.replicate 19 0x41#8⟩), (4, ⟨.note, none, []⟩)], 0⟩ →
    r.bytes.length = 60 ∧ r.covered.length = 52 ∧ (r.bytes.drop 27).take 6 = [0x00, 0x02, 0x02, 0x04, 0xFF, 0x13] := by
  rintro r rfl; decide +kernel

/-- Section 12.5: the READ_HELD reply of OK for k = 70,313 with a pin count of 1. -/
theorem test_readHeld_reply : Reply.payload ⟨0, 0x34#8, .ok, be 4 70313 ++ be 1 1⟩ =
    [0x34, 0x00, 0x00, 0x01, 0x12, 0xA9, 0x01] := by decide +kernel

/-- R43, R27 and R25: after the code and the result, a full reset's STORE_STATUS gives FREE in 4 bytes, FILLING in 1, POSTED in 4
and SENDING in 1. R137: an idle trim engine in CONVERTER_STATUS has converter 255 and no sample instants. -/
theorem test_status_sizes : State.reset.storeStatus.take 10 = [0, 1, 0, 0, 0, 0, 0, 0, 0, 0] ∧
    State.reset.storeStatus.length = 138 ∧ capt.engineBytes = [0, 255, 0, 0] ∧
    State.reset.engineBytes = [1, 0, 1, 0x0A, 0, 0] := by decide +kernel

/-- Section 12.6: the STORE notice's level state, free count and channel sets; 28 bytes. -/
theorem test_store_notice : ∀ s : State, s = { State.reset with
      store := { State.reset.store with free := 4078 }
      chans := ((State.reset.chans.set 21 { Channel.reset with starved := true, newlyStarved := true }).set 22
        { Channel.reset with starved := true, newlyStarved := true }).set 23
        { Channel.reset with starved := true, newlyStarved := true } } →
    (s.noticePayload .store).length = 28 ∧ (s.noticePayload .store).take 6 = [0x02, 0x01, 0x00, 0x00, 0x0F, 0xEE] ∧
      ((s.noticePayload .store).drop 15).take 7 = [0xE0, 0x00, 0x00, 0xE0, 0x00, 0x00, 0x00] := by
  rintro s rfl; decide +kernel

/-- Section 12.6: byte 28 of CH9's records in the worked rotation. -/
theorem test_record_flags : RecordFlags.code ⟨false, true, false, false⟩ = 2 ∧
    RecordFlags.code ⟨false, false, true, false⟩ = 4 := by decide +kernel

/-- R173: the full-reset schedule. -/
theorem test_schedule_at_reset : scheduleBytes State.reset.link.schedule =
    [0x52, 0x42, 0x42, 0x4E, 0x42, 0x42, 0x52, 0x42, 0x42, 0x42, 0x52, 0x42, 0x42, 0x4E, 0x42, 0x42] := by decide +kernel

/-! ## Witnesses: the hypotheses of each statement met, clause by clause -/

/-- The head may execute whatever its payload, with the reply queue empty. -/
theorem witness_executes (p : List Byte) :
    (cmd State.reset p).Executes ⟨0x07#8, p⟩ [] 8 ∧ (cmd capt p).Executes ⟨0x07#8, p⟩ [] 8 :=
  ⟨⟨rfl, rfl, by simp [cmd, State.reset], by simp [cmd, State.reset]⟩,
    ⟨rfl, rfl, by simp [cmd, capt, State.reset], by simp [cmd, capt, State.reset]⟩⟩

theorem witness_CaptureResetValues : ∃ s : State, s.link.restart = .resetDue ∧ s.cap.state = .capturing :=
  ⟨{ capt with link := { capt.link with restart := .resetDue } }, by decide +kernel⟩

theorem witness_GainStageAndLevelCode : ∃ e b : Nat, 2 ^ b ≤ e / 320 ∧ e / 320 < 2 ^ (b + 1) ∧ e ≤ 343597383680 ∧
    (e = 343597383680) ∧ 319 / 320 = 0 := ⟨343597383680, 30, by decide +kernel⟩

/-- R19: a tick may come in STANDBY, and while CAPTURING at the first and at the last sample instant of a period. -/
theorem witness_SampleInstant : State.reset.tickFree = true ∧ capt.tickFree = true ∧ capt.capturing = true ∧
    (capt.chan 0).settings.enable = true ∧
    State.tickFree { capt with cap := { capt.cap with instant := 319 } } = true := by decide +kernel

/-- The tick waits in each of its four cases, at the first value that makes it due (R4, R121, R147). -/
theorem witness_SampleInstant_waits : edge.tickFree = false ∧
    State.tickFree { State.reset with trim := { State.reset.trim with engine := some ⟨0, .long, 0, 0⟩ } } = false ∧
    State.tickFree { State.reset with time := { State.reset.time with
      discipline := .acquiring, missingTimer := 24000 } } = false ∧
    State.tickFree { State.reset with time := { State.reset.time with
      discipline := .holdover, holdoverTimer := 57600000 } } = false := by decide +kernel

/-- R149: a step mark set before sample instant 0 of period 0 is cleared there, and the period does not carry STEPPED; period 1
does. -/
theorem test_period_zero_never_stepped : ∀ s : State, s = { capt with time := { capt.time with stepMark := true } } →
    (after (.sampleInstant (Vector.replicate 26 0#24)) s).cap.stamp.stepped = false ∧
    (after (.sampleInstant (Vector.replicate 26 0#24)) s).time.stepMark = false ∧
    (after (.sampleInstant (Vector.replicate 26 0#24)) { s with cap := { s.cap with period := 1 } }).cap.stamp.stepped
      = true := by
  rintro s rfl; decide +kernel

theorem witness_PeriodBoundary : edge.AtBoundary ∧
    State.AtBoundary { edge with store := { edge.store with lastCustody := 4294967245 } } := by decide +kernel

theorem witness_FinalBoundary :
    State.AtFinalBoundary { edge with cap := { edge.cap with closeRequest := true } } ∧
    State.AtFinalBoundary { edge with store := { edge.store with lastCustody := 4294967246 } } := by decide +kernel

theorem witness_SlotRequestsReclaimAndLevelState_requests : (∃ t, 0 < State.reset.store.free ∧ State.reset.slotRequest .shed = some t) ∧
    State.slotRequest { State.reset with store := { State.reset.store with free := 4096 } } .shed = none ∧
    (State.slotRequest { State.reset with store := { State.reset.store with free := 1025 } } .normal).isSome = true ∧
    State.slotRequest { State.reset with store := { State.reset.store with free := 1024 } } .normal = none ∧
    (State.slotRequest { State.reset with store := { State.reset.store with free := 1 } } .keep).isSome = true :=
  ⟨⟨_, by decide +kernel, rfl⟩, by decide +kernel⟩

theorem held_custodyLaw : held.CustodyLaw := by
  simp [State.CustodyLaw, Store.records, held, record, Record.custody, State.reset]

/-- Reclaim refused (nothing but a pinned slot), and reclaim of slot 2. -/
theorem witness_SlotRequestsReclaimAndLevelState_reclaim : held.CustodyLaw ∧ held.store.reclaim = true ∧
    (∃ h ∈ held.store.custody, h.pins = 0 ∧ h.releasePending = false ∧
      ∀ g ∈ held.store.custody, g.pins = 0 → g.releasePending = false → h.record.custody ≤ g.record.custody) ∧
    ∃ s : State, s.CustodyLaw ∧ s.store.reclaim = true ∧
      ∀ h ∈ s.store.custody, ¬ (h.pins = 0 ∧ h.releasePending = false) := by
  refine ⟨held_custodyLaw, by decide +kernel, ⟨_, .tail _ (.head _), by decide +kernel⟩,
    { held with store := { held.store with custody := [⟨record 1, 1, true⟩] } }, ?_, by decide +kernel,
    by decide +kernel⟩
  simp [State.CustodyLaw, Store.records, held, record, Record.custody, State.reset]

/-- One FULL marker slot: granted with a slot FREE, refused with none and reclaim off. -/
theorem witness_MarkerTaking : ∃ m : Markers, ({ State.reset with marks := m } : State).marks.fullEntries ≠ [] ∧
    State.reset.marks.fullEntries = [] ∧
    (State.slotRequest { State.reset with marks := m } .keep).isSome = true ∧
    State.slotRequest { State.reset with marks := m, store := { State.reset.store with free := 0 } } .keep = none :=
  ⟨{ State.reset.marks with slots := State.reset.marks.slots.set 7 (some ⟨.note, none, []⟩) }, by decide +kernel⟩

theorem witness_TablesListsAndPendingFields : ∃ x : Settings, x.openCode ≤ 30 ∧ 29 < x.openCode ∧ x.closeCode ≤ 26 ∧
    25 < x.closeCode ∧ 0 < x.hang ∧ ({ x with hang := 0 } : Settings).hang = 0 := ⟨Settings.reset, by decide⟩

/-- A trim that has run, with the map built: a result in range at each bound, and one beyond each. -/
theorem witness_TrimEndResult : ∃ (s : State) (e : Engine), s.trim.engine = some e ∧ e.remaining = 0 ∧
    s.trim.mapBuilt = true ∧ (640 * 24000 + 320) / 640 = 24000 ∧ (640 * 24001 + 320) / 640 > 24000 ∧
    ((-640 * 24000 + 320) / 640 : Int) = -24000 ∧ ((-640 * 24001 + 320) / 640 : Int) < -24000 :=
  ⟨{ capt with trim := { capt.trim with engine := some ⟨25, .short, 0, 640 * 24000⟩ } }, ⟨25, .short, 0, 640 * 24000⟩,
    by decide +kernel⟩

/-- The last start-up trim, with CV0 and CV25 out of range, so that CH0 takes CV24. -/
def lastTrim : State := { State.reset with trim := { State.reset.trim with
  convs := ((Vector.replicate 26 { Converter.reset with state := .spare, doneAt := some 1 }).set 0
    { Converter.reset with state := .faulted }).set 25 { Converter.reset with state := .trimming }
  engine := some ⟨25, .long, 0, 2560 * 24001⟩ } }

/-- The first start-up trim, its result at the upper bound, and the last one. -/
def firstTrim : State := { State.reset with trim := { State.reset.trim with
  engine := some ⟨0, .long, 0, 2560 * 24000⟩, trimClock := 2560 } }

theorem witness_StartUpTrims : (∃ e : Engine, lastTrim.trim.engine = some e ∧ e.remaining = 0 ∧ e.kind = .long ∧
      lastTrim.trim.mapBuilt = false ∧ e.conv = 25 ∧ ¬ (e.sum + 1280) / 2560 ≤ 24000) ∧
    (after .trimEnd lastTrim).convOf 0 = 24 ∧ (after .trimEnd lastTrim).convOf 1 = 1 ∧
    (after .trimEnd lastTrim).trim.mapBuilt = true ∧
    (∃ e : Engine, firstTrim.trim.engine = some e ∧ e.remaining = 0 ∧ e.kind = .long ∧ e.conv ≠ 25 ∧
      firstTrim.trim.mapBuilt = false ∧ (e.sum + 1280) / 2560 = 24000) ∧
    ((after .trimEnd firstTrim).conv 0).offset = 24000 ∧ ((after .trimEnd firstTrim).conv 0).doneAt = some 2560 ∧
    (after .trimEnd firstTrim).trim.engine = some ⟨1, .long, 2560, 0⟩ :=
  ⟨⟨⟨25, .long, 0, 2560 * 24001⟩, by decide +kernel⟩, by decide +kernel, by decide +kernel, by decide +kernel,
    ⟨⟨0, .long, 0, 2560 * 24000⟩, by decide +kernel⟩, by decide +kernel⟩

/-- R135 and R181: before the map is built the CONVERTER notice reports 255 for every channel; bytes 28 to 51 follow the kind,
an empty event list, the unlisted count and the 26 states. -/
theorem test_converter_notice_before_map : ((State.reset.noticePayload .converter).drop 29).take 24 =
    List.replicate 24 0xFF#8 ∧ ((ready.noticePayload .converter).drop 29).take 2 = [0, 1] := by decide +kernel

/-- Each source alone ready, and none. -/
theorem witness_LaneScan : ∃ r n b : State,
    (r.link.hold = false ∧ r.link.lane = none ∧ r.link.restart = .off ∧ r.link.replyQueue ≠ []) ∧
    (n.link.lane = none ∧ ∃ k, flagSet n.link.raised k = true ∧ flagSet n.link.enabled k = true) ∧
    (b.link.lane = none ∧ b.streamReady = true) ∧ State.reset.scanWinner = none ∧ r.scanWinner = some 0 ∧
    n.scanWinner = some 3 ∧ b.scanWinner = some 1 :=
  ⟨held, { State.reset with link := { State.reset.link with raised := 0x01#8 } },
    { State.reset with
      store := { State.reset.store with posted := [⟨record 1, 0⟩] }
      stream := { State.reset.stream with enable := true } },
    by decide +kernel, ⟨by decide +kernel, .link, by decide +kernel⟩, by decide +kernel⟩

/-- A scan won by the REREAD copy of a slot in custody (R58). -/
theorem witness_LaneScan_copy : held.CustodyLaw ∧ held.scanWinner = some 0 ∧ held.link.replyQueue = [.copy 1] ∧
    ∃ h ∈ held.store.custody, h.record.custody = 1 :=
  ⟨held_custodyLaw, by decide +kernel, by decide +kernel, _, .head _, by decide +kernel⟩

theorem witness_HoldRestartingAndFrameEnds_bars : ∃ a b c : State, a.link.hold = true ∧ b.link.restart = .replyGoing ∧
    c.link.hold = false ∧ c.link.lane = none ∧ ∃ r, c.link.restart = .replyDue r :=
  ⟨{ State.reset with link := { State.reset.link with hold := true } },
    { State.reset with link := { State.reset.link with restart := .replyGoing } },
    { State.reset with link := { State.reset.link with restart := .replyDue ⟨0, 0x05#8, .ok, []⟩ } },
    by decide +kernel, by decide +kernel, rfl, rfl, _, rfl⟩

/-- A lane that carries a frame of a use. -/
def carrying (s : State) (use : LaneUse) : State := { s with link := { s.link with lane := some ⟨use, []⟩ } }

theorem witness_HoldRestartingAndFrameEnds_ends :
    (∃ s : State, s.laneUse = some .first ∧ s.store.sending = some (record 1)) ∧
    (∃ (s : State) (r : Reply), s.laneUse = some .reply ∧ s.link.replyQueue = [.reply r]) ∧
    (carrying State.reset .restartReply).laneUse = some .restartReply ∧
    (carrying State.reset .notice).laneUse = some .notice :=
  ⟨⟨carrying { State.reset with store := { State.reset.store with sending := some (record 1) } } .first,
      by decide +kernel⟩,
    ⟨carrying { State.reset with link := { State.reset.link with replyQueue := rep 0x01#8 .ok } } .reply, _,
      by decide +kernel, rfl⟩, by decide +kernel, by decide +kernel⟩

/-- HOLD asserted over an idle lane at position 6, with one reply waiting. -/
def onHold : State :=
  { State.reset with link := { State.reset.link with hold := true, position := 6, replyQueue := rep 0x01#8 .ok } }

/-- 11.6: HOLD's release with the lane idle scans from entry 7 and starts the reply at entry 10; with a frame in progress it
starts nothing. -/
theorem test_hold_release_scans :
    (∃ t : State, execHoldRelease onHold = .next t ∧ t.link.hold = false ∧ t.link.position = 10 ∧
      t.laneUse = some .reply) ∧
    ∃ t : State, execHoldRelease (carrying onHold .notice) = .next t ∧ t.link.position = 6 ∧ t.laneUse = some .notice :=
  ⟨⟨_, rfl, by decide +kernel, by decide +kernel, by decide +kernel⟩, _, rfl, by decide +kernel, by decide +kernel⟩

/-- 11.6: a notice ends at position 3 with a reply and blocks waiting, and the scan takes the B of entry 4. -/
theorem test_notice_end_scans : ∃ t : State, execNoticeFrameEnd (carrying { State.reset with
      store := { State.reset.store with posted := [⟨record 1, 0⟩] }
      stream := { State.reset.stream with enable := true }
      link := { State.reset.link with position := 3, replyQueue := rep 0x01#8 .ok } } .notice) = .next t ∧
    t.link.position = 4 ∧ t.laneUse = some .first :=
  ⟨_, rfl, by decide +kernel, by decide +kernel⟩

/-- The last pin of a release-pending slot ends; so does a pin of a slot that is not release-pending. -/
theorem witness_RereadFrameEnd : (carrying held .reread).CustodyLaw ∧ (carrying held .reread).PinLaw ∧
    (carrying held .reread).laneUse = some .reread ∧ (carrying held .reread).link.replyQueue = [.copy 1] ∧
    (∃ h ∈ (carrying held .reread).store.custody, h.record.custody = 1 ∧ h.pins = 1 ∧ h.releasePending = true) ∧
    ∃ s : State, s.CustodyLaw ∧ s.PinLaw ∧ s.laneUse = some .reread ∧ s.link.replyQueue = [.copy 1] ∧
      ∃ h ∈ s.store.custody, h.record.custody = 1 ∧ h.releasePending = false := by
  refine ⟨held_custodyLaw, ?_, by decide +kernel, by decide +kernel, ⟨_, .head _, by decide +kernel⟩,
    carrying { held with store := { held.store with custody := [⟨record 1, 1, false⟩] } } .reread, ?_, ?_,
    by decide +kernel, by decide +kernel, _, .head _, by decide +kernel⟩
  · simp [State.PinLaw, held, carrying, record, Record.custody]
  · simp [State.CustodyLaw, Store.records, carrying, held, record, Record.custody, State.reset]
  · simp [State.PinLaw, held, carrying, record, Record.custody]

/-- The head age of 640 sample instants reaches a wait of 40 ms. -/
theorem witness_StreamReadiness : ∃ s : State, ∃ p rest, s.stream.enable = true ∧ s.store.posted = p :: rest ∧
    s.stream.wait = (s.ticks - p.postedAt) / 16 ∧ s.cap.state = .capturing :=
  ⟨{ capt with
    ticks := 640
    store := { capt.store with posted := [⟨record 1, 0⟩] }
    stream := ⟨true, 256, 40, 0⟩ }, _, _, by decide +kernel, rfl, by decide +kernel, by decide +kernel⟩

/-- A receiver inside a frame. -/
def assembling (s : State) : State := { s with link := { s.link with receiver := .assembling } }

theorem witness_ReceiverEvents : State.reset.link.receiver = .hunting ∧ (0xC4#8 : Byte) ≠ 0xC5#8 ∧
    (assembling State.reset).link.receiver = .assembling ∧ 1024 < (1025#16).toNat ∧
    State.reset.link.counters.get .gap < 65535 ∧
    ∃ k : Counters, 65535 ≤ k.get .stray := by
  refine ⟨?_, ?_, ?_, ?_, ?_, ⟨65535, 0, 0, 0, 0, 0, 0⟩, by decide⟩ <;> decide +kernel

/-- A frame of no payload accepted, against a full command queue, and against both queues full. -/
theorem witness_FrameComplete : ∃ good : Byte, good = crc8 (0x01#8 :: 0x00#8 :: (be 2 0 ++ [])) ∧
    (assembling State.reset).link.cmdQueue.length < 4 ∧
    ∃ s t : State, s.link.receiver = .assembling ∧ 4 ≤ s.link.cmdQueue.length ∧ s.link.replyQueue.length < 8 ∧
      t.link.receiver = .assembling ∧ 4 ≤ t.link.cmdQueue.length ∧ 8 ≤ t.link.replyQueue.length :=
  ⟨_, rfl, by decide +kernel,
    { State.reset with link := { State.reset.link with
      receiver := .assembling, cmdQueue := List.replicate 4 ⟨0, []⟩ } },
    { State.reset with link := { State.reset.link with
      receiver := .assembling, cmdQueue := List.replicate 4 ⟨0, []⟩, replyQueue := List.replicate 8 (.copy 0) } },
    by decide +kernel⟩

theorem test_frame_joins_queue : (after (.frameComplete 0x01#8 0x09#8 [0x01#8] (crc8 [0x01, 0x09, 0x00, 0x01, 0x01]))
    (assembling State.reset)).link.cmdQueue = [⟨0x09#8, [0x01#8]⟩] := by decide +kernel

/-- An ANSWERED entry behind a WAITING one, with room and without. -/
theorem witness_AnsweredEntry : ∃ (s t : State) (w e : Deferred) (r : Reply), s.link.deferred = [w] ++ e :: [] ∧
    w.answer = none ∧ e.answer = some r ∧ s.link.replyQueue.length < 8 ∧
    t.link.deferred = s.link.deferred ∧ 8 ≤ t.link.replyQueue.length :=
  ⟨{ State.reset with link := { State.reset.link with
      deferred := [⟨1, 0x11#8, .close, none⟩, ⟨2, 0x12#8, .settings, some ⟨2, 0x12#8, .ok, []⟩⟩] } },
    { State.reset with link := { State.reset.link with
      deferred := [⟨1, 0x11#8, .close, none⟩, ⟨2, 0x12#8, .settings, some ⟨2, 0x12#8, .ok, []⟩⟩]
      replyQueue := List.replicate 8 (.copy 0) } }, _, _, _, rfl, rfl, rfl, by decide +kernel, rfl, by decide +kernel⟩

/-- A head that names no command, and a RESTART of 2 bytes, with no room in the reply queue; the first waits too while
restarting. -/
theorem witness_WaitingHeads : ∀ full : List ReplyEntry, full = List.replicate 8 (.copy 0) →
    (after .unknownCommand (cmd { State.reset with link := { State.reset.link with replyQueue := full } } [0x06])
      ).link.replyQueue = full ∧
    (after .restart (cmd { State.reset with link := { State.reset.link with replyQueue := full } } [0x05, 0x00])
      ).link.replyQueue = full ∧
    (after .unknownCommand (cmd { State.reset with link := { State.reset.link with restart := .resetDue } } [0x06])
      ).link.replyQueue = [] := by
  rintro full rfl; decide +kernel

/-- An empty payload, a code of no command, and a wrong length for a few rows. -/
theorem witness_UnknownAndBadLength : (Command.mk 7 []).payload = [] ∧ (Command.mk 7 [0x06#8]).isUnknown = true ∧
    (after .unknownCommand (cmd State.reset [])).link.replyQueue = rep 0xFF#8 .unknown ∧
    (after .identify (cmd State.reset [0x01, 0x00])).link.replyQueue = rep 0x01#8 .badLength ∧
    (after .putMarker (cmd State.reset [0x40, 0, 1, 255, 1])).link.replyQueue = rep 0x40#8 .badLength ∧
    (after .readHeld (cmd State.reset [0x34])).link.replyQueue = rep 0x34#8 .badLength ∧
    (after .closeCapture (cmd State.reset [0x11])).link.replyQueue = rep 0x11#8 .badLength := by decide +kernel

theorem witness_StatusCommands : (Command.mk 7 [0x01]).Is 0x01#8 1 ∧ (Command.mk 7 [0x21]).Is 0x21#8 1 ∧
    (Command.mk 7 [0x41]).Is 0x41#8 1 ∧ (Command.mk 7 [0x51]).Is 0x51#8 1 ∧ (Command.mk 7 [0x31]).Is 0x31#8 1 ∧
    (Command.mk 7 [0x61]).Is 0x61#8 1 ∧ (Command.mk 7 [0x71]).Is 0x71#8 1 ∧ (Command.mk 7 [0x13, 23]).Is 0x13#8 2 ∧
    (Command.mk 7 [0x13, 23]).byte 1 = (23 : Chan).val ∧ 24 ≤ (Command.mk 7 [0x13, 24]).byte 1 := by decide +kernel

/-- The full-reset schedule is a sound one; a schedule of B alone is not. -/
theorem witness_LinkCommands : (∀ x : Source, ∃ i : Fin 16, Link.resetSchedule.get i = x) ∧
    (∃ x ∈ [0x52, 0x4E, 0x42], ∀ i ∈ List.range 16,
      (Command.mk 7 (0x04#8 :: List.replicate 16 0x42#8)).byte (1 + i) ≠ x) ∧
    (Command.mk 7 (0x04#8 :: List.replicate 16 0x42#8)).Is 0x04#8 17 ∧
    (Command.mk 7 [0x02, 2]).Is 0x02#8 2 ∧ 1 < (Command.mk 7 [0x02, 2]).byte 1 ∧
    (Command.mk 7 [0x02, 1]).byte 1 = 1 := by
  refine ⟨fun x => ?_, by decide +kernel⟩
  cases x
  · exact ⟨0, by decide +kernel⟩
  · exact ⟨3, by decide +kernel⟩
  · exact ⟨1, by decide +kernel⟩

theorem test_noticeMask : (after .noticeMask (cmd State.reset [0x03, 0x7F])).link.enabled = 0x7F#8 ∧
    (after .noticeMask (cmd State.reset [0x03, 0x7F])).link.replyQueue = rep 0x03#8 .ok [0x7F#8, 0x00#8] := by
  decide +kernel

/-- A RESTART behind a full reply queue executes; its reply counts the frame behind it. -/
theorem witness_Restart : ∃ (s : State) (g : Command), s.link.cmdQueue = ⟨7, [0x05#8]⟩ :: [g] ∧ s.link.restart = .off ∧
    s.link.replyQueue.length = 8 ∧
    (after .restart s).link.restart = .replyDue ⟨7, 0x05#8, .ok, [0x01#8, 0x00#8, 0x01#8]⟩ :=
  ⟨{ capt with link := { capt.link with
      cmdQueue := [⟨7, [0x05#8]⟩, ⟨8, []⟩], replyQueue := List.replicate 8 (.copy 0) } }, _,
    rfl, rfl, by decide +kernel, by decide +kernel⟩

/-- STANDBY with the map built, at both sides of the capture limit; STANDBY before the build; CAPTURING. -/
theorem witness_OpenCapture : ∃ s t : State, s.cap.state = .standby ∧ s.trim.mapBuilt = true ∧
    s.store.lastCustody + 1 ≤ 4294967246 ∧ t.cap.state = .standby ∧ t.trim.mapBuilt = true ∧
    4294967246 < t.store.lastCustody + 1 ∧ State.reset.trim.mapBuilt = false ∧ capt.cap.state = .capturing ∧
    (Command.mk 7 [0x10]).Is 0x10#8 1 :=
  ⟨{ State.reset with
      trim := { State.reset.trim with mapBuilt := true }
      store := { State.reset.store with lastCustody := 4294967245 } },
    { State.reset with
      trim := { State.reset.trim with mapBuilt := true }
      store := { State.reset.store with lastCustody := 4294967246 } }, by decide +kernel⟩

theorem test_openCapture : (after .openCapture (cmd (solo ready) [0x10])).link.replyQueue = rep 0x10#8 .ok [0x00, 0x01] ∧
    (after .openCapture (cmd (solo ready) [0x10])).cap.proceeding = .recess ∧
    ((after .openCapture (cmd (solo ready) [0x10])).chan 0).filling = some [] ∧
    (after .openCapture (cmd (solo ready) [0x10])).store.free = 65535 := by decide +kernel

/-- CAPTURING with a deferred CLOSE_CAPTURE. -/
def closing : State := { capt with link := { capt.link with deferred := [⟨1, 0x11#8, .close, none⟩] } }

theorem witness_CloseCapture :
    (cmd closing [0x11, 1]).Executes ⟨7, [0x11, 1]⟩ []
      (1 + ((cmd closing [0x11, 1]).link.deferred.filter fun e => e.request = .close).length) ∧
    closing.cap.state = .capturing ∧ 1 < (Command.mk 7 [0x11, 2]).byte 1 ∧ (Command.mk 7 [0x11, 1]).byte 1 ≤ 1 ∧
    (after .closeCapture (cmd closing [0x11, 1])).link.replyQueue = [.reply ⟨1, 0x11#8, .superseded, []⟩] ∧
    (after .closeCapture (cmd closing [0x11, 1])).link.deferred = [⟨7, 0x11#8, .close, none⟩] := by decide +kernel

/-- A SET_CHANNEL for CH0: open code 61, close code 0, hang 250, every other byte without meaning. -/
def setCodes : List Byte := [0x12, 0, 0, 1, 0x01, 0xC0, 9, 9, 9, 9, 9, 9, 9, 61, 0, 250, 1]

theorem witness_SetChannelRule_taken : ∃ (sel : PendingSettings) (option : Bool),
    setCodes = 0x12#8 :: (be 3 1 ++ be 2 sel.mask ++ [9, 9, 9, 9, 9, 9, 9, 61, 0, 250,
      if option = true then 0x01#8 else 0x00#8]) ∧ sel ≠ PendingSettings.empty ∧
    sel.openCode = some 61 ∧ sel.closeCode = some 0 ∧ sel.hang = some 250 ∧
    (((after .setChannel (cmd capt setCodes)).chan 0).pendingSettings = sel) ∧
    ((after .setChannel (cmd State.reset setCodes)).chan 0).settings = Settings.reset.over sel ∧
    (after .setChannel (cmd State.reset setCodes)).chan 1 = Channel.reset :=
  ⟨{ PendingSettings.empty with openCode := some 61, closeCode := some 0, hang := some 250 }, true, by decide +kernel⟩

/-- Every field selected at once. -/
theorem test_setChannel_all_fields : ((after .setChannel (cmd State.reset
      [0x12, 0x80, 0, 0, 0x01, 0xFF, 0, 0x12, 0x34, 2, 1, 0, 1, 40, 20, 7, 0])).chan 23).settings =
    ⟨false, 0x1234, .shed, true, false, true, 40, 20, 7⟩ := by decide +kernel

/-- One refused request for each reason. -/
theorem witness_SetChannelRule_refused :
    (∀ p ∈ [[0x12#8, 0, 0, 0, 0, 1, 0, 0, 0, 0, 0, 0, 0, 0, 0, 0, 0],
        [0x12, 0, 0, 1, 0, 0, 0, 0, 0, 0, 0, 0, 0, 0, 0, 0, 0], [0x12, 0, 0, 1, 2, 0, 0, 0, 0, 0, 0, 0, 0, 0, 0, 0, 0],
        [0x12, 0, 0, 1, 0, 2, 0, 0, 0, 0, 0, 0, 0, 0, 0, 0, 2], [0x12, 0, 0, 1, 0, 1, 2, 0, 0, 0, 0, 0, 0, 0, 0, 0, 0],
        [0x12, 0, 0, 1, 0, 4, 0, 0, 0, 3, 0, 0, 0, 0, 0, 0, 0], [0x12, 0, 0, 1, 0, 8, 0, 0, 0, 0, 2, 0, 0, 0, 0, 0, 0],
        [0x12, 0, 0, 1, 0, 64, 0, 0, 0, 0, 0, 0, 0, 62, 0, 0, 0], [0x12, 0, 0, 1, 1, 0, 0, 0, 0, 0, 0, 0, 0, 0, 0, 251, 0],
        [0x12, 0, 0, 1, 0, 128, 0, 0, 0, 0, 0, 0, 0, 0, 31, 0, 0]],
      (Command.mk 7 p).Is 0x12#8 17 ∧
      (after .setChannel (cmd State.reset p)).link.replyQueue = rep 0x12#8 .range) := by decide +kernel

theorem witness_PatternCommands_load : (Command.mk 7 (0x14#8 :: 3 :: List.replicate 640 0xFF#8)).Is 0x14#8 642 ∧
    (Command.mk 7 (0x14#8 :: 3 :: List.replicate 640 0xFF#8)).byte 1 = (3 : Fin 4).val ∧
    3 < (Command.mk 7 (0x14#8 :: 4 :: List.replicate 640 0#8)).byte 1 := by decide +kernel

/-- CAPTURING with a deferred ROUTE_PATTERN (request 0) pending on CH23. -/
def routed : State := { capt with
  cap := { capt.cap with nextRequest := 1 }
  chans := capt.chans.set 23 { Channel.reset with pendingRoute := some ⟨.page 0, 0⟩ }
  link := { capt.link with deferred := [⟨1, 0x15#8, .route 0, none⟩] } }

/-- A new route for CH23 overtakes the deferred request; one for CH0 leaves it. -/
theorem witness_PatternCommands_route :
    (cmd routed [0x15, 0x80, 0, 0, 255, 1]).Executes ⟨7, [0x15, 0x80, 0, 0, 255, 1]⟩ [] 2 ∧
    routed.cap.state = .capturing ∧ routed.recordState = false ∧ sess.recordState = true ∧
    (Command.mk 7 [0x15, 0x80, 0, 0, 255, 1]).num 1 3 ≠ 0 ∧
    (after .routePattern (cmd routed [0x15, 0x80, 0, 0, 255, 1])).link.replyQueue =
      [.reply ⟨1, 0x15#8, .superseded, []⟩] ∧
    (after .routePattern (cmd routed [0x15, 0x80, 0, 0, 255, 1])).link.deferred = [⟨7, 0x15#8, .route 1, none⟩] ∧
    (after .routePattern (cmd routed [0x15, 0, 0, 1, 0, 0])).link.replyQueue = rep 0x15#8 .accepted ∧
    (after .routePattern (cmd routed [0x15, 0, 0, 1, 4, 0])).link.replyQueue = rep 0x15#8 .range ∧
    (after .routePattern (cmd sess [0x15, 0, 0, 1, 0, 0])).link.replyQueue = rep 0x15#8 .state ∧
    ((after .routePattern (cmd State.reset [0x15, 0, 0, 1, 3, 0])).chan 0).route = .page 3 := by decide +kernel

/-- A request for SESSION discards the pending route and answers its request SUPERSEDED; one for RECESS is held already; one
for SIDEBAR is not allowed from RECESS. -/
theorem witness_SetProceeding :
    (cmd routed [0x20, 2, 1]).Executes ⟨7, [0x20, 2, 1]⟩ [] 2 ∧ transitionAllowed .recess .session = true ∧
    transitionAllowed .recess .sidebar = false ∧
    (after .setProceeding (cmd routed [0x20, 2, 1])).link.replyQueue = [.reply ⟨1, 0x15#8, .superseded, []⟩] ∧
    (after .setProceeding (cmd routed [0x20, 2, 1])).cap.pendingProceeding = some .session ∧
    (after .setProceeding (cmd routed [0x20, 2, 1])).link.deferred = [⟨7, 0x20#8, .proceeding .session, none⟩] ∧
    (after .setProceeding (cmd capt [0x20, 2, 0])).link.replyQueue = rep 0x20#8 .accepted [2, 1, 1, 2, 0, 0, 0, 0] ∧
    (after .setProceeding (cmd capt [0x20, 1, 0])).link.replyQueue = rep 0x20#8 .ok [1, 1, 0, 0, 0, 0, 0] ∧
    (after .setProceeding (cmd capt [0x20, 3, 0])).link.replyQueue = rep 0x20#8 .state ∧
    (after .setProceeding (cmd capt [0x20, 5, 0])).link.replyQueue = rep 0x20#8 .range ∧
    (after .setProceeding (cmd State.reset [0x20, 1, 0])).link.replyQueue = rep 0x20#8 .state := by decide +kernel

/-- With 7 entries in the reply queue, the SET_PROCEEDING that also answers a SUPERSEDED waits, and so does a request for the
state in force and a ROUTE_PATTERN that each answer one. -/
theorem witness_AnswersWait : ∀ s : State, s = { routed with link := { routed.link with
      replyQueue := List.replicate 7 (.copy 0) } } →
    (after .setProceeding (cmd s [0x20, 2, 1])).link.replyQueue.length = 7 ∧
    (after .routePattern (cmd s [0x15, 0x80, 0, 0, 0, 0])).link.replyQueue.length = 7 ∧
    (after .setProceeding (cmd { s with link := { s.link with
      deferred := [⟨1, 0x20#8, .proceeding .session, none⟩] } } [0x20, 1, 0])).link.replyQueue.length = 7 := by
  rintro s rfl; decide +kernel

/-- Taken and refused at the ends of the ranges. -/
theorem witness_ImmediateSettings :
    (after .storePolicy (cmd State.reset [0x30, 0xFF, 0xFF, 0xFF, 0xFF, 1])).store.keep = 65535 ∧
    (after .storePolicy (cmd State.reset [0x30, 0, 1, 0, 2, 1])).link.replyQueue = rep 0x30#8 .range ∧
    (after .streamControl (cmd State.reset [0x32, 1, 1, 0, 0x03, 0xE8])).stream = ⟨true, 256, 1000, 0⟩ ∧
    (after .streamControl (cmd State.reset [0x32, 1, 1, 1, 0, 0])).link.replyQueue = rep 0x32#8 .range ∧
    (after .floorConfig (cmd State.reset [0x50, 61, 50])).floor.margin = 61 ∧
    (after .floorConfig (cmd State.reset [0x50, 62, 1])).link.replyQueue = rep 0x50#8 .range ∧
    (after .trimConfig (cmd State.reset [0x60, 0x0E, 0x10, 0, 1])).trim.interval = 3600 ∧
    (after .trimConfig (cmd State.reset [0x60, 0x0E, 0x11, 0, 1])).link.replyQueue = rep 0x60#8 .range ∧
    (after .feedConfig (cmd State.reset [0x80, 0x18, 0, 255])).feed.masking = none ∧
    (after .feedConfig (cmd State.reset [0x80, 0x18, 0, 16])).link.replyQueue = rep 0x80#8 .range := by decide +kernel

/-- RELEASE up to 2 frees slot 2 and leaves slot 1, which is release-pending already; up to 3 it is refused. -/
theorem witness_Release : (Command.mk 7 [0x33, 0, 0, 0, 2]).num 1 4 = held.stream.lastSent ∧
    held.stream.lastSent < (Command.mk 7 [0x33, 0, 0, 0, 3]).num 1 4 ∧
    (after .release (cmd held [0x33, 0, 0, 0, 2])).store.custody = [⟨record 1, 1, true⟩] ∧
    (after .release (cmd held [0x33, 0, 0, 0, 2])).store.free = 65535 ∧
    (after .release (cmd held [0x33, 0, 0, 0, 2])).link.replyQueue =
      .copy 1 :: rep 0x33#8 .ok [0, 0, 0, 1, 0, 0, 0, 0, 0, 0, 0, 2] := by decide +kernel

theorem witness_ReadHeld : (cmd held [0x34, 0, 0, 0, 2]).CustodyLaw ∧
    (cmd held [0x34, 0, 0, 0, 2]).Executes ⟨7, [0x34, 0, 0, 0, 2]⟩ [] 2 ∧
    (∃ h ∈ held.store.custody, h.record.custody = 2) ∧ (∀ h ∈ held.store.custody, h.record.custody ≠ 3) ∧
    (after .readHeld (cmd held [0x34, 0, 0, 0, 2])).link.replyQueue =
      .copy 1 :: .copy 2 :: rep 0x34#8 .ok [0, 0, 0, 2, 1] :=
  ⟨held_custodyLaw, by decide +kernel⟩

theorem witness_PutMarker :
    (after .putMarker (cmd capt [0x40, 7, 6, 255, 0])).marks.slots.get 7 = some ⟨.note, none, []⟩ ∧
    (after .putMarker (cmd capt [0x40, 7, 1, 23, 1, 0x7E])).link.replyQueue = rep 0x40#8 .ok [7, 0, 0, 0, 0, 1] ∧
    (after .putMarker (cmd (after .putMarker (cmd capt [0x40, 7, 6, 255, 0])) [0x40, 7, 6, 255, 0])).link.replyQueue =
      rep 0x40#8 .ok [7, 0, 0, 0, 0, 1] ++ rep 0x40#8 .full ∧
    (∀ p ∈ [[0x40#8, 8, 1, 0, 0], [0x40, 0, 0, 0, 0], [0x40, 0, 7, 0, 0], [0x40, 0, 1, 24, 0], [0x40, 0, 1, 0, 1, 0x7F]],
      (after .putMarker (cmd capt p)).link.replyQueue = rep 0x40#8 .range) ∧
    (after .putMarker (cmd State.reset [0x40, 7, 6, 255, 0])).link.replyQueue = rep 0x40#8 .state := by decide +kernel

/-- CAPTURING with CV25 in a state. -/
def cv25 (s : State) (x : ConvState) : State := { s with trim := { s.trim with
  engine := none, convs := s.trim.convs.set 25 { Converter.reset with state := x } } }

theorem witness_TrimCommands :
    (after .trimNow (cmd (cv25 capt .serving) [0x62, 25])).trim.named = some 25 ∧
    (after .trimNow (cmd (cv25 capt .serving) [0x62, 25])).trim.rotation = .due ∧
    (after .trimNow (cmd (cv25 capt .spare) [0x62, 25])).trim.engine = some ⟨25, .short, 640, 0⟩ ∧
    (after .trimNow (cmd (cv25 capt .faulted) [0x62, 25])).link.replyQueue = rep 0x62#8 .state ∧
    (after .trimNow (cmd (cv25 State.reset .serving) [0x62, 25])).link.replyQueue = rep 0x62#8 .state ∧
    (after .trimNow (cmd State.reset [0x62, 26])).link.replyQueue = rep 0x62#8 .range ∧
    (after .converterRestore (cmd (cv25 capt .faulted) [0x63, 25])).trim.engine = some ⟨25, .long, 2560, 0⟩ ∧
    (after .converterRestore (cmd (cv25 capt .faulted) [0x63, 23])).link.replyQueue = rep 0x63#8 .state ∧
    (after .converterRestore (cmd (cv25 capt .spare) [0x63, 25])).link.replyQueue = rep 0x63#8 .state ∧
    (after .trimNow (cmd { cv25 capt .spare with trim := { (cv25 capt .spare).trim with rotation := .shadowing } }
      [0x62, 25])).link.replyQueue = rep 0x62#8 .notReady := by decide +kernel

/-- A timebase in a discipline state, with a held message for second 86,399 of day 65,535. -/
def timed (d : Discipline) (mark : Option Nat) : State := { State.reset with
  ticks := 16000
  time := { State.reset.time with
    discipline := d, refMark := mark, held := some ⟨65535, 86399⟩, good := if d = .acquiring then 3 else 0
    missingTimer := 24000, holdoverTimer := 57600000, lockHistory := d == .locked || d == .holdover } }

theorem witness_SetTime : (after .setTime (cmd State.reset [0x70, 0, 1, 0x52, 0x65, 0xBF, 0xFF])).time.instant =
      1382399999 ∧
    (after .setTime (cmd State.reset [0x70, 0, 1, 0x52, 0x65, 0xC0, 0x00])).link.replyQueue = rep 0x70#8 .range ∧
    (after .setTime (cmd (timed .locked (some 0)) [0x70, 0, 1, 0, 0, 0, 0])).link.replyQueue = rep 0x70#8 .state ∧
    (after .setTime (cmd (timed .acquiring (some 0)) [0x70, 0, 1, 0, 0, 0, 0])).link.replyQueue =
      rep 0x70#8 .ok [1, 1] := by decide +kernel

/-- Empty, well-formed and malformed lines, with and without the line feed of the line before. -/
theorem witness_TimeMessage :
    (after (.timeMessage []) State.reset).time.held = none ∧ (after (.timeMessage []) State.reset).time.malformed = 0 ∧
    (after (.timeMessage ([0x36, 0x35, 0x35, 0x33, 0x35, 0x2C, 0x38, 0x36, 0x33, 0x39, 0x39].map some)) State.reset).time.held
      = some ⟨65535, 86399⟩ ∧
    (after (.timeMessage ([0x36, 0x35, 0x35, 0x33, 0x36, 0x2C, 0x38, 0x36, 0x33, 0x39, 0x39].map some))
      State.reset).time.malformed = 1 ∧
    (after (.timeMessage [some 0x0A]) (after (.timeMessage []) State.reset)).time.malformed = 0 ∧
    (after (.timeMessage [some 0x0A]) State.reset).time.malformed = 1 ∧
    (after (.timeMessage [none]) State.reset).time.malformed = 1 := by decide +kernel

/-- The window's two ends, an opening pulse, an unnamed one and an off-window one. -/
theorem witness_Pulses : (timed .free none).time.held = some ⟨65535, 86399⟩ ∧ State.reset.time.held = none ∧
    (after (.trefPulse 0) (timed .acquiring (some (4096000 - 3686399)))).time.offWindow = 1 ∧
    (after (.trefPulse 0) (timed .acquiring (some 0))).time.discipline = .locked ∧
    (after (.trefPulse 0) (timed .acquiring (some (4096000 - 3686400)))).time.discipline = .acquiring ∧
    (after (.trefPulse 64) (timed .locked (some 0))).time.discipline = .locked ∧
    (after (.trefPulse 65) (timed .locked (some 0))).time.discipline = .acquiring ∧
    (after (.trefPulse 0) (timed .free none)).time.discipline = .acquiring ∧
    (after (.trefPulse 0) State.reset).time.unnamed = 1 := by decide +kernel

/-- R148: entry into LOCKED with court time UNSET steps it to the reference plus 1. -/
theorem test_lock_steps : (after (.trefPulse 0) (timed .acquiring (some 0))).time.isSet = true ∧
    (after (.trefPulse 0) (timed .acquiring (some 0))).time.instant = 1382384001 ∧
    (after (.trefPulse 0) (timed .acquiring (some 0))).time.steps = 1 := by decide +kernel

theorem witness_TimerExpiries : (after .missingPulse (timed .locked (some 0))).time.discipline = .holdover ∧
    (after .missingPulse (timed .acquiring (some 0))).time.discipline = .free ∧
    (after .missingPulse (timed .free none)).time.discipline = .free ∧
    (after .holdoverLimit (timed .holdover none)).time.discipline = .free ∧
    (after .holdoverLimit (timed .locked (some 0))).time.discipline = .locked := by decide +kernel

theorem witness_RecordLayouts : ∃ r : AudioRecord, r.samples.length = 320 :=
  ⟨⟨0, 0, 0, 0, 0, 0, 0, 0, .unset, .recess, ⟨false, false, false, false⟩, 0, 0, 0, .quiet, none, 0, 0, 0,
    List.replicate 320 0#16⟩, by decide +kernel⟩

/-! ## Witnesses: boundaries and laws -/

/-- The boundary of a capture in which CH0 and CH1 alone are enabled, with their blocks' energies, is due. -/
def duel (holder : Option Chan) (e0 e1 : Nat) : State := { edge with
  chans := ((Vector.replicate 24 { Channel.reset with settings := { Settings.reset with enable := false } }).set 0
    { Channel.reset with block := some ⟨e0, 0, 0⟩ }).set 1 { Channel.reset with block := some ⟨e1, 0, 0⟩ }
  floor := { edge.floor with holder := holder, takeover := 1 } }

/-- Each outcome of the floor decision: opened (the lowest number at equal codes), kept, takeover, handoff, lapse, and nobody. -/
theorem witness_FloorDecision : (duel none 0 0).AtBoundary ∧
    (after .periodBoundary (duel none 320000000 320000000)).floor.holder = some 0 ∧
    (after .periodBoundary (duel (some 1) 320000000 320000000)).floor.holder = some 1 ∧
    (after .periodBoundary (duel (some 1) 343597383680 320000000)).floor.holder = some 0 ∧
    (after .periodBoundary (duel (some 1) 320000000 0)).floor.log.map FloorRecord.cause = [.handoff] ∧
    (after .periodBoundary (duel (some 1) 0 0)).floor.log.map FloorRecord.cause = [.lapse] ∧
    (after .periodBoundary (duel none 0 0)).floor.holder = none := by decide +kernel

/-- A channel with a FILLING slot posts it; the requests of the new period are granted. -/
theorem test_boundary_posts : ∀ s : State, s = solo edge →
    ((after .periodBoundary { s with chans := s.chans.set 0 { s.chan 0 with
      filling := some [], lastSeq := some 0, seqCount := 1, settings := { (s.chan 0).settings with cls := .keep } } }
      ).store.posted.map fun p => p.record.custody) = [1] := by
  rintro s rfl; decide +kernel

/-- Every channel requests, CH23 at KEEP, with one FULL marker slot and 2 slots FREE: the marker and CH23 are granted. -/
def scarce (s : State) : State := { s with
  chans := (Vector.replicate 24 Channel.reset).set 23 { Channel.reset with settings := { Settings.reset with cls := .keep } }
  store := { s.store with free := 2, shed := 0, keep := 0 }
  marks := { s.marks with slots := s.marks.slots.set 7 (some ⟨.note, none, []⟩) } }

theorem test_allocation_in_class_order :
    ((scarce edge).store.run ((scarce edge).marks.request ++ audioRequests (scarce edge).newSettings)).1 =
      [none, some 23] ∧
    ((after .periodBoundary (scarce edge)).chan 23).filling = some [] ∧
    ((after .periodBoundary (scarce edge)).chan 0).gapTally = 1 ∧
    (after .periodBoundary (scarce edge)).marks.sequence = 1 ∧
    ((after .openCapture (cmd (scarce ready) [0x10])).chan 23).filling = some [] ∧
    ((after .openCapture (cmd (scarce ready) [0x10])).chan 0).starved = true := by decide +kernel

/-- A boundary is due with CV0 to CV23 SERVING, CV24 in SHADOW on CH0 and CV25 SPARE; only CH0 is enabled. -/
def rotating (sum mismatch : Nat) : State := { solo edge with
  chans := (solo edge).chans.set 0 { Channel.reset with mismatch := mismatch }
  trim := { edge.trim with
    convs := ((Vector.ofFn fun v : Conv => (⟨.serving, 0, some v.val, 0, 0, false⟩ : Converter)).set 24
      ⟨.shadow, 0, some 24, 0, 0, false⟩).set 25 ⟨.spare, 0, some 25, 0, 0, false⟩
    rotation := .shadowing, shadow := some ⟨24, 0, 0⟩, matchSum := sum } }

/-- The same with no rotation, CV24 SPARE too, and the timer about to expire. -/
def waiting : State := { rotating 0 0 with trim := { (rotating 0 0).trim with
  convs := (rotating 0 0).trim.convs.set 24 ⟨.spare, 0, some 24, 0, 0, false⟩
  rotation := .idle, shadow := none, timer := 29999 } }

/-- CV0 has given equal samples through this period and through the one before. -/
def stuck (s : State) : State := { s with trim := { s.trim with
  convs := s.trim.convs.set 0 { s.conv 0 with stuck := 1, runEqual := true } } }

/-- The converters of some channels FAULTED. -/
def broken (s : State) (l : List Conv) : State := s.mapConvs fun v x => if v ∈ l then { x with state := .faulted } else x

/-- A named target. -/
def naming (s : State) (v : Conv) : State := { s with trim := { s.trim with named := some v } }

/-- No rotation due yet; no channel enabled; CV25 still in a trim. -/
def early : State := { waiting with trim := { waiting.trim with timer := 29998 } }
def nobody : State := { waiting with
  chans := Vector.replicate 24 { Channel.reset with settings := { Settings.reset with enable := false } } }
def trimming : State := { waiting with trim := { waiting.trim with
  convs := waiting.trim.convs.set 25 ⟨.trimming, 0, none, 0, 0, false⟩, engine := some ⟨25, .long, 1, 0⟩ } }

/-- CV0 found stuck at a final boundary. -/
def ending : State := { stuck waiting with cap := { waiting.cap with closeRequest := true } }

/-- The states of the witnesses on converters keep the converters' law. -/
theorem rotating_trimLaw (s : State) (h : s ∈ [rotating 655360 0, stuck (rotating 0 0), broken (rotating 0 0) [1, 2, 3],
    waiting, naming waiting 0, naming waiting 1, broken waiting [1], broken waiting [1, 2], early, nobody, trimming,
    stuck waiting, ending]) :
    s.TrimLaw := by
  simp only [List.mem_cons, List.not_mem_nil, or_false] at h
  unfold State.TrimLaw Converter.Law
  rcases h with rfl | rfl | rfl | rfl | rfl | rfl | rfl | rfl | rfl | rfl | rfl | rfl | rfl <;> and_intros <;>
    decide +kernel

/-- The three outcomes of a match; the target found stuck; the spare in SHADOW taken as a replacement; and a rotation that
begins, with the oldest trim, with the named target, or with a named one dropped, or is not due, or finds no SPARE converter
left, no target or a busy engine. -/
theorem witness_Rotation : (rotating 655360 0).AtBoundary ∧
    (after .periodBoundary (rotating 655360 0)).convOf 0 = 24 ∧
    (after .periodBoundary (rotating 655360 0)).trim.engine = some ⟨0, .short, 640, 0⟩ ∧
    (after .periodBoundary (rotating 655361 0)).trim.engine = some ⟨24, .long, 2560, 0⟩ ∧
    ((after .periodBoundary (rotating 655361 1)).conv 0).state = .faulted ∧
    (stuck (rotating 0 0)).Faulty 0 ∧ (after .periodBoundary (stuck (rotating 0 0))).convOf 0 = 24 ∧
    (broken (rotating 0 0) [1, 2, 3]).spares.length < (broken (rotating 0 0) [1, 2, 3]).waiting.length ∧
    (after .periodBoundary (broken (rotating 0 0) [1, 2, 3])).trim.rotation = .due ∧
    (after .periodBoundary waiting).trim.shadow = some ⟨24, 0, 0⟩ ∧
    (after .periodBoundary (naming waiting 0)).trim.shadow = some ⟨24, 0, 0⟩ ∧
    (after .periodBoundary (naming waiting 1)).trim.shadow = some ⟨24, 0, 0⟩ ∧
    (after .periodBoundary early).trim.rotation = .idle ∧ (after .periodBoundary nobody).trim.rotation = .due ∧
    (after .periodBoundary trimming).trim.rotation = .due ∧
    (after .periodBoundary (broken waiting [1])).trim.shadow = some ⟨25, 0, 0⟩ ∧
    (broken waiting [1, 2]).spares.drop (broken waiting [1, 2]).waiting.length = [] ∧
    (after .periodBoundary (broken waiting [1, 2])).trim.rotation = .due := by decide +kernel

/-- CV25's trim ends at the boundary, taken by nobody, taken as a replacement, or out of range; one goes on. -/
theorem witness_TrimAtBoundary : ∀ s : Int → State, s = (fun sum => { trimming with trim := { trimming.trim with
      engine := some ⟨25, .long, 0, sum⟩ } }) →
    (s 0).AtBoundary ∧ Engine.EndsInRange ⟨25, .long, 0, 2560 * 24000⟩ ∧
    (after .periodBoundary (s (2560 * 24000))).conv 25 = ⟨.spare, 24000, some 0, 0, 0, false⟩ ∧
    ((after .periodBoundary (broken (s 0) [1, 2])).conv 25).state = .serving ∧
    ((after .periodBoundary (s (2560 * 24001))).conv 25).state = .faulted ∧
    (after .periodBoundary trimming).conv 25 = trimming.conv 25 ∧
    (after .periodBoundary trimming).trim.engine = trimming.trim.engine := by
  rintro s rfl; decide +kernel

/-- A converter found stuck at a boundary and at a final one; one with unequal samples; a channel disabled in the period. -/
theorem witness_Examination : (stuck waiting).AtBoundary ∧ (stuck waiting).FoundStuck 0 ∧ ¬ waiting.FoundStuck 0 ∧
    ((after .periodBoundary (stuck waiting)).conv 0).state = .faulted ∧
    (waiting.conv (waiting.convOf 1)).state = .serving ∧ (waiting.chan 1).settings.enable = false ∧
    ending.AtFinalBoundary ∧ ((after .finalBoundary ending).conv 0).state = .faulted ∧
    (after .finalBoundary ending).trim.events.length = 1 ∧
    ((after .periodBoundary (stuck (rotating 655361 0))).conv 0).stuck = 2 ∧
    ((after .periodBoundary ((rotating 655361 0).mapConvs fun _ x => { x with runEqual := true })).conv 0).stuck = 1 ∧
    (after .periodBoundary ((rotating 655361 0).mapConvs fun _ x => { x with runEqual := true })).convOf 0 = 0 := by
  decide +kernel

/-- STANDBY with three FAULTED converters and an OPEN_CAPTURE at the head of the command queue. -/
def opening : State := cmd { broken waiting [1, 2, 3] with
  cap := { waiting.cap with state := .standby, proceeding := .standby } } [0x10]

/-- Three FAULTED converters: CV25 and the one in SHADOW replace the first two, and the third channel joins the no-spare set;
the same without a rotation at an OPEN_CAPTURE. -/
theorem witness_Replacement : (broken (rotating 0 0) [1, 2, 3]).AtBoundary ∧
    (broken (rotating 0 0) [1, 2, 3]).waiting = [1, 2, 3] ∧ (broken (rotating 0 0) [1, 2, 3]).helpers = [25, 24] ∧
    (allChans.take 4).map (after .periodBoundary (broken (rotating 0 0) [1, 2, 3])).convOf = [0, 25, 24, 3] ∧
    ((after .periodBoundary (broken (rotating 0 0) [1, 2, 3])).chan 3).noSpare = true ∧
    opening.Executes ⟨7, [0x10]⟩ [] 1 ∧ opening.cap.state = .standby ∧ opening.trim.mapBuilt = true ∧
    (allChans.take 4).map (after .openCapture opening).convOf = [0, 24, 25, 3] ∧
    ((after .openCapture opening).chan 3).noSpare = true := by decide +kernel

/-- A state with a command in front. -/
def queued : State := { State.reset with pending := [.syncByte] }

theorem witness_step : ∃ t, step queued = .next t := ⟨_, rfl⟩

theorem witness_ProceedingLaw : queued.ProceedingLaw := by unfold State.ProceedingLaw; decide +kernel

theorem witness_ChannelLaw : queued.ChannelLaw := by
  refine ⟨by decide +kernel, by decide +kernel, fun c => ?_, by simp [Store.records, queued, State.reset]⟩
  have h : queued.chan c = Channel.reset := by simp [State.chan, queued, State.reset, Vector.get]
  rw [h]
  unfold Channel.Law Settings.InRange
  decide +kernel

theorem witness_StoreLaws : queued.SlotLaw ∧ queued.CustodyLaw ∧ queued.PinLaw := by
  unfold State.SlotLaw State.CustodyLaw State.PinLaw
  and_intros
  all_goals first | decide +kernel | simp [queued, State.reset]

theorem witness_FloorLaw : queued.FloorLaw := by unfold State.FloorLaw; decide +kernel

theorem witness_TrimLaw : queued.TrimLaw := by unfold State.TrimLaw Converter.Law; and_intros <;> decide +kernel

theorem witness_TimeLaw : queued.TimeLaw := by unfold State.TimeLaw; decide +kernel

theorem witness_LinkAndConfigLaw : queued.LinkLaw ∧ queued.ConfigLaw := by
  have schedule (x : Source) : ∃ i : Fin 16, queued.link.schedule.get i = x := by
    cases x
    · exact ⟨0, by decide +kernel⟩
    · exact ⟨3, by decide +kernel⟩
    · exact ⟨1, by decide +kernel⟩
  have idle (use : LaneUse) : queued.laneUse ≠ some use := by simp [queued, State.reset, State.laneUse]
  unfold State.LinkLaw State.ConfigLaw
  and_intros
  all_goals first | exact schedule | exact fun h => absurd h (idle _) | decide +kernel

end Sys2Proof.Tests
end

section
/-! SUPPORT. The ledger of the block store: what the laws of slots, custody numbers and pins read of a state, those laws
written about the ledger, and what each change of the ledger does to them (R26, R30, R31, R51, R58 to R60). -/

namespace Sys2Proof.Machine

/-! ## The ledger -/

/-- The custody number a REREAD copy names; a reply names none (R169). -/
def ReplyEntry.copied : ReplyEntry → Option Nat
  | .copy k => some k
  | .reply _ => none

/-- What the laws of the store read of the state. -/
structure Ledger where
  free : Nat
  /-- The channels that own a FILLING slot (R27). -/
  filling : Finset Chan
  posted : List Record
  sending : Option Record
  custody : List HeldSlot
  lastCustody : Nat
  lastSent : Nat
  /-- The custody numbers of the REREAD copies in the reply queue, oldest first (R58). -/
  copies : List Nat
  /-- A FIRST block frame is on the lane (R50). -/
  onLane : Bool
  capturing : Bool

/-- The ledger of a state. -/
def State.ledger (s : State) : Ledger where
  free := s.store.free
  filling := Finset.univ.filter fun c => (s.chan c).filling.isSome
  posted := s.store.posted.map PostedSlot.record
  sending := s.store.sending
  custody := s.store.custody
  lastCustody := s.store.lastCustody
  lastSent := s.stream.lastSent
  copies := s.link.replyQueue.filterMap ReplyEntry.copied
  onLane := s.laneUse == some .first
  capturing := s.capturing

namespace Ledger

/-- The slots of all five states (R26). -/
def slots (l : Ledger) : Nat :=
  l.free + l.filling.card + l.posted.length + l.sending.isSome.toNat + l.custody.length

/-- The custody numbers in custody, oldest first. -/
def held (l : Ledger) : List Nat := l.custody.map fun h => h.record.custody

/-- The custody numbers of the numbered slots: custody, SENDING, posted. -/
def numbers (l : Ledger) : List Nat := l.held ++ (l.sending.toList ++ l.posted).map Record.custody

/-- The order of custody numbers (R30, R31, R51). -/
structure Numbered (l : Ledger) : Prop where
  increasing : l.numbers.Pairwise (· < ·)
  issued : ∀ k ∈ l.numbers, 1 ≤ k ∧ k ≤ l.lastCustody
  sent : ∀ k ∈ l.held, k ≤ l.lastSent
  unsent : ∀ r ∈ l.sending.toList ++ l.posted, l.lastSent < r.custody
  lastSent_le : l.lastSent ≤ l.lastCustody

/-- The pins (R58 to R60). -/
structure Pinned (l : Ledger) : Prop where
  pins : ∀ h ∈ l.custody, h.pins = l.copies.count h.record.custody
  pending : ∀ h ∈ l.custody, h.releasePending = true → 0 < h.pins
  copies : ∀ k ∈ l.copies, k ∈ l.held

/-- The laws that hold between the parts of a boundary too, while `n` slots are accounted for. -/
structure Balanced (l : Ledger) (n : Nat) : Prop where
  numbered : l.Numbered
  pinned : l.Pinned
  lane : l.sending.isSome = l.onLane
  total : l.slots = n

/-- All the laws of the store. -/
structure Sound (l : Ledger) : Prop where
  balanced : l.Balanced 65536
  standby : l.capturing = false → l.filling = ∅
  limit : l.lastCustody ≤ 4294967295
  margin : l.capturing = true → l.lastCustody ≤ 4294967270

end Ledger

/-! ## The laws of the state are those of its ledger -/

theorem State.mem_ledger_filling {s : State} {c : Chan} :
    c ∈ s.ledger.filling ↔ (s.chan c).filling.isSome = true := by
  simp [State.ledger]

theorem State.ledger_filling_card (s : State) :
    s.ledger.filling.card = ((List.finRange 24).filter fun c => (s.chan c).filling.isSome).length := by
  simp [State.ledger, Finset.card, Finset.filter, Finset.univ, Fintype.elems, Multiset.filter_coe]

theorem State.ledger_capturing {s : State} : s.ledger.capturing = true ↔ s.cap.state = .capturing := by
  simp [State.ledger, State.capturing]

theorem State.ledger_standby {s : State} : s.ledger.capturing = false ↔ s.cap.state = .standby := by
  cases h : s.cap.state <;> simp [State.ledger, State.capturing, h]

theorem State.ledger_onLane {s : State} : s.ledger.onLane = true ↔ s.laneUse = some .first := by
  simp [State.ledger]

theorem State.ledger_numbers (s : State) : s.ledger.numbers = s.store.records.map Record.custody := by
  simp [State.ledger, Ledger.numbers, Ledger.held, Store.records, Function.comp_def]

theorem State.mem_ledger_copies {s : State} {k : Nat} : k ∈ s.ledger.copies ↔ .copy k ∈ s.link.replyQueue := by
  simp only [State.ledger, List.mem_filterMap]
  constructor
  · rintro ⟨e, he, hk⟩
    cases e <;> simp_all [ReplyEntry.copied]
  · exact fun h => ⟨_, h, rfl⟩

theorem count_copied (q : List ReplyEntry) (k : Nat) : (q.filterMap ReplyEntry.copied).count k = q.count (.copy k) := by
  induction q with
  | nil => rfl
  | cons e q ih =>
    cases e with
    | copy m => simp [ReplyEntry.copied, List.count_cons, ih]
    | reply r => simpa [List.filterMap_cons, ReplyEntry.copied] using ih

theorem slotLaw_iff (s : State) : s.SlotLaw ↔
    s.ledger.slots = 65536 ∧ s.ledger.sending.isSome = s.ledger.onLane ∧
      (s.ledger.capturing = false → s.ledger.filling = ∅) := by
  have hs : s.ledger.slots = s.store.free + ((List.finRange 24).filter fun c => (s.chan c).filling.isSome).length
      + s.store.posted.length + s.store.sending.isSome.toNat + s.store.custody.length := by
    rw [Ledger.slots, s.ledger_filling_card]
    simp [State.ledger]
  have lane : s.ledger.sending.isSome = s.ledger.onLane ↔
      (s.store.sending.isSome = true ↔ s.laneUse = some .first) := by
    rw [← State.ledger_onLane]
    exact Bool.eq_iff_iff
  rw [State.SlotLaw, hs, lane, State.ledger_standby, Finset.eq_empty_iff_forall_notMem]
  simp [State.mem_ledger_filling]

theorem custodyLaw_iff (s : State) : s.CustodyLaw ↔
    s.ledger.Numbered ∧ s.ledger.lastCustody ≤ 4294967295 ∧
      (s.ledger.capturing = true → s.ledger.lastCustody ≤ 4294967270) := by
  have issued : (∀ k ∈ s.ledger.numbers, 1 ≤ k ∧ k ≤ s.ledger.lastCustody) ↔
      ∀ r ∈ s.store.records, 1 ≤ r.custody ∧ r.custody ≤ s.store.lastCustody := by
    rw [s.ledger_numbers, List.forall_mem_map]
    rfl
  have sent : (∀ k ∈ s.ledger.held, k ≤ s.ledger.lastSent) ↔
      ∀ h ∈ s.store.custody, h.record.custody ≤ s.stream.lastSent := List.forall_mem_map
  have unsent : (∀ r ∈ s.ledger.sending.toList ++ s.ledger.posted, s.ledger.lastSent < r.custody) ↔
      (∀ r ∈ s.store.sending, s.stream.lastSent < r.custody) ∧
        ∀ p ∈ s.store.posted, s.stream.lastSent < p.record.custody := by
    simp [State.ledger, or_imp, forall_and]
  rw [State.CustodyLaw, ← s.ledger_numbers, ← issued, ← sent, ← State.ledger_capturing]
  constructor
  · rintro ⟨increasing, issued, sent, sending, posted, le, limit, margin⟩
    exact ⟨⟨increasing, issued, sent, unsent.mpr ⟨sending, posted⟩, le⟩, limit, margin⟩
  · rintro ⟨⟨increasing, issued, sent, later, le⟩, limit, margin⟩
    exact ⟨increasing, issued, sent, (unsent.mp later).1, (unsent.mp later).2, le, limit, margin⟩

theorem pinLaw_iff (s : State) : s.PinLaw ↔ s.ledger.Pinned := by
  have copies : (∀ k ∈ s.ledger.copies, k ∈ s.ledger.held) ↔
      ∀ e ∈ s.link.replyQueue, ∀ k, e = .copy k → ∃ h ∈ s.store.custody, h.record.custody = k := by
    simp only [State.mem_ledger_copies, Ledger.held, List.mem_map]
    exact ⟨fun h e he k hk => h k (hk ▸ he), fun h k hk => h _ hk k rfl⟩
  have pins : (∀ h ∈ s.ledger.custody, h.pins = s.ledger.copies.count h.record.custody) ↔
      ∀ h ∈ s.store.custody, h.pins = s.link.replyQueue.count (.copy h.record.custody) := by
    simp only [State.ledger, count_copied]
  rw [State.PinLaw, ← copies, ← pins]
  exact ⟨fun ⟨a, b, c⟩ => ⟨a, b, c⟩, fun ⟨a, b, c⟩ => ⟨a, b, c⟩⟩

/-- The three laws of the store are those of its ledger. -/
theorem storeLaws_iff (s : State) : s.SlotLaw ∧ s.CustodyLaw ∧ s.PinLaw ↔ s.ledger.Sound := by
  rw [slotLaw_iff, custodyLaw_iff, pinLaw_iff]
  constructor
  · rintro ⟨⟨total, lane, standby⟩, ⟨numbered, limit, margin⟩, pinned⟩
    exact ⟨⟨numbered, pinned, lane, total⟩, standby, limit, margin⟩
  · rintro ⟨⟨numbered, pinned, lane, total⟩, standby, limit, margin⟩
    exact ⟨⟨total, lane, standby⟩, ⟨numbered, limit, margin⟩, pinned⟩

/-! ## Changes of the ledger -/

namespace Ledger

/-- A record joins the tail of the posted queue (R28, R30). -/
def post (l : Ledger) (r : Record) : Ledger :=
  { l with posted := l.posted ++ [r], lastCustody := l.lastCustody + 1 }

/-- A channel gets a FILLING slot (R9). -/
def grant (l : Ledger) (c : Chan) : Ledger := { l with filling := insert c l.filling }

/-- A channel gives up its FILLING slot (R5). -/
def vacate (l : Ledger) (c : Chan) : Ledger := { l with filling := l.filling.erase c }

/-- What a granted request takes: a FREE slot, or a slot of custody that reclaim may take (R33, R35). -/
def Gives (l l' : Ledger) : Prop :=
  (0 < l.free ∧ l' = { l with free := l.free - 1 }) ∨
    ∃ a x b, l.custody = a ++ x :: b ∧ x.eligible = true ∧ l' = { l with custody := a ++ b }

/-- A FIRST frame of the record `r` begins, the head of a posted queue with the rest `rest` (R50). -/
def send (l : Ledger) (r : Record) (rest : List Record) : Ledger :=
  { l with posted := rest, sending := some r, onLane := true }

/-- The FIRST frame of the record `r` has ended: its slot joins custody (R51). -/
def arrive (l : Ledger) (r : Record) : Ledger :=
  { l with sending := none, custody := l.custody ++ [⟨r, 0, false⟩], lastSent := r.custody, onLane := false }

variable {l l' : Ledger} {n : Nat}

theorem mem_numbers {k : Nat} :
    k ∈ l.numbers ↔ k ∈ l.held ∨ ∃ r ∈ l.sending.toList ++ l.posted, r.custody = k := by
  simp only [numbers, List.mem_append, List.mem_map]

/-- A custody list whose numbers are among those it had, in the same order, keeps the order of custody numbers. -/
theorem Numbered.ofCustody (h : l.Numbered) {q : List HeldSlot}
    (hq : (q.map fun x => x.record.custody).Sublist l.held) (free : Nat) (copies : List Nat) :
    Numbered { l with custody := q, free := free, copies := copies } where
  increasing := h.increasing.sublist (hq.append (List.Sublist.refl _))
  issued k hk := by
    refine h.issued k (mem_numbers.mpr ?_)
    rcases mem_numbers.mp hk with hk | hk
    · exact .inl (hq.subset hk)
    · exact .inr hk
  sent k hk := h.sent k (hq.subset hk)
  unsent := h.unsent
  lastSent_le := h.lastSent_le

/-- Of a change of FREE slots, FILLING slots and capture state only the number of slots matters. -/
theorem Balanced.ofSlots {m : Nat} (h : l.Balanced m) (free : Nat) (filling : Finset Chan) (capturing : Bool)
    (total : slots { l with free := free, filling := filling, capturing := capturing } = n) :
    Balanced { l with free := free, filling := filling, capturing := capturing } n where
  numbered := ⟨h.numbered.increasing, h.numbered.issued, h.numbered.sent, h.numbered.unsent, h.numbered.lastSent_le⟩
  pinned := ⟨h.pinned.pins, h.pinned.pending, h.pinned.copies⟩
  lane := h.lane
  total := total

theorem Balanced.withCapturing (h : l.Balanced n) (b : Bool) : Balanced { l with capturing := b } n :=
  h.ofSlots _ _ b h.total

theorem Balanced.post (h : l.Balanced n) {r : Record} (hr : r.custody = l.lastCustody + 1) :
    (l.post r).Balanced (n + 1) := by
  have hn : (l.post r).numbers = l.numbers ++ [l.lastCustody + 1] := by
    simp [Ledger.post, numbers, held, hr]
  refine ⟨⟨?_, ?_, h.numbered.sent, ?_, ?_⟩, ⟨h.pinned.pins, h.pinned.pending, h.pinned.copies⟩, h.lane, ?_⟩
  · rw [hn, List.pairwise_append]
    refine ⟨h.numbered.increasing, List.pairwise_singleton _ _, fun k hk m hm => ?_⟩
    have := h.numbered.issued k hk
    have := List.mem_singleton.mp hm
    omega
  · rw [hn]
    intro k hk
    simp only [Ledger.post]
    rcases List.mem_append.mp hk with hk | hk
    · have := h.numbered.issued k hk
      omega
    · have := List.mem_singleton.mp hk
      omega
  · intro x hx
    simp only [Ledger.post, ← List.append_assoc, List.mem_append, List.mem_singleton] at hx
    rcases hx with hx | rfl
    · exact h.numbered.unsent x (List.mem_append.mpr hx)
    · have := h.numbered.lastSent_le
      simp only [Ledger.post]
      omega
  · exact Nat.le_succ_of_le h.numbered.lastSent_le
  · have := h.total
    simp only [slots, Ledger.post, List.length_append, List.length_singleton] at this ⊢
    omega

theorem Balanced.grant (h : l.Balanced n) {c : Chan} (hc : c ∉ l.filling) : (l.grant c).Balanced (n + 1) := by
  refine h.ofSlots _ _ _ ?_
  have := h.total
  simp only [slots, Finset.card_insert_of_notMem hc] at this ⊢
  omega

theorem Balanced.vacate (h : l.Balanced (n + 1)) {c : Chan} (hc : c ∈ l.filling) : (l.vacate c).Balanced n := by
  refine h.ofSlots _ _ _ ?_
  have := h.total
  have := Finset.card_erase_add_one hc
  simp only [slots] at *
  omega

theorem Pinned.not_copied (h : l.Pinned) {x : HeldSlot} (hx : x ∈ l.custody) (hp : x.pins = 0) :
    x.record.custody ∉ l.copies := by
  rw [← List.count_eq_zero, ← h.pins x hx, hp]

theorem Gives.balanced (g : l.Gives l') (h : l.Balanced (n + 1)) : l'.Balanced n := by
  have total := h.total
  rcases g with ⟨hf, rfl⟩ | ⟨a, x, b, hc, hx, rfl⟩
  · refine h.ofSlots _ _ _ ?_
    simp only [slots] at total ⊢
    omega
  · have sub : (a ++ b).Sublist l.custody := hc ▸ (List.sublist_cons_self x b).append_left a
    refine ⟨h.numbered.ofCustody (sub.map _) _ _, ⟨fun y hy => h.pinned.pins y (sub.subset hy),
      fun y hy => h.pinned.pending y (sub.subset hy), fun k hk => ?_⟩, h.lane, ?_⟩
    · have hx0 : x.record.custody ∉ l.copies :=
        h.pinned.not_copied (by simp [hc]) (by simpa using (Bool.and_eq_true_iff.mp hx).1)
      have hk' := h.pinned.copies k hk
      have hne : k ≠ x.record.custody := fun e => hx0 (e ▸ hk)
      simpa [held, hc, hne] using hk'
    · simp only [slots, hc, List.length_append, List.length_cons] at total ⊢
      omega

@[simp] theorem post_filling (r : Record) : (l.post r).filling = l.filling := rfl
@[simp] theorem post_lastCustody (r : Record) : (l.post r).lastCustody = l.lastCustody + 1 := rfl
@[simp] theorem post_capturing (r : Record) : (l.post r).capturing = l.capturing := rfl
@[simp] theorem grant_lastCustody (c : Chan) : (l.grant c).lastCustody = l.lastCustody := rfl
@[simp] theorem grant_filling (c : Chan) : (l.grant c).filling = insert c l.filling := rfl
@[simp] theorem grant_capturing (c : Chan) : (l.grant c).capturing = l.capturing := rfl
@[simp] theorem vacate_filling (c : Chan) : (l.vacate c).filling = l.filling.erase c := rfl
@[simp] theorem vacate_lastCustody (c : Chan) : (l.vacate c).lastCustody = l.lastCustody := rfl
@[simp] theorem vacate_capturing (c : Chan) : (l.vacate c).capturing = l.capturing := rfl

theorem Gives.frame (g : l.Gives l') :
    l'.filling = l.filling ∧ l'.lastCustody = l.lastCustody ∧ l'.capturing = l.capturing := by
  rcases g with ⟨-, rfl⟩ | ⟨a, x, b, -, -, rfl⟩ <;> exact ⟨rfl, rfl, rfl⟩

theorem Balanced.send (h : l.Balanced n) (hl : l.onLane = false) {r : Record} {rest : List Record}
    (hp : l.posted = r :: rest) : (l.send r rest).Balanced n := by
  have hs : l.sending = none := by simpa [hl] using h.lane
  have queue : (l.send r rest).sending.toList ++ (l.send r rest).posted = l.sending.toList ++ l.posted := by
    simp [Ledger.send, hs, hp]
  have hn : (l.send r rest).numbers = l.numbers := by rw [numbers, queue]; rfl
  refine ⟨⟨hn ▸ h.numbered.increasing, hn ▸ h.numbered.issued, h.numbered.sent, queue ▸ h.numbered.unsent,
    h.numbered.lastSent_le⟩, ⟨h.pinned.pins, h.pinned.pending, h.pinned.copies⟩, rfl, ?_⟩
  have := h.total
  simp [slots, Ledger.send, hs, hp] at this ⊢
  omega

theorem Balanced.arrive (h : l.Balanced n) {r : Record} (hs : l.sending = some r) : (l.arrive r).Balanced n := by
  have hn : (l.arrive r).numbers = l.numbers := by simp [numbers, held, Ledger.arrive, hs]
  have order := h.numbered.increasing
  simp only [numbers, hs, List.pairwise_append, Option.toList_some, List.singleton_append, List.map_cons,
    List.pairwise_cons, List.mem_cons, List.mem_map] at order
  obtain ⟨-, ⟨later, -⟩, earlier⟩ := order
  have hr := h.numbered.unsent r (by simp [hs])
  have fresh : r.custody ∉ l.copies := fun hk =>
    absurd (h.numbered.sent _ (h.pinned.copies _ hk)) (by omega)
  refine ⟨⟨hn ▸ h.numbered.increasing, hn ▸ h.numbered.issued, ?_, ?_, ?_⟩, ⟨?_, ?_, ?_⟩, rfl, ?_⟩
  · intro k hk
    simp only [held, Ledger.arrive, List.map_append, List.mem_append, List.map_singleton, List.mem_singleton] at hk ⊢
    rcases hk with hk | rfl
    · exact (earlier k hk _ (.inl rfl)).le
    · exact le_rfl
  · intro x hx
    exact later _ ⟨x, by simpa [Ledger.arrive] using hx, rfl⟩
  · exact (h.numbered.issued r.custody (mem_numbers.mpr (.inr ⟨r, by simp [hs], rfl⟩))).2
  · intro x hx
    rcases List.mem_append.mp hx with hx | hx
    · exact h.pinned.pins x hx
    · obtain rfl := List.mem_singleton.mp hx
      exact (List.count_eq_zero.mpr fresh).symm
  · intro x hx
    rcases List.mem_append.mp hx with hx | hx
    · exact h.pinned.pending x hx
    · obtain rfl := List.mem_singleton.mp hx
      exact fun hp => absurd hp Bool.false_ne_true
  · intro k hk
    simpa [held, Ledger.arrive] using .inl (by simpa [held] using h.pinned.copies k hk)
  · have := h.total
    simp [slots, Ledger.arrive, hs] at this ⊢
    omega

end Ledger

end Sys2Proof.Machine
end

section
/-! SUPPORT. The operations of the state that leave the ledger of the store alone, and what the operations on slots make
of it. -/

namespace Sys2Proof.Machine

variable (s : State)

/-! ## Channels -/

/-- A state with the store, the lane, the reply queue and the FILLING slots of another has its ledger. -/
theorem State.ledger_congr {s t : State} (store : t.store = s.store)
    (filling : ∀ c, (t.chan c).filling.isSome = (s.chan c).filling.isSome)
    (lastSent : t.stream.lastSent = s.stream.lastSent) (queue : t.link.replyQueue = s.link.replyQueue)
    (lane : t.link.lane = s.link.lane) (state : t.cap.state = s.cap.state) : t.ledger = s.ledger := by
  simp only [State.ledger, State.laneUse, State.capturing, store, filling, lastSent, queue, lane, state]

/-- Changing channels without their slots. -/
theorem State.ledger_mapChans (f : Chan → Channel → Channel)
    (h : ∀ c, (f c (s.chan c)).filling.isSome = (s.chan c).filling.isSome) : (s.mapChans f).ledger = s.ledger :=
  State.ledger_congr (s.mapChans_store f) (fun c => by rw [State.chan_mapChans, h])
    (congrArg Stream.lastSent (s.mapChans_stream f)) (congrArg Link.replyQueue (s.mapChans_link f))
    (congrArg Link.lane (s.mapChans_link f)) (congrArg Capture.state (s.mapChans_cap f))

theorem State.ledger_modChan (c : Chan) (f : Channel → Channel)
    (h : (f (s.chan c)).filling.isSome = (s.chan c).filling.isSome) : (s.modChan c f).ledger = s.ledger := by
  refine State.ledger_congr rfl (fun d => ?_) rfl rfl rfl rfl
  rw [State.chan_modChan]
  split
  · next hd => rw [h, hd]
  · rfl

/-- A channel that gets a slot. -/
theorem State.ledger_modChan_grant (c : Chan) (f : Channel → Channel)
    (h : (f (s.chan c)).filling.isSome = true) : (s.modChan c f).ledger = s.ledger.grant c := by
  simp only [State.ledger, Ledger.grant, State.modChan_store, State.modChan_stream, State.modChan_link, Ledger.mk.injEq,
    true_and]
  refine ⟨Finset.ext fun d => ?_, rfl, rfl⟩
  rw [Finset.mem_insert, Finset.mem_filter, Finset.mem_filter, State.chan_modChan]
  by_cases hd : d = c <;> simp [hd, h]

/-- A channel that gives up its slot. -/
theorem State.ledger_modChan_vacate (c : Chan) (f : Channel → Channel) (h : (f (s.chan c)).filling = none) :
    (s.modChan c f).ledger = s.ledger.vacate c := by
  simp only [State.ledger, Ledger.vacate, State.modChan_store, State.modChan_stream, State.modChan_link,
    Ledger.mk.injEq, true_and]
  refine ⟨Finset.ext fun d => ?_, rfl, rfl⟩
  rw [Finset.mem_erase, Finset.mem_filter, Finset.mem_filter, State.chan_modChan]
  by_cases hd : d = c <;> simp [hd, h]

/-! ## Blocks beside the store -/

@[simp] theorem State.ledger_withMarks (m : Markers) : { s with marks := m }.ledger = s.ledger := rfl
@[simp] theorem State.ledger_withFloor (x : Floor) : { s with floor := x }.ledger = s.ledger := rfl
@[simp] theorem State.ledger_withTrim (x : TrimUnit) : { s with trim := x }.ledger = s.ledger := rfl
@[simp] theorem State.ledger_withTime (x : Timebase) : { s with time := x }.ledger = s.ledger := rfl
@[simp] theorem State.ledger_withFeed (x : Feed) : { s with feed := x }.ledger = s.ledger := rfl

theorem State.ledger_withCap (k : Capture) (h : k.state = s.cap.state) : { s with cap := k }.ledger = s.ledger :=
  State.ledger_congr rfl (fun _ => rfl) rfl rfl rfl h

theorem State.ledger_withPeriod (p : Nat) : { s with cap := { s.cap with period := p } }.ledger = s.ledger := rfl
theorem State.ledger_withInstant (i : Nat) : { s with cap := { s.cap with instant := i } }.ledger = s.ledger := rfl

theorem State.ledger_withFloorNotice (x : Floor) (i : Nat) (k : Option CaptureContents) :
    { s with floor := x, cap := { s.cap with instant := i, notice := k } }.ledger = s.ledger := rfl

theorem State.ledger_withLink (k : Link) (queue : k.replyQueue = s.link.replyQueue) (lane : k.lane = s.link.lane) :
    { s with link := k }.ledger = s.ledger :=
  State.ledger_congr rfl (fun _ => rfl) rfl queue lane rfl

/-! ## Notices and replies -/

@[simp] theorem State.ledger_raise (k : NoticeKind) : (s.raise k).ledger = s.ledger := rfl
@[simp] theorem State.ledger_lower (k : NoticeKind) : (s.lower k).ledger = s.ledger := rfl
@[simp] theorem State.ledger_addChange (e : ProceedingChange) : (s.addChange e).ledger = s.ledger := rfl
@[simp] theorem State.ledger_addConverter (e : ConverterEntry) : (s.addConverter e).ledger = s.ledger := rfl
@[simp] theorem State.ledger_addTime (e : TimeEntry) : (s.addTime e).ledger = s.ledger := rfl
@[simp] theorem State.ledger_addTaking (e : Taking) : (s.addTaking e).ledger = s.ledger := rfl

@[simp] theorem State.ledger_addFloor (e : FloorRecord) : (s.addFloor e).ledger = s.ledger := by
  unfold State.addFloor; split <;> rfl

@[simp] theorem State.ledger_count (k : CounterName) : (s.count k).ledger = s.ledger := by
  rcases count_cases s k with ⟨-, h⟩ | ⟨-, h⟩ <;> rw [h]
  rfl

/-- A reply in the reply queue is no copy of a slot. -/
@[simp] theorem State.ledger_enqueue_reply (r : Reply) : (s.enqueue (.reply r)).ledger = s.ledger := by
  have : [ReplyEntry.reply r].filterMap ReplyEntry.copied = [] := rfl
  simp only [State.ledger, State.enqueue, List.filterMap_append, this, List.append_nil]
  rfl

@[simp] theorem State.ledger_reply (f : Command) (r : Result) (data : List Byte) :
    (s.reply f r data).ledger = s.ledger := s.ledger_enqueue_reply _

/-- A copy of a slot in the reply queue (R58). -/
theorem State.ledger_enqueue_copy (k : Nat) :
    (s.enqueue (.copy k)).ledger = { s.ledger with copies := s.ledger.copies ++ [k] } := by
  simp only [State.ledger, State.enqueue, List.filterMap_append]
  rfl

@[simp] theorem State.ledger_answerTaken (f : Command) (o : Bool) (q : Request) (data : List Byte) :
    (s.answerTaken f o q data).ledger = s.ledger := by
  rcases answerTaken_cases s f o q data with ⟨-, -, h⟩ | ⟨-, h⟩ <;> rw [h]
  · rfl
  · exact s.ledger_reply _ _ _

theorem copied_replies {α : Type} (l : List α) (f : α → Reply) :
    (l.map fun e => ReplyEntry.reply (f e)).filterMap ReplyEntry.copied = [] := by
  simp [ReplyEntry.copied]

@[simp] theorem State.ledger_supersede (p : Deferred → Bool) (data : Deferred → List Byte) :
    (s.supersede p data).ledger = s.ledger := by
  simp only [State.ledger, State.supersede, List.filterMap_append, copied_replies, List.append_nil]
  rfl

@[simp] theorem State.ledger_answerAtBoundary (a : Deferred → Option Reply) :
    (s.answerAtBoundary a).ledger = s.ledger := rfl

@[simp] theorem State.ledger_popCommand : s.popCommand.ledger = s.ledger := rfl
@[simp] theorem State.ledger_receive (r : Receiver) : (s.receive r).ledger = s.ledger := rfl

/-! ## Converters and the trim unit -/

@[simp] theorem State.ledger_modConv (v : Conv) (f : Converter → Converter) : (s.modConv v f).ledger = s.ledger := rfl
@[simp] theorem State.ledger_mapConvs (f : Conv → Converter → Converter) : (s.mapConvs f).ledger = s.ledger :=
  s.ledger_withTrim _

@[simp] theorem State.ledger_startTrim (v : Conv) (k : TrimKind) : (s.startTrim v k).ledger = s.ledger := rfl
@[simp] theorem State.ledger_serve (c : Chan) (v : Conv) : (s.serve c v).ledger = s.ledger := rfl
@[simp] theorem State.ledger_endRotation (r : RotationState) : (s.endRotation r).ledger = s.ledger := rfl
@[simp] theorem State.ledger_abandonRotation : s.abandonRotation.ledger = s.ledger :=
  (State.ledger_withTrim _ _).trans (s.ledger_mapConvs _)

@[simp] theorem State.ledger_clearStuck : s.clearStuck.ledger = s.ledger := s.ledger_mapConvs _
@[simp] theorem State.ledger_advanceTimer : s.advanceTimer.ledger = s.ledger := rfl

@[simp] theorem State.ledger_joinNoSpare (p : Nat) (c : Chan) : (s.joinNoSpare p c).ledger = s.ledger := by
  rcases joinNoSpare_cases s p c with ⟨-, h⟩ | ⟨-, h⟩ <;> rw [h]
  rw [State.ledger_addConverter, State.ledger_modChan _ _ _ rfl]

@[simp] theorem State.ledger_handOver (p : Nat) (c : Chan) (v : Conv) (k : ConverterCause) :
    (s.handOver p c v k).ledger = s.ledger := by
  rw [State.handOver, State.ledger_addConverter, State.ledger_modChan _ _ _ rfl, State.ledger_serve]

@[simp] theorem State.ledger_mapChannel (p : Nat) (c : Chan) : (State.mapChannel p s c).ledger = s.ledger := by
  simp only [State.mapChannel]
  split_ifs <;> simp

@[simp] theorem State.ledger_buildMap (p : Nat) : (s.buildMap p).ledger = s.ledger := by
  rw [State.buildMap, State.ledger_withTrim]
  exact foldl_frame (g := State.ledger) (fun t c => t.ledger_mapChannel p c) allChans s

@[simp] theorem State.ledger_afterTrim (p : Nat) (v : Conv) : (s.afterTrim p v).ledger = s.ledger := by
  unfold State.afterTrim
  split_ifs <;> simp

@[simp] theorem State.ledger_completeTrim (p : Nat) : (s.completeTrim p).ledger = s.ledger := by
  rcases completeTrim_cases s p with ⟨-, h⟩ | ⟨e, -, ⟨-, -, h⟩ | ⟨-, h⟩⟩ <;> rw [h] <;> simp

@[simp] theorem State.ledger_examine (p : Nat) (v : Conv) : (State.examine p s v).ledger = s.ledger := by
  rcases examine_cases p s v with h | ⟨c, -, -, h | ⟨-, h⟩ | ⟨-, h⟩⟩ <;> rw [h] <;> simp

@[simp] theorem State.ledger_stuckExamination (p : Nat) : (s.stuckExamination p).ledger = s.ledger :=
  foldl_frame (g := State.ledger) (fun t v => t.ledger_examine p v) allConvs s

@[simp] theorem State.ledger_replace (p : Nat) (c : Chan) : (State.replace p s c).ledger = s.ledger := by
  rcases replace_cases p s c with ⟨-, h⟩ | ⟨-, ⟨v, -, h⟩ | ⟨-, r, -, h⟩ | ⟨-, -, h⟩⟩ <;> rw [h]
  · exact s.ledger_handOver _ _ _ _
  · rw [State.ledger_withTrim, State.ledger_endRotation, State.ledger_handOver]
  · exact s.ledger_joinNoSpare _ _

@[simp] theorem State.ledger_replaceTarget (p : Nat) : (s.replaceTarget p).ledger = s.ledger := by
  unfold State.replaceTarget
  split
  · rfl
  · split_ifs <;> simp

@[simp] theorem State.ledger_replaceFaulted (p : Nat) (en : Chan → Bool) :
    (s.replaceFaulted p en).ledger = s.ledger :=
  (foldl_frame (g := State.ledger) (fun t c => t.ledger_replace p c) _ _).trans (s.ledger_replaceTarget p)

@[simp] theorem State.ledger_evaluateMatch (p : Nat) : (s.evaluateMatch p).ledger = s.ledger := by
  rcases evaluateMatch_cases s p with ⟨-, h⟩ | ⟨r, -, ⟨-, h⟩ | ⟨-, -, h⟩ | ⟨-, -, h⟩⟩ <;> rw [h] <;>
    simp [State.ledger_modChan]

@[simp] theorem State.ledger_beginRotation (en : Chan → Bool) : (s.beginRotation en).ledger = s.ledger := by
  rcases beginRotation_cases s en with h | h | ⟨v, t, c, -, -, -, -, -, h⟩ <;> rw [h] <;> simp

@[simp] theorem State.ledger_trimBoundaryWork (p : Nat) (en : Chan → Bool) :
    (s.trimBoundaryWork p en).ledger = s.ledger := by
  simp only [State.trimBoundaryWork, State.ledger_beginRotation, State.ledger_evaluateMatch,
    State.ledger_replaceFaulted, State.ledger_advanceTimer, State.ledger_stuckExamination]
  split_ifs <;> simp

@[simp] theorem State.ledger_trimFinalWork : s.trimFinalWork.ledger = s.ledger := by simp [State.trimFinalWork]

@[simp] theorem State.ledger_trimOpenWork : s.trimOpenWork.ledger = s.ledger := by simp [State.trimOpenWork]

/-! ## The boundary's work beside the store -/

@[simp] theorem State.ledger_completeBlocks : s.completeBlocks.ledger = s.ledger :=
  s.ledger_mapChans _ fun c => by unfold Channel.complete; split <;> rfl

@[simp] theorem State.ledger_clearMarks : s.clearMarks.ledger = s.ledger := s.ledger_mapChans _ fun _ => rfl
@[simp] theorem State.ledger_revertRoutes : s.revertRoutes.ledger = s.ledger := s.ledger_mapChans _ fun _ => rfl
@[simp] theorem State.ledger_commitRoutes : s.commitRoutes.ledger = s.ledger := s.ledger_mapChans _ fun _ => rfl

@[simp] theorem State.ledger_commitSettings : s.commitSettings.ledger = s.ledger :=
  (State.ledger_mapChans _ _ fun _ => rfl).trans (s.ledger_mapConvs _)

@[simp] theorem State.ledger_commitProceeding : s.commitProceeding.ledger = s.ledger := by
  unfold State.commitProceeding
  split
  · rfl
  · exact (State.ledger_addChange _ _).trans (s.ledger_withCap _ rfl)

@[simp] theorem State.ledger_commit : s.commit.ledger = s.ledger := by
  simp only [State.commit, State.ledger_answerAtBoundary]
  split_ifs <;> simp

@[simp] theorem State.ledger_discardPending : s.discardPending.ledger = s.ledger := by
  rw [State.discardPending, State.ledger_answerAtBoundary, State.ledger_mapChans _ _ fun _ => rfl]
  exact s.ledger_withCap _ rfl

@[simp] theorem State.ledger_commitFinalSettings : s.commitFinalSettings.ledger = s.ledger := by
  simp [State.commitFinalSettings]

@[simp] theorem State.ledger_changeHolder (h : Option Chan) (k : FloorCause) :
    (s.changeHolder h k).ledger = s.ledger := by
  simp [State.changeHolder]

@[simp] theorem State.ledger_contest (h : Chan) : (s.contest h).ledger = s.ledger := by
  simp only [State.contest]
  split
  · simp
  · split_ifs <;> simp

@[simp] theorem State.ledger_openFloor : s.openFloor.ledger = s.ledger := by
  unfold State.openFloor
  split <;> simp

@[simp] theorem State.ledger_floorDecision : s.floorDecision.ledger = s.ledger := by
  simp only [State.floorDecision, State.ledger_withFloor]
  split
  · split_ifs <;> simp
  · simp

/-! ## Slots of the store -/

theorem State.ledger_setFree (n : Nat) : (s.setFree n).ledger = { s.ledger with free := n } := by
  rcases setFree_cases s n with h | h <;> rw [h] <;> rfl

theorem State.ledger_post (r : Record) : (s.post r).ledger = s.ledger.post r := by
  simp only [State.ledger, Ledger.post, State.post, List.map_append]
  rfl

/-- A granted slot request takes one slot (R33, R35). -/
theorem slotRequest_gives {s t : State} {k : Class} (h : s.slotRequest k = some t) : s.ledger.Gives t.ledger := by
  rcases slotRequest_some h with ⟨hf, rfl⟩ | ⟨-, -, h⟩
  · exact .inl ⟨hf, s.ledger_setFree _⟩
  · obtain ⟨a, x, b, -, hc, -, hx, rfl⟩ := reclaimSlot_some h
    exact .inr ⟨a, x, b, hc, hx, rfl⟩

end Sys2Proof.Machine
end

section
/-! SUPPORT. What a boundary and an OPEN_CAPTURE make of the ledger: the posted blocks, the marker record, the
allocation (R2, R5, R8, R9, R13). -/

namespace Sys2Proof.Machine

variable {s t : State} {n : Nat}

/-! ## Posting (R5, R30) -/

/-- Step (a) for one channel: its FILLING slot, if it has one, is POSTED with the next custody number. -/
theorem postChannel_ledger (before s : State) (c : Chan) :
    (c ∉ s.ledger.filling ∧ (State.postChannel before s c).ledger = s.ledger) ∨
      (c ∈ s.ledger.filling ∧ ∃ r : Record, r.custody = s.ledger.lastCustody + 1 ∧
        (State.postChannel before s c).ledger = (s.ledger.post r).vacate c) := by
  rw [State.mem_ledger_filling]
  unfold State.postChannel
  cases hf : (s.chan c).filling with
  | none => exact .inl ⟨by simp, s.ledger_modChan c _ rfl⟩
  | some samples =>
    refine .inr ⟨rfl, .audio ((s.audioRecord before c samples).chained (s.chan c).chain), rfl, ?_⟩
    exact (State.ledger_modChan_vacate _ c _ rfl).trans (congrArg (Ledger.vacate · c) (s.ledger_post _))

theorem postChannel_filling (before s : State) (c : Chan) :
    (State.postChannel before s c).ledger.filling = s.ledger.filling.erase c := by
  rcases postChannel_ledger before s c with ⟨hc, h⟩ | ⟨-, r, -, h⟩ <;> rw [h]
  · exact (Finset.erase_eq_of_notMem hc).symm
  · rfl

theorem postBlocks_filling (before s : State) : (s.postBlocks before).ledger.filling = ∅ := by
  have fold (l : List Chan) : ∀ s : State,
      (l.foldl (State.postChannel before) s).ledger.filling = s.ledger.filling \ l.toFinset := by
    induction l with
    | nil => simp
    | cons c l ih =>
      intro s
      rw [List.foldl_cons, ih, postChannel_filling]
      ext d
      simp only [Finset.mem_sdiff, Finset.mem_erase, List.mem_toFinset, List.mem_cons]
      tauto
  rw [State.postBlocks, fold, Finset.sdiff_eq_empty_iff_subset]
  exact fun c _ => List.mem_toFinset.mpr (mem_allChans c)

theorem postBlocks_balanced (before : State) (h : s.ledger.Balanced n) : (s.postBlocks before).ledger.Balanced n := by
  refine foldl_keeps (P := fun s => s.ledger.Balanced n) (fun s c hs => ?_) allChans h
  rcases postChannel_ledger before s c with ⟨-, e⟩ | ⟨hc, r, hr, e⟩ <;> rw [e]
  · exact hs
  · exact (hs.post hr).vacate hc

/-- Each posted block takes one number. -/
theorem postBlocks_lastCustody (before s : State) :
    (s.postBlocks before).ledger.lastCustody = s.ledger.lastCustody + s.ledger.filling.card := by
  have fold : (s.postBlocks before).ledger.lastCustody + (s.postBlocks before).ledger.filling.card =
      s.ledger.lastCustody + s.ledger.filling.card := by
    refine foldl_frame (g := fun s => s.ledger.lastCustody + s.ledger.filling.card) (fun s c => ?_) allChans s
    rcases postChannel_ledger before s c with ⟨-, e⟩ | ⟨hc, r, -, e⟩ <;> simp only [e]
    have := Finset.card_erase_add_one hc
    simp only [Ledger.vacate_lastCustody, Ledger.post_lastCustody, Ledger.vacate_filling, Ledger.post_filling]
    omega
  simpa [postBlocks_filling] using fold

theorem postBlocks_capturing (before s : State) : (s.postBlocks before).ledger.capturing = s.ledger.capturing := by
  refine foldl_frame (g := fun s => s.ledger.capturing) (fun s c => ?_) allChans s
  rcases postChannel_ledger before s c with ⟨-, e⟩ | ⟨-, r, -, e⟩ <;> simp [e]

/-! ## The marker record (R8, R111) -/

/-- Step (c): nothing, or a slot taken for a marker record with the next custody number. -/
theorem takeMarkers_ledger (s : State) (period : Nat) (tag : Tag) (st : Stamp) :
    (s.takeMarkers period tag st).ledger = s.ledger ∨ ∃ l : Ledger, ∃ r : Record, s.ledger.Gives l ∧
      r.custody = l.lastCustody + 1 ∧ (s.takeMarkers period tag st).ledger = l.post r := by
  unfold State.takeMarkers
  split
  · exact .inl rfl
  · split
    · next u hu => exact .inr ⟨u.ledger, _, slotRequest_gives hu, rfl, u.ledger_post _⟩
    · exact .inl rfl

theorem takeMarkers_balanced (period : Nat) (tag : Tag) (st : Stamp) (h : s.ledger.Balanced (n + 1)) :
    (s.takeMarkers period tag st).ledger.Balanced (n + 1) := by
  rcases takeMarkers_ledger s period tag st with e | ⟨l, r, g, hr, e⟩ <;> rw [e]
  · exact h
  · exact (g.balanced h).post hr

theorem takeMarkers_frame (s : State) (period : Nat) (tag : Tag) (st : Stamp) :
    (s.takeMarkers period tag st).ledger.filling = s.ledger.filling ∧
      (s.takeMarkers period tag st).ledger.lastCustody ≤ s.ledger.lastCustody + 1 ∧
      (s.takeMarkers period tag st).ledger.capturing = s.ledger.capturing := by
  rcases takeMarkers_ledger s period tag st with e | ⟨l, r, g, -, e⟩ <;> rw [e]
  · exact ⟨rfl, Nat.le_succ _, rfl⟩
  · obtain ⟨filling, lastCustody, capturing⟩ := g.frame
    exact ⟨filling, by rw [Ledger.post_lastCustody, lastCustody], capturing⟩

/-! ## Allocation (R9) -/

/-- The request of one channel: refused, or a slot taken for it. -/
theorem requestSlot_ledger (s : State) (c : Chan) :
    (s.requestSlot c).ledger = s.ledger ∨ ∃ l, s.ledger.Gives l ∧ (s.requestSlot c).ledger = l.grant c := by
  unfold State.requestSlot
  split
  · next u hu => exact .inr ⟨u.ledger, slotRequest_gives hu, u.ledger_modChan_grant c _ rfl⟩
  · have keeps : (s.modChan c Channel.refused).ledger = s.ledger := s.ledger_modChan c _ rfl
    exact .inl (by simp only []; split_ifs <;> simp [keeps])

theorem requestOrder_nodup (s : State) : s.requestOrder.Nodup := by
  have nodup (k : Class) : (s.ofClass k).Nodup := (List.nodup_finRange 24).filter _
  have cls {k : Class} {c : Chan} (h : c ∈ s.ofClass k) : (s.chan c).settings.cls = k := by
    simp only [State.ofClass, List.mem_filter, Bool.and_eq_true, beq_iff_eq] at h
    exact h.2.2
  have disjoint {j k : Class} (h : j ≠ k) : (s.ofClass j).Disjoint (s.ofClass k) :=
    fun c hj hk => h ((cls hj).symm.trans (cls hk))
  refine ((nodup .keep).append (nodup .normal) (disjoint (by decide))).append (nodup .shed) ?_
  exact List.disjoint_append_left.mpr ⟨disjoint (by decide), disjoint (by decide)⟩

/-- Each channel requests once, so no channel gets a second slot. -/
theorem requestSlots_balanced (l : List Chan) (hl : l.Nodup) (hc : ∀ c ∈ l, c ∉ s.ledger.filling)
    (h : s.ledger.Balanced (n + 1)) : (l.foldl State.requestSlot s).ledger.Balanced (n + 1) := by
  induction l generalizing s with
  | nil => exact h
  | cons c l ih =>
    obtain ⟨hcl, hl⟩ := List.nodup_cons.mp hl
    obtain ⟨hc, hrest⟩ := List.forall_mem_cons.mp hc
    rcases requestSlot_ledger s c with e | ⟨g, hg, e⟩
    · exact ih hl (by rwa [e]) (by rwa [e])
    · obtain ⟨filling, -, -⟩ := hg.frame
      refine ih hl (fun d hd => ?_) (e ▸ (hg.balanced h).grant (filling ▸ hc))
      rw [e, Ledger.grant_filling, filling, Finset.mem_insert, not_or]
      exact ⟨fun hdc => hcl (hdc ▸ hd), hrest d hd⟩

theorem allocate_balanced (hf : s.ledger.filling = ∅) (h : s.ledger.Balanced (n + 1)) :
    s.allocate.ledger.Balanced (n + 1) :=
  requestSlots_balanced _ (requestOrder_nodup s) (fun c _ => hf ▸ Finset.notMem_empty c) h

theorem allocate_frame (s : State) : s.allocate.ledger.lastCustody = s.ledger.lastCustody ∧
    s.allocate.ledger.capturing = s.ledger.capturing := by
  have turn (s : State) (c : Chan) : ((s.requestSlot c).ledger.lastCustody, (s.requestSlot c).ledger.capturing) =
      (s.ledger.lastCustody, s.ledger.capturing) := by
    rcases requestSlot_ledger s c with e | ⟨g, hg, e⟩ <;> rw [e]
    obtain ⟨-, lastCustody, capturing⟩ := hg.frame
    simp [lastCustody, capturing]
  exact Prod.mk.inj (foldl_frame (g := fun s => (s.ledger.lastCustody, s.ledger.capturing)) turn s.requestOrder s)

/-! ## The two boundaries and OPEN_CAPTURE -/

/-- A boundary's posting, blocks and marker record, on a state `t` with the ledger of `s`: at most 25 custody numbers
are given, and no slot is FILLING. -/
theorem boundaryPosting {u before : State} (period : Nat) (tag : Tag) (st : Stamp) (h : s.ledger.Balanced (n + 1))
    (ht : t.ledger = s.ledger) (hu : u.ledger = (t.postBlocks before).ledger) :
    (u.takeMarkers period tag st).ledger.Balanced (n + 1) ∧ (u.takeMarkers period tag st).ledger.filling = ∅ ∧
      (u.takeMarkers period tag st).ledger.lastCustody ≤ s.ledger.lastCustody + 25 ∧
      (u.takeMarkers period tag st).ledger.capturing = s.ledger.capturing := by
  obtain ⟨filling, lastCustody, capturing⟩ := takeMarkers_frame u period tag st
  have balanced : u.ledger.Balanced (n + 1) := by
    rw [hu]
    exact postBlocks_balanced before (by rwa [ht])
  have blocks : s.ledger.filling.card ≤ 24 := Finset.card_le_univ _
  rw [hu, postBlocks_lastCustody, ht] at lastCustody
  exact ⟨takeMarkers_balanced period tag st balanced, by rw [filling, hu, postBlocks_filling], by omega,
    by rw [capturing, hu, postBlocks_capturing, ht]⟩

/-- The state of a boundary that is not final after its steps (a) and (b) (R5, R7). -/
def State.committed (s : State) : State :=
  let t := (s.completeBlocks.clearMarks.trimBoundaryWork (wrapInc s.cap.period) s.enabledNext).postBlocks s
  { t with cap := { t.cap with period := wrapInc s.cap.period } }.commit

theorem periodBoundary_eq (s : State) : s.periodBoundary =
    let u := s.committed
    let t := (u.takeMarkers u.cap.period (markerTag u.cap.proceeding) u.stampNow).allocate.floorDecision
    { t with cap := { t.cap with instant := 0 } } := by
  simp only [State.periodBoundary, State.committed]

theorem committed_ledger (s : State) : s.committed.ledger =
    ((s.completeBlocks.clearMarks.trimBoundaryWork (wrapInc s.cap.period) s.enabledNext).postBlocks s).ledger :=
  (State.ledger_commit _).trans (State.ledger_withPeriod _ _)

theorem periodBoundary_ledger (s : State) : s.periodBoundary.ledger =
    (s.committed.takeMarkers s.committed.cap.period (markerTag s.committed.cap.proceeding)
      s.committed.stampNow).allocate.ledger := by
  rw [periodBoundary_eq]
  exact (State.ledger_withInstant _ _).trans (State.ledger_floorDecision _)

theorem periodBoundary_sound (h : s.ledger.Sound) (hl : s.finalDue = false) (hc : s.capturing = true) :
    s.periodBoundary.ledger.Sound := by
  have below : ¬ 4294967246 < s.ledger.lastCustody + 1 := of_decide_eq_false (Bool.or_eq_false_iff.mp hl).2
  have capturing : s.ledger.capturing = true := hc
  obtain ⟨balanced, filling, given, still⟩ := boundaryPosting s.committed.cap.period
    (markerTag s.committed.cap.proceeding) s.committed.stampNow h.balanced (by simp) (committed_ledger s)
  rw [periodBoundary_ledger]
  obtain ⟨numbers, state⟩ := allocate_frame (s.committed.takeMarkers s.committed.cap.period
    (markerTag s.committed.cap.proceeding) s.committed.stampNow)
  refine ⟨allocate_balanced filling balanced, fun h0 => ?_, by omega, fun _ => by omega⟩
  rw [state, still, capturing] at h0
  cases h0

theorem toStandby_ledger (s : State) (reason : EndReason) (cause : ChangeCause) :
    (s.toStandby reason cause).ledger = { s.ledger with capturing := false } := by
  have reverted : (s.standbyChange cause).revertRoutes.clearMarks.ledger = { s.ledger with capturing := false } :=
    (State.ledger_clearMarks _).trans (State.ledger_revertRoutes _)
  simp only [State.toStandby, State.ledger_answerAtBoundary, State.ledger_raise]
  exact (State.ledger_withFloorNotice _ _ _ _).trans reverted

/-- The state of a final boundary after its steps 1 to 3 (R13). -/
def State.closed (s : State) : State :=
  ((s.completeBlocks.trimFinalWork).postBlocks s).discardPending.commitFinalSettings

theorem finalBoundary_ledger (s : State) : s.finalBoundary.ledger =
    { (s.closed.takeMarkers s.closed.cap.period (markerTag s.closed.cap.proceeding) s.closed.cap.stamp).ledger with
      capturing := false } := by
  simp only [State.finalBoundary]
  split <;> exact toStandby_ledger _ _ _

theorem finalBoundary_sound (h : s.ledger.Sound) (hc : s.capturing = true) : s.finalBoundary.ledger.Sound := by
  have margin : s.ledger.lastCustody ≤ 4294967270 := h.margin hc
  obtain ⟨balanced, filling, given, -⟩ := boundaryPosting s.closed.cap.period
    (markerTag s.closed.cap.proceeding) s.closed.cap.stamp h.balanced (before := s)
    (t := s.completeBlocks.trimFinalWork) (by simp) (show s.closed.ledger = _ by simp [State.closed])
  rw [finalBoundary_ledger]
  exact ⟨balanced.withCapturing false, fun _ => filling, by simp only []; omega, fun h0 => nomatch h0⟩

theorem State.ledger_withOpened (s : State) (k : Capture) (m : Markers) (x : Floor) (u : Timebase)
    (hk : k.state = .capturing) :
    { s with cap := k, marks := m, floor := x, time := u }.ledger = { s.ledger with capturing := true } := by
  simp only [State.ledger, State.capturing, hk]
  rfl

theorem openState_ledger (s : State) : s.openState.ledger = { s.ledger with capturing := true } := by
  have opened : (s.mapChans fun _ ch => ch.opened).ledger = s.ledger := s.ledger_mapChans _ fun _ => rfl
  simp only [State.openState, State.ledger_addChange]
  exact (State.ledger_withOpened _ _ _ _ _ rfl).trans (by rw [opened])

theorem openCapture_sound (h : s.ledger.Sound) (hl : s.atLimit = false) (hc : s.capturing = false) :
    s.openCapture.ledger.Sound := by
  have below : ¬ 4294967246 < s.ledger.lastCustody + 1 := of_decide_eq_false hl
  obtain ⟨t, ht⟩ : ∃ t, t = s.openState.trimOpenWork := ⟨_, rfl⟩
  have opened : t.ledger = { s.ledger with capturing := true } := by
    rw [ht, State.ledger_trimOpenWork, openState_ledger]
  obtain ⟨filling, given, still⟩ := takeMarkers_frame t 0 .recess t.stampNow
  obtain ⟨numbers, state⟩ := allocate_frame (t.takeMarkers 0 .recess t.stampNow)
  have balanced : t.ledger.Balanced 65536 := opened ▸ h.balanced.withCapturing true
  rw [opened] at filling given still
  have whole : s.openCapture = (t.takeMarkers 0 .recess t.stampNow).allocate := ht ▸ rfl
  rw [whole]
  refine ⟨allocate_balanced (filling.trans (h.standby hc)) (takeMarkers_balanced _ _ _ balanced), fun h0 => ?_,
    by simp only [] at given; omega, fun _ => by simp only [] at given; omega⟩
  rw [state, still] at h0
  cases h0

end Sys2Proof.Machine
end

section
/-! SUPPORT. What the changes of custody make of the ledger: a pin taken, a pin that ends, a release (R54, R58, R60). -/

namespace Sys2Proof.Machine

/-! ## One slot of custody -/

@[simp] theorem HeldSlot.unpin_record (k : Nat) (h : HeldSlot) : (h.unpin k).record = h.record := by
  unfold HeldSlot.unpin; split <;> rfl

@[simp] theorem HeldSlot.unpin_releasePending (k : Nat) (h : HeldSlot) :
    (h.unpin k).releasePending = h.releasePending := by
  unfold HeldSlot.unpin; split <;> rfl

theorem HeldSlot.unpin_pins (k : Nat) (h : HeldSlot) :
    (h.unpin k).pins = if h.record.custody = k then h.pins - 1 else h.pins := by
  unfold HeldSlot.unpin; split <;> rfl

@[simp] theorem HeldSlot.pin_record (k : Nat) (h : HeldSlot) : (h.pin k).record = h.record := by
  unfold HeldSlot.pin; split <;> rfl

@[simp] theorem HeldSlot.pin_releasePending (k : Nat) (h : HeldSlot) :
    (h.pin k).releasePending = h.releasePending := by
  unfold HeldSlot.pin; split <;> rfl

theorem HeldSlot.pin_pins (k : Nat) (h : HeldSlot) :
    (h.pin k).pins = if h.record.custody = k then h.pins + 1 else h.pins := by
  unfold HeldSlot.pin; split <;> rfl

@[simp] theorem HeldSlot.afterRelease_record (k : Nat) (h : HeldSlot) : (h.afterRelease k).record = h.record := by
  unfold HeldSlot.afterRelease; split <;> rfl

@[simp] theorem HeldSlot.afterRelease_pins (k : Nat) (h : HeldSlot) : (h.afterRelease k).pins = h.pins := by
  unfold HeldSlot.afterRelease; split <;> rfl

/-- A release marks only pinned slots (R54). -/
theorem HeldSlot.afterRelease_pending {k : Nat} {h : HeldSlot} (hp : (h.afterRelease k).releasePending = true) :
    h.releasePending = true ∨ 0 < h.pins := by
  unfold HeldSlot.afterRelease at hp
  split at hp
  · next hd =>
    simp only [HeldSlot.deferredBy, Bool.and_eq_true, decide_eq_true_eq] at hd
    exact .inr hd.1.2
  · exact .inl hp

/-- A release frees only slots without pins (R54). -/
theorem HeldSlot.releasedBy_pins {k : Nat} {h : HeldSlot} (hr : h.releasedBy k = true) : h.pins = 0 := by
  simp only [HeldSlot.releasedBy, HeldSlot.eligible, Bool.and_eq_true, beq_iff_eq] at hr
  exact hr.2.1

/-- A slot whose last pin may end becomes FREE exactly when it is release-pending without pins (R60). -/
theorem HeldSlot.freed_iff (h : HeldSlot) : h.freed = true ↔ h.pins = 0 ∧ h.releasePending = true := by
  simp [HeldSlot.freed]

/-! ## The ledger -/

namespace Ledger

variable {l l' : Ledger} {n : Nat}

/-- The laws after a change that gives neither a custody number nor a FILLING slot. -/
theorem Sound.ofBalanced (h : l.Sound) (balanced : l'.Balanced 65536) (filling : l'.filling = l.filling)
    (lastCustody : l'.lastCustody = l.lastCustody) (capturing : l'.capturing = l.capturing) : l'.Sound := by
  refine ⟨balanced, ?_, ?_, ?_⟩
  · rw [filling, capturing]
    exact h.standby
  · rw [lastCustody]
    exact h.limit
  · rw [lastCustody, capturing]
    exact h.margin

/-- A pin of custody number `k` has ended, and its copy has left the head of the reply queue (R60). -/
def unpin (l : Ledger) (k : Nat) : Ledger :=
  { l with
    custody := (l.custody.map (HeldSlot.unpin k)).filter fun h => !(h.record.custody == k && h.freed)
    free := l.free + ((l.custody.map (HeldSlot.unpin k)).filter fun h => h.record.custody == k && h.freed).length
    copies := l.copies.tail }

/-- Custody number `k` is pinned, and a copy of it stands in the reply queue (R58). -/
def pin (l : Ledger) (k : Nat) : Ledger :=
  { l with custody := l.custody.map (HeldSlot.pin k), copies := l.copies ++ [k] }

/-- A release up to custody number `k` (R54). -/
def release (l : Ledger) (k : Nat) : Ledger :=
  { l with
    custody := (l.custody.filter fun h : HeldSlot => !h.releasedBy k).map (HeldSlot.afterRelease k)
    free := l.free + (l.custody.filter (HeldSlot.releasedBy k)).length }

theorem Balanced.unpin (h : l.Balanced n) {k : Nat} {rest : List Nat} (hk : l.copies = k :: rest) :
    (l.unpin k).Balanced n := by
  have numbers : (l.custody.map (HeldSlot.unpin k)).map (fun h => h.record.custody) = l.held := by
    simp [held, Function.comp_def]
  have count (x : HeldSlot) (hx : x ∈ l.custody) : (x.unpin k).pins = rest.count x.record.custody := by
    have hp := h.pinned.pins x hx
    rw [hk, List.count_cons] at hp
    rw [HeldSlot.unpin_pins]
    by_cases hc : x.record.custody = k
    · simp [hc] at hp ⊢
      omega
    · simpa [hc, Ne.symm hc] using hp
  refine ⟨h.numbered.ofCustody (numbers ▸ List.filter_sublist.map _) _ _, ⟨?_, ?_, ?_⟩, h.lane, ?_⟩
  · intro y hy
    obtain ⟨x, hx, rfl⟩ := List.mem_map.mp (List.mem_filter.mp hy).1
    simpa [Ledger.unpin, hk] using count x hx
  · intro y hy hp
    obtain ⟨hy, stays⟩ := List.mem_filter.mp hy
    obtain ⟨x, hx, rfl⟩ := List.mem_map.mp hy
    by_cases hc : x.record.custody = k
    · refine Nat.pos_of_ne_zero fun h0 => ?_
      have gone : (x.unpin k).freed = true := (HeldSlot.freed_iff _).mpr ⟨h0, hp⟩
      simp [hc, gone] at stays
    · rw [HeldSlot.unpin_pins, if_neg hc]
      exact h.pinned.pending x hx (by simpa using hp)
  · intro m hm
    have hm' : m ∈ rest := by simpa [Ledger.unpin, hk] using hm
    obtain ⟨x, hx, rfl⟩ := List.mem_map.mp (h.pinned.copies m (hk ▸ List.mem_cons_of_mem k hm'))
    have pinned : (x.unpin k).pins ≠ 0 := by
      rw [count x hx]
      exact (List.count_pos_iff.mpr hm').ne'
    refine List.mem_map.mpr ⟨x.unpin k, List.mem_filter.mpr ⟨List.mem_map_of_mem hx, ?_⟩, by simp⟩
    have kept : (x.unpin k).freed = false := Bool.eq_false_iff.mpr fun hf => pinned ((HeldSlot.freed_iff _).mp hf).1
    simp [kept]
  · have total := h.total
    have parts := List.length_eq_length_filter_add (l := l.custody.map (HeldSlot.unpin k))
      fun h => h.record.custody == k && h.freed
    simp only [slots, Ledger.unpin, List.length_map] at total parts ⊢
    omega

theorem Balanced.pin (h : l.Balanced n) {k : Nat} (hk : k ∈ l.held) : (l.pin k).Balanced n := by
  have numbers : (l.custody.map (HeldSlot.pin k)).map (fun h => h.record.custody) = l.held := by
    simp [held, Function.comp_def]
  refine ⟨h.numbered.ofCustody (numbers ▸ List.Sublist.refl _) _ _, ⟨?_, ?_, ?_⟩, h.lane, ?_⟩
  · intro y hy
    obtain ⟨x, hx, rfl⟩ := List.mem_map.mp hy
    have hp := h.pinned.pins x hx
    rw [HeldSlot.pin_pins, HeldSlot.pin_record, Ledger.pin, List.count_append, List.count_singleton, ← hp]
    by_cases hc : x.record.custody = k
    · simp [hc]
    · simp [hc, Ne.symm hc]
  · intro y hy hp
    obtain ⟨x, hx, rfl⟩ := List.mem_map.mp hy
    have before := h.pinned.pending x hx (by simpa using hp)
    rw [HeldSlot.pin_pins]
    split <;> omega
  · intro m hm
    rw [held, Ledger.pin, numbers]
    rcases List.mem_append.mp hm with hm | hm
    · exact h.pinned.copies m hm
    · exact List.mem_singleton.mp hm ▸ hk
  · simpa [slots, Ledger.pin] using h.total

theorem Balanced.release (h : l.Balanced n) (k : Nat) : (l.release k).Balanced n := by
  have sub : (((l.custody.filter fun h : HeldSlot => !h.releasedBy k).map (HeldSlot.afterRelease k)).map
      fun h => h.record.custody).Sublist l.held := by
    rw [List.map_map]
    simpa [Function.comp_def, held] using List.filter_sublist.map fun h : HeldSlot => h.record.custody
  refine ⟨h.numbered.ofCustody sub _ _, ⟨?_, ?_, ?_⟩, h.lane, ?_⟩
  · intro y hy
    obtain ⟨x, hx, rfl⟩ := List.mem_map.mp hy
    simpa [Ledger.release] using h.pinned.pins x (List.mem_filter.mp hx).1
  · intro y hy hp
    obtain ⟨x, hx, rfl⟩ := List.mem_map.mp hy
    rw [HeldSlot.afterRelease_pins]
    rcases HeldSlot.afterRelease_pending hp with hp | hp
    · exact h.pinned.pending x (List.mem_filter.mp hx).1 hp
    · exact hp
  · intro m hm
    obtain ⟨x, hx, rfl⟩ := List.mem_map.mp (h.pinned.copies m hm)
    have kept : x.releasedBy k = false := Bool.eq_false_iff.mpr fun hr =>
      h.pinned.not_copied hx (HeldSlot.releasedBy_pins hr) hm
    exact List.mem_map.mpr ⟨x.afterRelease k,
      List.mem_map_of_mem (List.mem_filter.mpr ⟨hx, by simp [kept]⟩), by simp⟩
  · have total := h.total
    have parts := List.length_eq_length_filter_add (l := l.custody) (HeldSlot.releasedBy k)
    simp only [slots, Ledger.release, List.length_map] at total parts ⊢
    omega

end Ledger

end Sys2Proof.Machine
end

section
/-! SUPPORT. What the lane makes of the ledger: scans, frame ends, the two resets (R44, R50, R51, R60, R173, R179). -/

namespace Sys2Proof.Machine

variable {s : State}

/-! ## Frames that start (R50, R169, R171, R173) -/

theorem State.ledger_startFrame (s : State) (use : LaneUse) (kind tag : Byte) (payload : List Byte) :
    (s.startFrame use kind tag payload).ledger = { s.ledger with onLane := use == .first } := rfl

/-- On an idle lane a frame other than a FIRST block frame leaves the ledger alone. -/
theorem ledger_startFrame_other (hl : s.ledger.onLane = false) {use : LaneUse} (hu : (use == .first) = false)
    (kind tag : Byte) (payload : List Byte) : (s.startFrame use kind tag payload).ledger = s.ledger := by
  rw [State.ledger_startFrame, hu, ← hl]

theorem State.ledger_withReclaimList (s : State) (l : List Nat) (n : Nat) :
    { s with store := { s.store with reclaimList := l, notListed := n } }.ledger = s.ledger := rfl

@[simp] theorem State.ledger_noticeSent (s : State) (k : NoticeKind) : (s.noticeSent k).ledger = s.ledger := by
  cases k with
  | capture | converter | time | proceeding | marker | link => rfl
  | store =>
    rw [← s.ledger_lower .store, ← (s.lower .store).ledger_mapChans (fun _ ch => { ch with newlyStarved := false })
      fun _ => rfl]
    exact State.ledger_withReclaimList _ _ _
  | floor =>
    simp only [State.noticeSent]
    split_ifs <;> rfl

theorem sendSource_sound (h : s.ledger.Sound) (hl : s.ledger.onLane = false) (x : Source) :
    (s.sendSource x).ledger.Sound := by
  cases x with
  | r =>
    have keeps : s.sendReply.ledger = s.ledger := by
      unfold State.sendReply
      split
      · rfl
      · exact ledger_startFrame_other hl rfl _ _ _
      · exact ledger_startFrame_other hl rfl _ _ _
    exact keeps ▸ h
  | n =>
    have keeps : s.sendNotice.ledger = s.ledger := by
      unfold State.sendNotice
      split
      · rfl
      · next k _ =>
        rw [ledger_startFrame_other (by rwa [State.ledger_noticeSent]) rfl, State.ledger_noticeSent]
    exact keeps ▸ h
  | b =>
    simp only [State.sendSource, State.sendBlock]
    split
    · exact h
    · next p rest hp =>
      have posted : s.ledger.posted = p.record :: rest.map PostedSlot.record := congrArg _ hp
      exact h.ofBalanced (h.balanced.send hl posted) rfl rfl rfl

theorem scan_sound (h : s.ledger.Sound) : s.scan.ledger.Sound := by
  unfold State.scan
  split
  · exact h
  · next idle =>
    have hl : s.ledger.onLane = false := by
      have lane : s.link.lane = none := by simpa using (not_or.mp idle).2
      simp [State.ledger, State.laneUse, lane]
    split
    · unfold State.scanSchedule
      split
      · exact h
      · exact sendSource_sound h hl _
    · have keeps := ledger_startFrame_other hl (use := .restartReply) rfl
      exact (keeps _ _ _).symm ▸ h
    · exact h
    · exact h

/-! ## Frames that end (R51, R60, R169, R171) -/

theorem State.ledger_endFrame (s : State) : s.endFrame.ledger = { s.ledger with onLane := false } := rfl

/-- The end of a frame other than a FIRST block frame leaves the ledger alone. -/
theorem ledger_endFrame_other (h : s.laneUse ≠ some .first) : s.endFrame.ledger = s.ledger := by
  have hl : s.ledger.onLane = false := Bool.eq_false_iff.mpr fun hf => h (State.ledger_onLane.mp hf)
  rw [State.ledger_endFrame, ← hl]

theorem blockFrameEnd_sound (h : s.ledger.Sound) (hu : s.laneUse = some .first) :
    s.enterCustody.endFrame.scan.ledger.Sound := by
  have some : s.store.sending.isSome = true := h.balanced.lane.trans (State.ledger_onLane.mpr hu)
  obtain ⟨r, hr⟩ := Option.isSome_iff_exists.mp some
  have arrived : s.enterCustody.endFrame.ledger = s.ledger.arrive r := by
    rw [State.ledger_endFrame]
    simp only [State.enterCustody, hr]
    rfl
  exact scan_sound (arrived ▸ h.ofBalanced (h.balanced.arrive hr) rfl rfl rfl)

theorem State.ledger_popReply_reply {r : Reply} {rest : List ReplyEntry} (h : s.link.replyQueue = .reply r :: rest) :
    s.popReply.ledger = s.ledger := by
  simp only [State.ledger, State.popReply, h, List.tail_cons]
  rfl

theorem State.ledger_copies_cons {k : Nat} {rest : List ReplyEntry} (h : s.link.replyQueue = .copy k :: rest) :
    s.ledger.copies = k :: rest.filterMap ReplyEntry.copied := by
  simp only [State.ledger, h]
  rfl

theorem State.ledger_endPin {k : Nat} {rest : List ReplyEntry} (h : s.link.replyQueue = .copy k :: rest) :
    (s.popReply.endPin k).ledger = s.ledger.unpin k := by
  rw [State.endPin, State.ledger_setFree, Ledger.unpin, State.ledger_copies_cons h]
  simp only [State.ledger, State.popReply, h]
  rfl

theorem rereadFrameEnd_sound (h : s.ledger.Sound) (hu : s.laneUse = some .reread) {k : Nat} {rest : List ReplyEntry}
    (hq : s.link.replyQueue = .copy k :: rest) : (s.popReply.endPin k).endFrame.scan.ledger.Sound := by
  have same : (s.popReply.endPin k).laneUse = s.laneUse :=
    congrArg (Option.map LaneFrame.use) (State.setFree_link_lane _ _)
  have lane : (s.popReply.endPin k).laneUse ≠ some .first := by simp [same, hu]
  refine scan_sound ?_
  rw [ledger_endFrame_other lane, State.ledger_endPin hq]
  exact h.ofBalanced (h.balanced.unpin (State.ledger_copies_cons hq)) rfl rfl rfl

theorem replyFrameEnd_sound (h : s.ledger.Sound) (hu : s.laneUse = some .reply) {r : Reply} {rest : List ReplyEntry}
    (hq : s.link.replyQueue = .reply r :: rest) : s.popReply.endFrame.scan.ledger.Sound := by
  have same : s.popReply.laneUse = s.laneUse := rfl
  have lane : s.popReply.laneUse ≠ some .first := by simp [same, hu]
  refine scan_sound ?_
  rwa [ledger_endFrame_other lane, State.ledger_popReply_reply hq]

@[simp] theorem State.ledger_moveDeferred (s : State) : s.moveDeferred.ledger = s.ledger := by
  unfold State.moveDeferred
  split
  · rfl
  · split
    · exact State.ledger_enqueue_reply _ _
    · rfl

/-! ## Resets (R23, R44) -/

/-- The ledger with every slot FREE. -/
def Ledger.initial : Ledger := ⟨65536, ∅, [], none, [], 0, 0, [], false, false⟩

theorem Ledger.initial_sound : Ledger.initial.Sound where
  balanced := ⟨⟨List.Pairwise.nil, by simp [initial, numbers, held], by simp [initial, held], by simp [initial],
    le_rfl⟩, ⟨by simp [initial], by simp [initial], by simp [initial]⟩, rfl, rfl⟩
  standby _ := rfl
  limit := by decide
  margin h := nomatch h

/-- A state whose store, stream, lane and capture are at their reset values. -/
theorem State.ledger_initial (store : s.store.free = 65536 ∧ s.store.posted = [] ∧ s.store.sending = none ∧
      s.store.custody = [] ∧ s.store.lastCustody = 0) (filling : ∀ c, (s.chan c).filling = none)
    (lastSent : s.stream.lastSent = 0) (queue : s.link.replyQueue = []) (lane : s.link.lane = none)
    (state : s.cap.state = .standby) : s.ledger = Ledger.initial := by
  obtain ⟨free, posted, sending, custody, lastCustody⟩ := store
  have none_filling : (Finset.univ.filter fun c => (s.chan c).filling.isSome = true) = ∅ := by simp [filling]
  simp only [State.ledger, State.laneUse, State.capturing, Ledger.initial, free, posted, sending, custody, lastCustody,
    none_filling, lastSent, queue, lane, state]
  rfl

theorem fullReset_sound (s : State) :
    { State.reset with pending := s.pending, link := { State.reset.link with hold := s.link.hold } }.ledger.Sound := by
  have filling (c : Chan) : (State.reset.chans.get c).filling = none := by
    simp [State.reset, Vector.get, Channel.reset]
  exact State.ledger_initial ⟨rfl, rfl, rfl, rfl, rfl⟩ filling rfl rfl rfl rfl ▸ Ledger.initial_sound

theorem captureReset_sound (s : State) : s.captureReset.ledger.Sound := by
  have filling (c : Chan) : (s.captureReset.chan c).filling = none := by
    simp only [State.captureReset, State.chan, State.mapChans, vector_get_ofFn]
    rfl
  have initial : s.captureReset.ledger = Ledger.initial :=
    State.ledger_initial ⟨rfl, rfl, rfl, rfl, rfl⟩ filling rfl rfl rfl rfl
  exact initial ▸ Ledger.initial_sound

end Sys2Proof.Machine
end

section
/-! SUPPORT. What each command makes of the ledger, and the step lemma of the store's laws. -/

namespace Sys2Proof.Machine

variable {s t : State}

/-! ## The command engine -/

/-- A command whose body leaves the ledger alone leaves it alone. -/
theorem runCommand_ledger (code : Byte) (need : Command → State → Nat) (fits : Command → Bool)
    {body : Command → State → State} (h : ∀ f s, (body f s).ledger = s.ledger) (s : State) :
    (runCommand code need fits body s).ledger = s.ledger := by
  rcases runCommand_cases code need fits body s with e | ⟨f, rest, -, -, -, -, ⟨-, e⟩ | ⟨-, e⟩⟩ <;> rw [e]
  · rw [h, State.ledger_popCommand]
  · rw [State.ledger_reply, State.ledger_popCommand]

/-- A command whose body keeps the laws of the store keeps them. -/
theorem runCommand_sound (code : Byte) (need : Command → State → Nat) (fits : Command → Bool)
    {body : Command → State → State} (h : ∀ f s, s.ledger.Sound → (body f s).ledger.Sound)
    (hs : s.ledger.Sound) : (runCommand code need fits body s).ledger.Sound := by
  rcases runCommand_cases code need fits body s with e | ⟨f, rest, -, -, -, -, ⟨-, e⟩ | ⟨-, e⟩⟩ <;> rw [e]
  · exact hs
  · exact h f _ hs
  · rwa [State.ledger_reply]

/-! ## Commands that leave the ledger alone -/

theorem linkStatusBody_ledger (f : Command) (s : State) : (linkStatusBody f s).ledger = s.ledger := by
  unfold linkStatusBody
  split
  · simp
  · simp only []
    split_ifs <;> exact s.ledger_reply _ _ _

theorem noticeMaskBody_ledger (f : Command) (s : State) : (noticeMaskBody f s).ledger = s.ledger :=
  (State.ledger_reply _ _ _ _).trans (s.ledger_withLink _ rfl rfl)

theorem laneScheduleBody_ledger (f : Command) (s : State) : (laneScheduleBody f s).ledger = s.ledger := by
  unfold laneScheduleBody
  split
  · simp
  · exact (State.ledger_reply _ _ _ _).trans (s.ledger_withLink _ rfl rfl)

theorem restartBody_ledger (f : Command) (s : State) : (restartBody f s).ledger = s.ledger := by
  have dropped : s.dropPending.ledger = s.ledger :=
    (State.ledger_withCap _ _ rfl).trans (s.ledger_mapChans _ fun _ => rfl)
  exact (State.ledger_withLink _ _ rfl rfl).trans dropped

theorem closeCaptureBody_ledger (f : Command) (s : State) : (closeCaptureBody f s).ledger = s.ledger := by
  unfold closeCaptureBody
  split
  · simp
  · split_ifs
    · simp
    · rw [State.ledger_answerTaken]
      exact (State.ledger_withCap _ _ rfl).trans (s.ledger_supersede _ _)

theorem setChannelBody_ledger (f : Command) (s : State) : (setChannelBody f s).ledger = s.ledger := by
  unfold setChannelBody
  split
  · simp
  · split_ifs
    · rw [State.ledger_answerTaken]
      exact s.ledger_mapChans _ fun c => by split_ifs <;> rfl
    · rw [State.ledger_reply]
      exact s.ledger_mapChans _ fun c => by split_ifs <;> rfl

theorem getChannelBody_ledger (f : Command) (s : State) : (getChannelBody f s).ledger = s.ledger := by
  unfold getChannelBody
  split <;> simp

theorem loadPatternBody_ledger (f : Command) (s : State) : (loadPatternBody f s).ledger = s.ledger := by
  unfold loadPatternBody
  split_ifs
  · exact (State.ledger_reply _ _ _ _).trans (s.ledger_withCap _ rfl)
  · simp

theorem placeRoutes_ledger (s : State) (f : Command) (r : Route) : (s.placeRoutes f r).ledger = s.ledger :=
  (State.ledger_withCap _ _ rfl).trans (s.ledger_mapChans _ fun c => by split_ifs <;> rfl)

theorem routePatternBody_ledger (f : Command) (s : State) : (routePatternBody f s).ledger = s.ledger := by
  unfold routePatternBody
  split
  · simp
  · split_ifs
    · rw [State.ledger_reply]
      exact s.ledger_mapChans _ fun c => by split_ifs <;> rfl
    · simp
    · simp [placeRoutes_ledger]

theorem placeProceeding_ledger (s : State) (p : Proceeding) : (s.placeProceeding p).ledger = s.ledger := by
  refine (State.ledger_withCap _ _ rfl).trans ?_
  split_ifs
  · exact s.ledger_mapChans _ fun _ => rfl
  · rfl

theorem setProceedingBody_ledger (f : Command) (s : State) : (setProceedingBody f s).ledger = s.ledger := by
  have cancelled : s.cancelProceeding.ledger = s.ledger := s.ledger_withCap _ rfl
  unfold setProceedingBody
  split
  · simp
  · split_ifs <;> simp [cancelled, placeProceeding_ledger]

theorem State.ledger_withPolicy (s : State) (shed keep : Nat) (reclaim : Bool) :
    { s with store := { s.store with shed := shed, keep := keep, reclaim := reclaim } }.ledger = s.ledger := rfl

theorem storePolicyBody_ledger (f : Command) (s : State) : (storePolicyBody f s).ledger = s.ledger := by
  have policy (shed keep : Nat) (reclaim : Bool) : (s.setPolicy shed keep reclaim).ledger = s.ledger := by
    simp only [State.setPolicy]
    split_ifs
    · exact s.ledger_withPolicy _ _ _
    · exact (State.ledger_raise _ _).trans (s.ledger_withPolicy _ _ _)
  unfold storePolicyBody
  split
  · simp
  · split_ifs <;> simp [policy]

theorem State.ledger_withStream (s : State) (enable : Bool) (threshold wait : Nat) :
    { s with stream := { s.stream with enable := enable, threshold := threshold, wait := wait } }.ledger = s.ledger :=
  rfl

theorem streamControlBody_ledger (f : Command) (s : State) : (streamControlBody f s).ledger = s.ledger := by
  unfold streamControlBody
  split
  · simp
  · split_ifs
    · simp
    · exact (State.ledger_reply _ _ _ _).trans (s.ledger_withStream _ _ _)

theorem putMarkerBody_ledger (f : Command) (s : State) : (putMarkerBody f s).ledger = s.ledger := by
  unfold putMarkerBody
  split
  · simp
  · split_ifs <;> simp

theorem floorConfigBody_ledger (f : Command) (s : State) : (floorConfigBody f s).ledger = s.ledger := by
  unfold floorConfigBody
  split_ifs <;> simp

theorem trimConfigBody_ledger (f : Command) (s : State) : (trimConfigBody f s).ledger = s.ledger := by
  unfold trimConfigBody
  split_ifs <;> simp [State.configureTrim]

theorem trimNowBody_ledger (f : Command) (s : State) : (trimNowBody f s).ledger = s.ledger := by
  unfold trimNowBody
  split
  · simp
  · split
    · split_ifs <;> simp [State.nameTarget]
    · split_ifs <;> simp
    all_goals simp

theorem converterRestoreBody_ledger (f : Command) (s : State) : (converterRestoreBody f s).ledger = s.ledger := by
  unfold converterRestoreBody
  split
  · simp
  · split_ifs <;> simp

theorem feedConfigBody_ledger (f : Command) (s : State) : (feedConfigBody f s).ledger = s.ledger := by
  unfold feedConfigBody
  split <;> simp

theorem setTimeBody_ledger (f : Command) (s : State) : (setTimeBody f s).ledger = s.ledger := by
  simp only [setTimeBody]
  split_ifs
  · simp
  · split <;> simp [State.setTime, State.timeStep]

theorem unknownCommand_ledger (s : State) : ∀ t, execUnknownCommand s = .next t → t.ledger = s.ledger := by
  rintro t ⟨⟩
  split
  · rfl
  · split_ifs <;> simp

theorem restart_ledger (s : State) : ∀ t, execRestart s = .next t → t.ledger = s.ledger := by
  rintro t ⟨⟩
  split
  · rfl
  · split_ifs
    · exact restartBody_ledger _ _
    · rfl
    · exact runCommand_ledger _ _ _ (fun _ _ => rfl) s

/-! ## Commands on the store -/

theorem openCaptureBody_sound (f : Command) (s : State) (h : s.ledger.Sound) : (openCaptureBody f s).ledger.Sound := by
  unfold openCaptureBody
  split_ifs with hc hb hl
  · rwa [State.ledger_reply]
  · rwa [State.ledger_reply]
  · rwa [State.ledger_reply]
  · rw [State.ledger_reply]
    exact openCapture_sound h (Bool.eq_false_iff.mpr hl) (Bool.eq_false_iff.mpr hc)

theorem releaseBody_sound (f : Command) (s : State) (h : s.ledger.Sound) : (releaseBody f s).ledger.Sound := by
  simp only [releaseBody]
  split_ifs
  · rwa [State.ledger_reply]
  · have released : (s.releaseTo (f.num 1 4)).ledger = s.ledger.release (f.num 1 4) := State.ledger_setFree _ _
    rw [State.ledger_reply, released]
    exact h.ofBalanced (h.balanced.release _) rfl rfl rfl

theorem readHeldBody_sound (f : Command) (s : State) (h : s.ledger.Sound) : (readHeldBody f s).ledger.Sound := by
  unfold readHeldBody
  split
  · next x hx =>
    have held : f.num 1 4 ∈ s.ledger.held :=
      List.mem_map.mpr ⟨x, List.mem_of_find?_eq_some hx, by simpa using List.find?_some hx⟩
    have pinned : (s.readHeld f (f.num 1 4) x).ledger = s.ledger.pin (f.num 1 4) :=
      (State.ledger_reply _ _ _ _).trans (State.ledger_enqueue_copy _ _)
    rw [pinned]
    exact h.ofBalanced (h.balanced.pin held) rfl rfl rfl
  · rwa [State.ledger_reply]

/-! ## The sample instant -/

theorem State.ledger_takeSamples (s : State) (raw : Vector Raw 26) : (s.takeSamples raw).ledger = s.ledger :=
  s.ledger_mapChans _ fun c => by
    split_ifs
    · simp [Channel.take]
    · rfl

theorem State.ledger_tickTrim (s : State) (raw : Vector Raw 26) : (s.tickTrim raw).ledger = s.ledger := by
  simp only [State.tickTrim, State.ledger_withTrim]
  split_ifs
  · exact s.ledger_mapConvs _
  · rfl

theorem State.ledger_takeStamp (s : State) : s.takeStamp.ledger = s.ledger := by
  unfold State.takeStamp
  split_ifs <;> rfl

theorem State.ledger_withTick (s : State) (n i : Nat) (x : Feed) (y : Timebase) :
    { s with ticks := n, feed := x, time := y, cap := { s.cap with instant := i } }.ledger = s.ledger := rfl

theorem State.ledger_tick (s : State) (raw : Vector Raw 26) : (s.tick raw).ledger = s.ledger := by
  have parts : ((s.takeSamples raw).tickTrim raw).takeStamp.ledger = s.ledger := by
    rw [State.ledger_takeStamp, State.ledger_tickTrim, State.ledger_takeSamples]
  exact (State.ledger_withTick _ _ _ _ _).trans parts

/-! ## The receiver and the timebase -/

theorem State.ledger_acceptFrame (s : State) (kind tag : Byte) (payload : List Byte) (check : Byte) :
    (s.acceptFrame kind tag payload check).ledger = s.ledger := by
  unfold State.acceptFrame
  split_ifs
  · simp
  · simp
  · unfold State.offer
    split_ifs
    · exact s.ledger_withLink _ rfl rfl
    · simp only [State.busyReply]
      split_ifs <;> simp

theorem State.ledger_measuredPulse (s : State) (frac : BitVec 8) (m : HeldMessage) (n : Int) :
    (s.measuredPulse frac m n).ledger = s.ledger := by
  simp only [State.measuredPulse, State.timeState, State.timeStep]
  split_ifs <;> simp [State.markPulse]

theorem State.ledger_openingPulse (s : State) (frac : BitVec 8) (m : HeldMessage) :
    (s.openingPulse frac m).ledger = s.ledger := by
  simp only [State.openingPulse, State.timeState]
  split_ifs <;> simp [State.markPulse]

theorem State.ledger_pulse (s : State) (frac : BitVec 8) : (s.pulse frac).ledger = s.ledger := by
  simp only [State.pulse]
  split
  · rfl
  · exact State.ledger_openingPulse _ _ _
  · split_ifs
    · exact State.ledger_measuredPulse _ _ _ _
    · rfl

/-! ## Every command -/

/-- Every command keeps the laws of the store. -/
theorem exec_sound (c : Instr) (h : s.ledger.Sound) (e : exec c s = .next t) : t.ledger.Sound := by
  have keeps {u : State} (hu : u.ledger = s.ledger) : u.ledger.Sound := hu ▸ h
  have body {b : Command → State → State} (hb : ∀ f s, (b f s).ledger = s.ledger) (code : Byte)
      (need : Command → State → Nat) (fits : Command → Bool) : (runCommand code need fits b s).ledger.Sound :=
    keeps (runCommand_ledger code need fits hb s)
  have status {data : State → List Byte} (code : Byte) (need : Command → State → Nat) (fits : Command → Bool) :
      (runCommand code need fits (fun f s => s.reply f .ok (data s)) s).ledger.Sound :=
    body (fun f s => s.ledger_reply f _ _) code need fits
  have guarded {p : Prop} [Decidable p] {u : State} (hu : p → u.ledger.Sound) :
      (if p then u else s).ledger.Sound := by
    split_ifs with hp
    · exact hu hp
    · exact h
  cases c <;> cases e
  case fullReset => exact fullReset_sound s
  case captureReset => exact guarded fun _ => captureReset_sound s
  -- the capture engine
  case sampleInstant raw => exact guarded fun _ => keeps (s.ledger_tick raw)
  case periodBoundary =>
    refine guarded fun ⟨due, notFinal⟩ => periodBoundary_sound h (by simpa using notFinal) ?_
    exact (Bool.and_eq_true_iff.mp due).1
  case finalBoundary => exact guarded fun ⟨due, _⟩ => finalBoundary_sound h (Bool.and_eq_true_iff.mp due).1
  case trimEnd => exact guarded fun _ => keeps (s.ledger_completeTrim _)
  -- the lane
  case laneScan => exact scan_sound h
  case blockFrameEnd => exact guarded (blockFrameEnd_sound h)
  case rereadFrameEnd =>
    split
    · next hu hq => exact rereadFrameEnd_sound h hu hq
    · exact h
  case replyFrameEnd =>
    split
    · next hu hq => exact replyFrameEnd_sound h hu hq
    · next hu => exact keeps ((State.ledger_withLink _ _ rfl rfl).trans (ledger_endFrame_other (by simp [hu])))
    · exact h
  case noticeFrameEnd =>
    exact guarded fun hu => scan_sound (keeps (ledger_endFrame_other (by simp [hu])))
  case holdRelease => exact scan_sound (keeps (s.ledger_withLink _ rfl rfl))
  case holdAssert => exact keeps (s.ledger_withLink _ rfl rfl)
  case headAgeWait => exact h
  case deferredReplyMove => exact keeps s.ledger_moveDeferred
  -- the receiver
  case syncByte =>
    split_ifs
    · exact h
    · exact keeps (s.ledger_receive _)
  case strayByte b => exact guarded fun _ => keeps (s.ledger_count _)
  case lineError => exact keeps (s.ledger_count _)
  case oversizeLength len => exact guarded fun _ => keeps (s.ledger_count _)
  case frameGapTimeout => exact guarded fun _ => keeps (s.ledger_count _)
  case frameComplete kind tag payload check => exact guarded fun _ => keeps (State.ledger_acceptFrame _ _ _ _ _)
  -- the timebase
  case timeMessage line => exact guarded fun _ => keeps (s.ledger_withTime _)
  case trefPulse frac => exact keeps (s.ledger_pulse frac)
  case missingPulse => exact guarded fun _ => keeps (State.ledger_addTime _ _)
  case holdoverLimit => exact guarded fun _ => keeps (State.ledger_addTime _ _)
  -- the command engine
  case unknownCommand => exact keeps (unknownCommand_ledger s _ rfl)
  case restart => exact keeps (restart_ledger s _ rfl)
  case identify | proceedingStatus | storeStatus | markerStatus | floorStatus | converterStatus | timeStatus =>
    exact status _ _ _
  case openCapture => exact runCommand_sound _ _ _ openCaptureBody_sound h
  case release => exact runCommand_sound _ _ _ releaseBody_sound h
  case readHeld => exact runCommand_sound _ _ _ readHeldBody_sound h
  case linkStatus => exact body linkStatusBody_ledger _ _ _
  case noticeMask => exact body noticeMaskBody_ledger _ _ _
  case laneSchedule => exact body laneScheduleBody_ledger _ _ _
  case closeCapture => exact body closeCaptureBody_ledger _ _ _
  case setChannel => exact body setChannelBody_ledger _ _ _
  case getChannel => exact body getChannelBody_ledger _ _ _
  case loadPattern => exact body loadPatternBody_ledger _ _ _
  case routePattern => exact body routePatternBody_ledger _ _ _
  case setProceeding => exact body setProceedingBody_ledger _ _ _
  case storePolicy => exact body storePolicyBody_ledger _ _ _
  case streamControl => exact body streamControlBody_ledger _ _ _
  case putMarker => exact body putMarkerBody_ledger _ _ _
  case floorConfig => exact body floorConfigBody_ledger _ _ _
  case trimConfig => exact body trimConfigBody_ledger _ _ _
  case trimNow => exact body trimNowBody_ledger _ _ _
  case converterRestore => exact body converterRestoreBody_ledger _ _ _
  case feedConfig => exact body feedConfigBody_ledger _ _ _
  case setTime => exact body setTimeBody_ledger _ _ _

/-- Settles O56: the laws are those of the ledger, every command keeps them there, and an idle step changes nothing. -/
theorem stepKeepsStoreLaws : Obligations.StepKeepsStoreLaws := by
  intro s t slots custody pins e
  have sound : s.ledger.Sound := (storeLaws_iff s).mp ⟨slots, custody, pins⟩
  rw [storeLaws_iff]
  rcases step_cases e with ⟨-, rfl⟩ | ⟨c, rest, -, e⟩
  · exact sound
  · exact exec_sound c (s := { s with pending := rest }) sound e

end Sys2Proof.Machine
end

section
/-! SUPPORT. A SET_PROCEEDING for an allowed change: what it places, which deferred replies it overtakes, when it waits
and what it leaves (R66, R69, R70). -/

namespace Sys2Proof.Machine

variable {s : State} {f : Command} {rest : List Command} {p : Proceeding} {option : Bool}

/-! ## The command engine -/

/-- The engine's two tests are the conditions of `State.Executes`. -/
theorem State.executes_of_engineFree {n : Nat} (hq : s.link.cmdQueue = f :: rest) (free : s.engineFree = true)
    (room : s.room n = true) : s.Executes f rest n := by
  simp only [State.engineFree, Bool.and_eq_true, beq_iff_eq, List.all_eq_true] at free
  obtain ⟨running, waiting⟩ := free
  exact ⟨hq, running, fun e he => by simpa [Deferred.waiting] using waiting e he, by simpa [State.room] using room⟩

/-- A head that may not execute waits, and nothing changes. -/
theorem runCommand_of_not_executes {code : Byte} {need : Command → State → Nat} {fits : Command → Bool}
    {body : Command → State → State} (hq : s.link.cmdQueue = f :: rest) (h : ¬ s.Executes f rest (need f s)) :
    runCommand code need fits body s = s := by
  rcases runCommand_cases code need fits body s with waits | ⟨g, rest', hg, -, free, room, -⟩
  · exact waits
  · obtain ⟨rfl, rfl⟩ : f = g ∧ rest = rest' := by simpa [hq] using hg
    exact absurd (State.executes_of_engineFree hq free room) h

/-- The answer takes the head off the queue, whether or not it has left it already. -/
theorem taken_popCommand (s : State) (f : Command) (rest : List Command) (option : Bool) (req : Request)
    (data : List Byte) : s.popCommand.taken f rest option req data = s.taken f rest option req data := by
  unfold State.taken
  rfl

/-! ## Superseded answers -/

/-- While every entry is WAITING, the picked entries are answered and leave the table. -/
theorem State.Executes.supersede_eq {n : Nat} (h : s.Executes f rest n) (pick : Deferred → Bool)
    (data : Deferred → List Byte) :
    s.supersede pick data = { s with link := { s.link with
      replyQueue := s.link.replyQueue
        ++ (s.link.deferred.filter pick).map fun e => .reply (e.reply .superseded (data e))
      deferred := s.link.deferred.filter fun e => !(s.link.deferred.filter pick).contains e } } := by
  obtain ⟨-, -, waiting, -⟩ := id h
  have left : (s.link.deferred.filter fun e => !(e.waiting && pick e)) =
      s.link.deferred.filter fun e => !(s.link.deferred.filter pick).contains e :=
    List.filter_congr fun e he => by simp [Deferred.waiting, waiting e he, he]
  simp only [State.supersede, h.waiting pick, left]

/-- None of request `n`'s pending routes stands when every pending route is another request's. -/
theorem not_routeStands (s : State) (n : Nat) :
    (!s.routeStands n) = allChans.all fun c => (s.chan c).pendingRoute.all fun x => x.request != n := by
  simp only [State.routeStands, List.not_any_eq_all_not]
  congr 1
  funext c
  cases (s.chan c).pendingRoute <;> rfl

/-! ## What an allowed change places -/

theorem readRequested_code (h : 1 ≤ p.code) : readRequested p.code = some p := by
  cases p with
  | standby => exact absurd h (by decide)
  | recess | session | sidebar | inCamera => rfl

theorem readOnOff_bit (b : Bool) : readOnOff (if b = true then 1 else 0) = some b := by cases b <;> rfl

/-- The bytes of a request for `p` pass the range tests (R66). -/
theorem checkedProceeding_eq (requestable : 1 ≤ p.code) (state : f.byte 1 = p.code)
    (opt : f.byte 2 = if option = true then 1 else 0) : f.checkedProceeding = some (p, option) := by
  simp [Command.checkedProceeding, state, opt, readRequested_code requestable, readOnOff_bit]

theorem chan_placeProceeding (s : State) (p : Proceeding) (c : Chan) :
    (s.placeProceeding p).chan c = if p.isRecord = true then { s.chan c with pendingRoute := none } else s.chan c := by
  cases h : p.isRecord <;> simp [State.placeProceeding, State.mapChans, State.chan, h]

/-- Only the channels and the pending proceeding change. -/
theorem placeProceeding_eq (s : State) (p : Proceeding) : s.placeProceeding p =
    { s with chans := (s.placeProceeding p).chans, cap := { s.cap with pendingProceeding := some p } } := by
  cases h : p.isRecord <;> simp [State.placeProceeding, State.mapChans, h]

@[simp] theorem placeProceeding_cap (s : State) (p : Proceeding) :
    (s.placeProceeding p).cap = { s.cap with pendingProceeding := some p } := by rw [placeProceeding_eq]

@[simp] theorem placeProceeding_link (s : State) (p : Proceeding) : (s.placeProceeding p).link = s.link := by
  rw [placeProceeding_eq]

theorem placeProceeding_popCommand (s : State) (p : Proceeding) :
    s.popCommand.placeProceeding p = (s.placeProceeding p).popCommand := by
  cases h : p.isRecord <;> simp [State.placeProceeding, State.mapChans, State.popCommand, State.chan, h]

/-- The data of an answer once `p` is pending (4.2). -/
theorem placeProceeding_data (s : State) (p q : Proceeding) : (s.placeProceeding p).proceedingData q =
    be 1 q.code ++ be 1 s.cap.proceeding.code ++ [0x01#8] ++ be 1 p.code ++ be 4 s.cap.period := by
  simp [State.proceedingData, optional]

/-! ## The command -/

/-- A request that R69 takes: it passes the range tests and names a change the table allows, during a capture. -/
structure TakesProceeding (s : State) (f : Command) (p : Proceeding) (option : Bool) : Prop where
  fits : f.Is 0x20#8 3
  checked : f.checkedProceeding = some (p, option)
  capturing : s.cap.state = .capturing
  change : p ≠ s.cap.proceeding
  allowed : transitionAllowed s.cap.proceeding p = true

/-- Its room: its own entry, and one for each reply it overtakes (R70). -/
theorem TakesProceeding.need (h : TakesProceeding s f p option) : proceedingNeed f s =
    1 + (s.link.deferred.filter fun e => e.waiting && (s.placeProceeding p).overtaken e).length := by
  simp [proceedingNeed, lengthIs, h.fits.2, h.checked, State.capturing, h.capturing, h.change, h.allowed]

/-- Its body: the pending set is changed, the overtaken replies are answered, then its own (R69). -/
theorem TakesProceeding.body (h : TakesProceeding s f p option) : setProceedingBody f s =
    ((s.placeProceeding p).supersede (s.placeProceeding p).overtaken (s.placeProceeding p).supersededData).answerTaken f
      option (.proceeding p) ((s.placeProceeding p).proceedingData p) := by
  simp only [setProceedingBody, h.checked, State.capturing, h.capturing, if_neg h.change, h.allowed]
  rfl

theorem TakesProceeding.popCommand (h : TakesProceeding s f p option) : TakesProceeding s.popCommand f p option :=
  ⟨h.fits, h.checked, h.capturing, h.change, h.allowed⟩

/-- It waits while the reply queue lacks the room (R70). -/
theorem TakesProceeding.waits (h : TakesProceeding s f p option) (hq : s.link.cmdQueue = f :: rest)
    (full : 8 < s.link.replyQueue.length + 1 + (s.link.deferred.filter (s.placeProceeding p).overtaken).length) :
    exec .setProceeding s = .next s := by
  refine congrArg Host.Outcome.next (runCommand_of_not_executes hq fun runs => ?_)
  obtain ⟨-, -, -, room⟩ := id runs
  rw [h.need, runs.waiting] at room
  omega

/-- It executes once the room is there, and its answer is the one `State.taken` names (R11, R69). -/
theorem TakesProceeding.executes (h : TakesProceeding s f p option)
    (runs : s.Executes f rest (1 + (s.link.deferred.filter (s.placeProceeding p).overtaken).length)) :
    exec .setProceeding s = .next (((s.placeProceeding p).supersede (s.placeProceeding p).overtaken
      (s.placeProceeding p).supersededData).taken f rest option (.proceeding p)
        ((s.placeProceeding p).proceedingData p)) := by
  have need : proceedingNeed f s = 1 + (s.link.deferred.filter (s.placeProceeding p).overtaken).length := by
    rw [h.need, runs.waiting]
  refine congrArg Host.Outcome.next ?_
  rw [runCommand_executes (need := proceedingNeed) (need ▸ runs) h.fits.1 (by simp [lengthIs, h.fits.2]),
    h.popCommand.body, placeProceeding_popCommand, ← taken_popCommand]
  exact answerTaken_eq_taken (by simp [State.popCommand, runs.1]) _ _ _

/-- Settles O40: the state the command leaves is that of `TakesProceeding.executes`, and the entries the statement picks
are those it overtakes. -/
theorem setProceedingTaken : Obligations.SetProceedingTaken := by
  intro s f rest p option old data fits requestable state opt capturing change allowed hdata
  have takes : TakesProceeding s f p option :=
    ⟨fits, checkedProceeding_eq requestable state opt, capturing, change, allowed⟩
  refine ⟨(s.placeProceeding p).chans, chan_placeProceeding s p, fun hold => ?_⟩
  have overtaken : old = s.link.deferred.filter (s.placeProceeding p).overtaken := by
    rw [hold]
    refine List.filter_congr fun e _ => ?_
    obtain ⟨tag, code, request, answer⟩ := e
    cases request with
    | proceeding q => rfl
    | route n => exact (not_routeStands _ n).symm
    | settings | close => rfl
  refine ⟨fun hq full => takes.waits hq (overtaken ▸ full), fun runs => ?_⟩
  have superseded : (s.placeProceeding p).supersededData = fun e =>
      match e.request with | .proceeding q => data q | _ => [] := by
    funext ⟨tag, code, request, answer⟩
    cases request with
    | proceeding q => exact (placeProceeding_data s p q).trans (hdata q).symm
    | settings | route | close => rfl
  have placed : (s.placeProceeding p).Executes f rest (1 + old.length) := by
    simpa only [State.Executes, placeProceeding_link] using runs
  rw [takes.executes (overtaken ▸ runs), placed.supersede_eq, placeProceeding_link, ← overtaken, superseded,
    placeProceeding_data, ← hdata, placeProceeding_cap]
  rw [placeProceeding_eq]
  rfl

end Sys2Proof.Machine
end

section
/-! SUPPORT. The notice flags (R171), and what the trim unit's work leaves alone: the state but for the trim unit itself,
three fields of every channel and the CONVERTER flag (R121 to R134). -/

namespace Sys2Proof.Machine

/-! ## Notice flags -/

/-- A flag once another kind's has been set. -/
@[simp] theorem flagSet_or (flags : BitVec 8) (j k : NoticeKind) :
    flagSet (flags ||| k.flag) j = (flagSet flags j || decide (j = k)) := by
  simp only [flagSet, NoticeKind.flag, BitVec.getLsbD_or, BitVec.getLsbD_twoPow]
  congr 1
  cases j <;> cases k <;> decide

@[simp] theorem flagSet_raise (s : State) (j k : NoticeKind) :
    flagSet (s.raise k).link.raised j = (flagSet s.link.raised j || decide (j = k)) := flagSet_or _ j k

/-- A flag once a kind's has been cleared. -/
@[simp] theorem flagSet_lower (s : State) (j k : NoticeKind) :
    flagSet (s.lower k).link.raised j = (flagSet s.link.raised j && decide (j ≠ k)) := by
  simp only [flagSet, State.lower, NoticeKind.flag, BitVec.getLsbD_and, BitVec.getLsbD_not, BitVec.getLsbD_twoPow]
  congr 1
  cases j <;> cases k <;> decide

/-- Of the flags only those of `ks` may have been set, and none has been cleared. -/
def RaisedWithin (ks : List NoticeKind) (flags flags' : BitVec 8) : Prop :=
  ∀ k, (flagSet flags k = true → flagSet flags' k = true) ∧ (k ∉ ks → flagSet flags' k = flagSet flags k)

namespace RaisedWithin

variable {ks : List NoticeKind} {a b c : BitVec 8}

theorem refl (ks : List NoticeKind) (a : BitVec 8) : RaisedWithin ks a a := fun _ => ⟨id, fun _ => rfl⟩

theorem trans (h : RaisedWithin ks a b) (g : RaisedWithin ks b c) : RaisedWithin ks a c := fun k =>
  ⟨fun hk => (g k).1 ((h k).1 hk), fun hk => ((g k).2 hk).trans ((h k).2 hk)⟩

theorem mono (h : RaisedWithin ks a b) {ks' : List NoticeKind} (hs : ∀ k ∈ ks, k ∈ ks') : RaisedWithin ks' a b :=
  fun k => ⟨(h k).1, fun hk => (h k).2 fun hm => hk (hs k hm)⟩

theorem flag {k : NoticeKind} (hk : k ∈ ks) (a : BitVec 8) : RaisedWithin ks a (a ||| k.flag) := fun j =>
  ⟨fun h => by simp [h], fun hj => by
    have : j ≠ k := fun h => hj (h ▸ hk)
    simp [this]⟩

theorem same (h : RaisedWithin ks a b) {k : NoticeKind} (hk : k ∉ ks) : flagSet b k = flagSet a k := (h k).2 hk

theorem keeps (h : RaisedWithin ks a b) {k : NoticeKind} (hk : flagSet a k = true) : flagSet b k = true := (h k).1 hk

end RaisedWithin

/-! ## What the trim unit leaves alone -/

/-- What the trim unit's work leaves of its own: the two settings and the trim clock (R118, R125). -/
def TrimUnit.fixed (x : TrimUnit) : Nat × Nat × Nat := (x.interval, x.limit, x.trimClock)

/-- What two states share when the trim unit's work leads from one to the other. -/
structure TrimFrame (s t : State) : Prop where
  pending : t.pending = s.pending
  ticks : t.ticks = s.ticks
  cap : t.cap = s.cap
  store : t.store = s.store
  stream : t.stream = s.stream
  marks : t.marks = s.marks
  floor : t.floor = s.floor
  time : t.time = s.time
  feed : t.feed = s.feed
  link : t.link = { s.link with raised := t.link.raised }
  chan : ∀ c, t.chan c = { s.chan c with
    mismatch := (t.chan c).mismatch, handover := (t.chan c).handover, noSpare := (t.chan c).noSpare }
  flags : RaisedWithin [.converter] s.link.raised t.link.raised
  events : s.trim.events.length ≤ 8 → t.trim.events.length ≤ 8
  fixed : t.trim.fixed = s.trim.fixed

namespace TrimFrame

variable {s t u : State}

theorem refl (s : State) : TrimFrame s s where
  pending := rfl
  ticks := rfl
  cap := rfl
  store := rfl
  stream := rfl
  marks := rfl
  floor := rfl
  time := rfl
  feed := rfl
  link := rfl
  chan _ := rfl
  flags := .refl _ _
  events := id
  fixed := rfl

theorem trans (h : TrimFrame s t) (g : TrimFrame t u) : TrimFrame s u where
  pending := g.pending.trans h.pending
  ticks := g.ticks.trans h.ticks
  cap := g.cap.trans h.cap
  store := g.store.trans h.store
  stream := g.stream.trans h.stream
  marks := g.marks.trans h.marks
  floor := g.floor.trans h.floor
  time := g.time.trans h.time
  feed := g.feed.trans h.feed
  link := by rw [g.link, h.link]
  chan c := by rw [g.chan c, h.chan c]
  flags := h.flags.trans g.flags
  events := g.events ∘ h.events
  fixed := g.fixed.trans h.fixed

theorem foldl {α : Type} {f : State → α → State} (h : ∀ s x, TrimFrame s (f s x)) (l : List α) (s : State) :
    TrimFrame s (l.foldl f s) :=
  foldl_keeps (P := TrimFrame s) (fun t x ht => ht.trans (h t x)) l (refl s)

theorem withTrim (s : State) (x : TrimUnit) (h : x.events = s.trim.events) (hf : x.fixed = s.trim.fixed) :
    TrimFrame s { s with trim := x } :=
  { refl s with
    events := fun hs => by rwa [← h] at hs
    fixed := hf }

theorem modConv (s : State) (v : Conv) (f : Converter → Converter) : TrimFrame s (s.modConv v f) := withTrim s _ (by rfl) (by rfl)

theorem mapConvs (s : State) (f : Conv → Converter → Converter) : TrimFrame s (s.mapConvs f) :=
  withTrim s _ (by rfl) (by simp only [TrimUnit.fixed])

theorem startTrim (s : State) (v : Conv) (k : TrimKind) : TrimFrame s (s.startTrim v k) := withTrim s _ (by rfl) (by rfl)

theorem serve (s : State) (c : Chan) (v : Conv) : TrimFrame s (s.serve c v) := withTrim s _ (by rfl) (by rfl)

theorem endRotation (s : State) (r : RotationState) : TrimFrame s (s.endRotation r) := withTrim s _ (by rfl) (by rfl)

theorem abandonRotation (s : State) : TrimFrame s s.abandonRotation := by
  simp only [State.abandonRotation]
  have g := mapConvs s fun _ x => if x.state = .shadow then { x with state := .spare } else x
  generalize s.mapConvs _ = t at g ⊢
  exact g.trans (withTrim t _ rfl rfl)

theorem clearStuck (s : State) : TrimFrame s s.clearStuck := mapConvs s _

theorem advanceTimer (s : State) : TrimFrame s s.advanceTimer := withTrim s _ (by rfl) (by rfl)

theorem addConverter (s : State) (e : ConverterEntry) : TrimFrame s (s.addConverter e) :=
  { refl s with
    link := rfl
    chan := fun _ => rfl
    flags := .flag (List.mem_singleton_self _) _
    events := fun h => pushListed_length h _ _ }

theorem modChan (s : State) (c : Chan) {f : Channel → Channel}
    (hf : ∀ ch, f ch = { ch with mismatch := (f ch).mismatch, handover := (f ch).handover, noSpare := (f ch).noSpare }) :
    TrimFrame s (s.modChan c f) :=
  { refl s with
    chan := fun d => by
      rw [State.chan_modChan]
      split
      · next h => subst h; exact hf _
      · rfl }

theorem joinNoSpare (s : State) (p : Nat) (c : Chan) : TrimFrame s (s.joinNoSpare p c) := by
  rcases joinNoSpare_cases s p c with ⟨-, h⟩ | ⟨-, h⟩ <;> rw [h]
  · exact refl s
  · exact (modChan s c fun _ => rfl).trans (addConverter _ _)

theorem handOver (s : State) (p : Nat) (c : Chan) (v : Conv) (k : ConverterCause) :
    TrimFrame s (s.handOver p c v k) :=
  ((serve s c v).trans (modChan _ c fun _ => rfl)).trans (addConverter _ _)

theorem mapChannel (p : Nat) (s : State) (c : Chan) : TrimFrame s (State.mapChannel p s c) := by
  simp only [State.mapChannel]
  split_ifs
  · exact serve s c _
  · exact serve s c _
  · exact serve s c _
  · exact (withTrim s _ (by rfl) (by rfl)).trans (joinNoSpare _ p c)

theorem buildMap (s : State) (p : Nat) : TrimFrame s (s.buildMap p) := by
  have g := foldl (mapChannel p) allChans s
  simp only [State.buildMap]
  generalize allChans.foldl (State.mapChannel p) s = t at g ⊢
  exact g.trans (withTrim t _ rfl rfl)

theorem afterTrim (s : State) (p : Nat) (v : Conv) : TrimFrame s (s.afterTrim p v) := by
  unfold State.afterTrim
  split_ifs
  · exact refl s
  · exact buildMap s p
  · exact startTrim s _ _

theorem completeTrim (s : State) (p : Nat) : TrimFrame s (s.completeTrim p) := by
  rcases completeTrim_cases s p with ⟨-, h⟩ | ⟨e, -, ⟨-, -, h⟩ | ⟨-, h⟩⟩ <;> rw [h]
  · exact refl s
  · exact ((withTrim s _ (by rfl) (by rfl)).trans (modConv _ _ _)).trans (afterTrim _ _ _)
  · exact (((withTrim s _ (by rfl) (by rfl)).trans (modConv _ _ _)).trans (addConverter _ _)).trans (afterTrim _ _ _)

theorem examine (p : Nat) (s : State) (v : Conv) : TrimFrame s (State.examine p s v) := by
  rcases examine_cases p s v with h | ⟨c, -, -, h | ⟨-, h⟩ | ⟨-, h⟩⟩ <;> rw [h]
  · exact refl s
  · exact modConv s v _
  · exact modConv s v _
  · exact (modConv s v _).trans (addConverter _ _)

theorem stuckExamination (s : State) (p : Nat) : TrimFrame s (s.stuckExamination p) := foldl (examine p) allConvs s

theorem replace (p : Nat) (s : State) (c : Chan) : TrimFrame s (State.replace p s c) := by
  rcases replace_cases p s c with ⟨-, h⟩ | ⟨-, ⟨v, -, h⟩ | ⟨-, r, -, h⟩ | ⟨-, -, h⟩⟩ <;> rw [h]
  · exact refl s
  · exact handOver s p c v _
  · exact ((handOver s p c _ _).trans (endRotation _ _)).trans (withTrim _ _ (by rfl) (by rfl))
  · exact joinNoSpare s p c

theorem replaceTarget (s : State) (p : Nat) : TrimFrame s (s.replaceTarget p) := by
  unfold State.replaceTarget
  split
  · exact refl s
  · split_ifs
    · exact (handOver s p _ _ _).trans (endRotation _ _)
    · exact refl s

theorem replaceFaulted (s : State) (p : Nat) (en : Chan → Bool) : TrimFrame s (s.replaceFaulted p en) :=
  (replaceTarget s p).trans (foldl (replace p) _ _)

theorem evaluateMatch (s : State) (p : Nat) : TrimFrame s (s.evaluateMatch p) := by
  rcases evaluateMatch_cases s p with ⟨-, h⟩ | ⟨r, -, ⟨-, h⟩ | ⟨-, -, h⟩ | ⟨-, -, h⟩⟩ <;> rw [h]
  · exact refl s
  · exact ((handOver s p _ _ _).trans (startTrim _ _ _)).trans (endRotation _ _)
  · exact ((startTrim s _ _).trans (modChan _ _ fun _ => rfl)).trans (endRotation _ _)
  · exact (((modConv s _ _).trans (addConverter _ _)).trans (handOver _ p _ _ _)).trans (endRotation _ _)

theorem beginRotation (s : State) (en : Chan → Bool) : TrimFrame s (s.beginRotation en) := by
  rcases beginRotation_cases s en with h | h | ⟨v, t, c, -, -, -, -, -, h⟩ <;> rw [h]
  · exact refl s
  · exact withTrim s _ (by rfl) (by rfl)
  · exact (modConv s v _).trans (withTrim _ _ (by rfl) (by rfl))

theorem trimBoundaryWork (s : State) (p : Nat) (en : Chan → Bool) : TrimFrame s (s.trimBoundaryWork p en) := by
  have ended : TrimFrame s (if s.trimDue then s.completeTrim p else s) := by
    split_ifs
    · exact completeTrim s p
    · exact refl s
  exact ((((ended.trans (stuckExamination _ p)).trans (advanceTimer _)).trans (replaceFaulted _ p en)).trans
    (evaluateMatch _ p)).trans (beginRotation _ en)

theorem trimFinalWork (s : State) : TrimFrame s s.trimFinalWork :=
  (stuckExamination s _).trans (abandonRotation _)

theorem trimOpenWork (s : State) : TrimFrame s s.trimOpenWork := by
  have g := (clearStuck s).trans (endRotation s.clearStuck .idle)
  simp only [State.trimOpenWork]
  generalize s.clearStuck.endRotation .idle = t at g ⊢
  exact (g.trans (withTrim t _ (by rfl) (by rfl))).trans (replaceFaulted _ _ _)

end TrimFrame

end Sys2Proof.Machine
end

section
/-! SUPPORT. What each part of a boundary changes: the posting, the commit, the marker step, the allocation and the floor
decision (R5 to R9, R95 to R99), each with the fields of a channel and the notice flags it may touch. -/

namespace Sys2Proof.Machine

/-! ## Slot requests and the marker step -/

/-- A granted slot request changes the store, and of the flags STORE's. -/
theorem slotRequest_frame {s t : State} {k : Class} (h : s.slotRequest k = some t) :
    ∃ st r, RaisedWithin [.store] s.link.raised r ∧ t = { s with store := st, link := { s.link with raised := r } } := by
  rcases slotRequest_some h with ⟨-, rfl⟩ | ⟨-, -, h⟩
  · rcases setFree_cases s (s.store.free - 1) with h | h <;> rw [h]
    · exact ⟨_, _, .refl _ _, rfl⟩
    · exact ⟨_, _, .flag (List.mem_singleton_self _) _, rfl⟩
  · obtain ⟨a, x, b, -, -, -, -, rfl⟩ := reclaimSlot_some h
    exact ⟨_, _, .flag (List.mem_singleton_self _) _, rfl⟩

/-- The marker step changes the store and the markers, and of the flags STORE's and MARKER's. -/
theorem takeMarkers_changes (s : State) (period : Nat) (tag : Tag) (st : Stamp) :
    ∃ store marks r, RaisedWithin [.store, .marker] s.link.raised r ∧ s.takeMarkers period tag st =
      { s with store := store, marks := marks, link := { s.link with raised := r } } := by
  unfold State.takeMarkers
  split
  · exact ⟨_, _, _, .refl _ _, rfl⟩
  · split
    · next t ht =>
      obtain ⟨store, r, hr, rfl⟩ := slotRequest_frame ht
      exact ⟨_, _, _, (hr.mono (by simp)).trans (.flag (k := .marker) (by simp) _), rfl⟩
    · exact ⟨_, _, _, .refl _ _, rfl⟩

/-! ## The allocation -/

/-- One audio request: the channel is granted a slot or refused one, and STORE may be raised (R9, R38). -/
theorem requestSlot_cases (s : State) (c : Chan) :
    (∃ t, s.slotRequest (s.chan c).settings.cls = some t ∧ State.requestSlot s c = t.modChan c Channel.granted) ∨
      (s.slotRequest (s.chan c).settings.cls = none ∧ State.requestSlot s c =
        if (s.chan c).starved then s.modChan c Channel.refused else (s.modChan c Channel.refused).raise .store) := by
  unfold State.requestSlot
  cases h : s.slotRequest (s.chan c).settings.cls with
  | some t => exact .inl ⟨t, rfl, rfl⟩
  | none => exact .inr ⟨rfl, rfl⟩

/-- What an allocation leaves of a channel. -/
def Channel.besidesSlots (ch : Channel) : Channel :=
  { ch with lastSeq := none, seqCount := 0, gapTally := 0, filling := none, starvation := 0, starved := false
            newlyStarved := false }

/-- What an allocation changes: the store, seven fields of the channels, and of the flags STORE's. -/
structure SlotFrame (s t : State) : Prop where
  eq : ∃ st ch r, RaisedWithin [.store] s.link.raised r ∧
    t = { s with store := st, chans := ch, link := { s.link with raised := r } }
  chan : ∀ c, (t.chan c).besidesSlots = (s.chan c).besidesSlots

theorem SlotFrame.refl (s : State) : SlotFrame s s := ⟨⟨_, _, _, .refl _ _, rfl⟩, fun _ => rfl⟩

theorem SlotFrame.trans {s t u : State} (h : SlotFrame s t) (g : SlotFrame t u) : SlotFrame s u := by
  obtain ⟨⟨st, ch, r, hr, rfl⟩, hc⟩ := h
  obtain ⟨⟨st', ch', r', hr', rfl⟩, gc⟩ := g
  exact ⟨⟨st', ch', r', hr.trans hr', rfl⟩, fun c => (gc c).trans (hc c)⟩

theorem requestSlot_frame (s : State) (c : Chan) : SlotFrame s (State.requestSlot s c) := by
  rcases requestSlot_cases s c with ⟨t, ht, h⟩ | ⟨-, h⟩ <;> rw [h]
  · obtain ⟨st, r, hr, rfl⟩ := slotRequest_frame ht
    refine ⟨⟨_, _, _, hr, rfl⟩, fun d => ?_⟩
    rw [State.chan_modChan]
    split
    · next hd => rw [hd]; rfl
    · rfl
  · have refused (d : Chan) : ((s.modChan c Channel.refused).chan d).besidesSlots = (s.chan d).besidesSlots := by
      rw [State.chan_modChan]
      split
      · next hd => rw [hd]; rfl
      · rfl
    split
    · exact ⟨⟨_, _, _, .refl _ _, rfl⟩, refused⟩
    · exact ⟨⟨_, _, _, .flag (List.mem_singleton_self _) _, rfl⟩, refused⟩

theorem requestSlots_frame (l : List Chan) (s : State) : SlotFrame s (l.foldl State.requestSlot s) :=
  foldl_keeps (P := SlotFrame s) (fun t c ht => ht.trans (requestSlot_frame t c)) l (.refl s)

theorem allocate_changes (s : State) : SlotFrame s s.allocate := requestSlots_frame _ s

/-! ## The floor decision -/

/-- What a floor decision changes: the floor unit, and of the flags FLOOR's. -/
def FloorFrame (s t : State) : Prop :=
  ∃ fl r, RaisedWithin [.floor] s.link.raised r ∧ t = { s with floor := fl, link := { s.link with raised := r } }

theorem FloorFrame.withFloor (s : State) (fl : Floor) : FloorFrame s { s with floor := fl } :=
  ⟨_, _, .refl _ _, rfl⟩

theorem FloorFrame.trans {s t u : State} (h : FloorFrame s t) (g : FloorFrame t u) : FloorFrame s u := by
  obtain ⟨fl, r, hr, rfl⟩ := h
  obtain ⟨fl', r', hr', rfl⟩ := g
  exact ⟨fl', r', hr.trans hr', rfl⟩

/-- A floor record is written at the tail of the log, and FLOOR is raised (R102, R103). -/
theorem addFloor_eq (s : State) (e : FloorRecord) :
    s.addFloor e = State.raise { s with floor := s.floor.recorded e } .floor := by
  unfold State.addFloor Floor.recorded Config.floorLogMax
  split_ifs <;> rfl

theorem changeHolder_frame (s : State) (h : Option Chan) (k : FloorCause) : FloorFrame s (s.changeHolder h k) := by
  rw [State.changeHolder, addFloor_eq]
  exact ⟨_, _, .flag (List.mem_singleton_self _) _, rfl⟩

theorem contest_frame (s : State) (h : Chan) : FloorFrame s (s.contest h) := by
  simp only [State.contest]
  split
  · exact .withFloor s _
  · split_ifs
    · exact changeHolder_frame s _ _
    · exact .withFloor s _

theorem openFloor_frame (s : State) : FloorFrame s s.openFloor := by
  unfold State.openFloor
  split
  · exact changeHolder_frame s _ _
  · exact changeHolder_frame s _ _
  · exact changeHolder_frame s _ _
  · exact .withFloor s _

/-- A floor decision: the holder contests or keeps the floor, or the floor is open (R97). -/
theorem floorDecision_cases (s : State) : ∃ t, s.floorDecision =
      { t with floor := { t.floor with lastDecision := some s.cap.period } } ∧
    ((∃ h, s.floor.holder = some h ∧ s.candidate h = true ∧ (s.chan h).activity ≠ .quiet ∧ t = s.contest h) ∨
      ((∀ h, s.floor.holder = some h → ¬ (s.candidate h = true ∧ (s.chan h).activity ≠ .quiet)) ∧
        t = s.openFloor)) := by
  cases hh : s.floor.holder with
  | none => exact ⟨s.openFloor, by simp only [State.floorDecision, hh], .inr ⟨by simp, rfl⟩⟩
  | some h =>
    by_cases hk : s.candidate h = true ∧ (s.chan h).activity ≠ .quiet
    · exact ⟨s.contest h, by simp only [State.floorDecision, hh, if_pos hk], .inl ⟨h, rfl, hk.1, hk.2, rfl⟩⟩
    · refine ⟨s.openFloor, by simp only [State.floorDecision, hh, if_neg hk], .inr ⟨?_, rfl⟩⟩
      rintro _ ⟨⟩
      exact hk

theorem floorDecision_frame (s : State) : FloorFrame s s.floorDecision := by
  obtain ⟨t, h, ⟨x, -, -, -, rfl⟩ | ⟨-, rfl⟩⟩ := floorDecision_cases s <;> rw [h]
  · exact (contest_frame s _).trans (.withFloor _ _)
  · exact (openFloor_frame s).trans (.withFloor _ _)

/-! ## The posting -/

/-- What an allocation or a posting leaves of a channel. -/
def Channel.besidesPosting (ch : Channel) : Channel :=
  { ch with gapTally := 0, filling := none, chain := 0#32, block := none, handover := false }

/-- What a posting changes: the store, five fields of the channels. -/
structure PostFrame (s t : State) : Prop where
  eq : ∃ st ch, t = { s with store := st, chans := ch }
  chan : ∀ c, (t.chan c).besidesPosting = (s.chan c).besidesPosting

theorem PostFrame.refl (s : State) : PostFrame s s := ⟨⟨_, _, rfl⟩, fun _ => rfl⟩

theorem PostFrame.trans {s t u : State} (h : PostFrame s t) (g : PostFrame t u) : PostFrame s u := by
  obtain ⟨⟨st, ch, rfl⟩, hc⟩ := h
  obtain ⟨⟨st', ch', rfl⟩, gc⟩ := g
  exact ⟨⟨st', ch', rfl⟩, fun c => (gc c).trans (hc c)⟩

/-- One channel's turn in step (a) (R5). -/
theorem postChannel_cases (before s : State) (c : Chan) :
    ((s.chan c).filling = none ∧ State.postChannel before s c = s.modChan c fun ch =>
      { ch with handover := ch.handover || (before.chan c).handover, block := none }) ∨
    ∃ l r, (s.chan c).filling = some l ∧ r = (s.audioRecord before c l).chained (s.chan c).chain ∧
      State.postChannel before s c = (s.post (.audio r)).modChan c fun ch =>
        { ch with filling := none, gapTally := 0, chain := r.check, block := none } := by
  unfold State.postChannel
  cases h : (s.chan c).filling with
  | none => exact .inl ⟨rfl, rfl⟩
  | some l => exact .inr ⟨l, _, rfl, rfl, rfl⟩

theorem postChannel_frame (before s : State) (c : Chan) : PostFrame s (State.postChannel before s c) := by
  rcases postChannel_cases before s c with ⟨-, h⟩ | ⟨l, r, -, -, h⟩ <;> rw [h] <;>
    refine ⟨⟨_, _, rfl⟩, fun d => ?_⟩ <;> rw [State.chan_modChan] <;> split
  · next hd => rw [hd]; rfl
  · rfl
  · next hd => rw [hd]; rfl
  · rfl

theorem postBlocks_frame (before s : State) : PostFrame s (s.postBlocks before) :=
  foldl_keeps (P := PostFrame s) (fun t c ht => ht.trans (postChannel_frame before t c)) allChans (.refl s)

/-! ## The commit -/

/-- The proceeding in force once the pending set has come into force (R7, R71). -/
abbrev State.newProceeding (s : State) : Proceeding := s.cap.pendingProceeding.getD s.cap.proceeding

theorem commitProceeding_cap (s : State) : s.commitProceeding.cap = { s.cap with
    proceeding := s.newProceeding, pendingProceeding := none
    changes := match s.cap.pendingProceeding with
      | none => s.cap.changes
      | some p => (pushListed s.cap.changes s.cap.changesUnlisted
          ⟨s.cap.number, s.cap.period, s.cap.proceeding, p, .command⟩).1
    changesUnlisted := match s.cap.pendingProceeding with
      | none => s.cap.changesUnlisted
      | some p => (pushListed s.cap.changes s.cap.changesUnlisted
          ⟨s.cap.number, s.cap.period, s.cap.proceeding, p, .command⟩).2 } := by
  cases h : s.cap.pendingProceeding <;> simp [State.commitProceeding, State.newProceeding, State.addChange, State.raise, h]
  rw [← h]

theorem commitProceeding_changes (s : State) : ∃ k r, RaisedWithin [.proceeding] s.link.raised r ∧
    flagSet r .proceeding = (flagSet s.link.raised .proceeding || s.cap.pendingProceeding.isSome) ∧
    s.commitProceeding = { s with cap := k, link := { s.link with raised := r } } := by
  unfold State.commitProceeding
  split
  · next h => exact ⟨_, _, .refl _ _, by simp [h], rfl⟩
  · next p h => exact ⟨_, _, .flag (k := .proceeding) (List.mem_singleton_self _) _, by simp [h], rfl⟩

/-- A channel once the pending set has come into force under proceeding `p` (R7). -/
def Channel.committed (ch : Channel) (p : Proceeding) : Channel :=
  { ch.commitSettings with
    route := if p.isRecord then .mic else (ch.pendingRoute.map PendingRoute.route).getD ch.route
    pendingRoute := none }

section
variable (s : State) (c : Chan) (v : Conv)

theorem State.chan_congr {s t : State} (h : t.chans = s.chans) (c : Chan) : t.chan c = s.chan c := by
  rw [State.chan, State.chan, h]

theorem State.conv_congr {s t : State} (h : t.trim.convs = s.trim.convs) (v : Conv) : t.conv v = s.conv v := by
  rw [State.conv, State.conv, h]

@[simp] theorem State.chan_mapConvs (f : Conv → Converter → Converter) : (s.mapConvs f).chan c = s.chan c :=
  State.chan_congr (s.mapConvs_chans f) c

@[simp] theorem State.conv_mapChans (f : Chan → Channel → Channel) : (s.mapChans f).conv v = s.conv v :=
  State.conv_congr (congrArg TrimUnit.convs (s.mapChans_trim f)) v

@[simp] theorem State.chan_answerAtBoundary (a : Deferred → Option Reply) : (s.answerAtBoundary a).chan c = s.chan c :=
  State.chan_congr rfl c

/-- A converter's stuck count is set to 0 when the commit disables its channel (R130). -/
theorem conv_commitSettings : s.commitSettings.conv v =
    if (s.channelOf v).any (fun c => (s.chan c).settings.enable && !s.enabledNext c) then
      { s.conv v with stuck := 0 } else s.conv v := by
  rw [State.commitSettings, State.conv_mapChans, State.conv_mapConvs]

@[simp] theorem chan_commitSettings : s.commitSettings.chan c = (s.chan c).commitSettings := by
  rw [State.commitSettings, State.chan_mapChans, State.chan_mapConvs]

/-- Of the trim unit only the converters change. -/
theorem commitSettings_trim : s.commitSettings.trim = { s.trim with convs := s.commitSettings.trim.convs } := by
  rw [State.commitSettings, State.mapChans_trim, State.mapConvs]

@[simp] theorem chan_commitRoutes : s.commitRoutes.chan c = { s.chan c with
    route := ((s.chan c).pendingRoute.map PendingRoute.route).getD (s.chan c).route, pendingRoute := none } := by
  rw [State.commitRoutes, State.chan_mapChans]

@[simp] theorem chan_revertRoutes : s.revertRoutes.chan c = { s.chan c with route := .mic } := by
  rw [State.revertRoutes, State.chan_mapChans]
end

/-! ### Answers at a boundary -/

/-- The table once the WAITING entries have been answered by request (R170). -/
theorem answerAtBoundary_eq (s : State) {answer : Deferred → Option Reply} {a : Request → Option (Result × List Byte)}
    (h : ∀ e, answer e = (a e.request).map fun p => e.reply p.1 p.2) :
    s.answerAtBoundary answer = { s with link := { s.link with deferred := answeredBy s.link.deferred a } } := by
  have entry (e : Deferred) : (if e.waiting then { e with answer := answer e } else e) =
      match e.answer, a e.request with
      | none, some (r, d) => { e with answer := some ⟨e.tag, e.code, r, d⟩ }
      | _, _ => e := by
    obtain ⟨tag, code, request, reply⟩ := e
    cases reply <;> cases ha : a request <;> simp [Deferred.waiting, h, ha, Deferred.reply]
  simp only [State.answerAtBoundary, answeredBy, entry] <;> rfl

/-- An answer given stays (R170). -/
theorem answeredBy_answeredBy (l : List Deferred) (a b : Request → Option (Result × List Byte)) :
    answeredBy (answeredBy l a) b = answeredBy l fun q => (a q).or (b q) := by
  rw [answeredBy, answeredBy, answeredBy, List.map_map]
  refine List.map_congr_left fun e _ => ?_
  obtain ⟨tag, code, request, reply⟩ := e
  cases reply <;> cases ha : a request <;> cases hb : b request <;> simp [ha, hb]

/-- The answers of a commit: OK for every request but CLOSE_CAPTURE's (R7, R71). -/
def commitAnswers (data : Proceeding → List Byte) : Request → Option (Result × List Byte)
  | .settings | .route _ => some (.ok, [])
  | .proceeding p => some (.ok, data p)
  | .close => none

/-- What step (b) makes of a state (R7). -/
structure CommitResult (s t : State) : Prop where
  pending : t.pending = s.pending
  ticks : t.ticks = s.ticks
  cap : t.cap = s.commitProceeding.cap
  chan : ∀ c, t.chan c = (s.chan c).committed s.newProceeding
  store : t.store = s.store
  stream : t.stream = s.stream
  marks : t.marks = s.marks
  floor : t.floor = s.floor
  trim : t.trim = s.commitSettings.trim
  time : t.time = s.time
  feed : t.feed = s.feed
  link : t.link = { s.link with
    raised := t.link.raised, deferred := answeredBy s.link.deferred (commitAnswers t.proceedingData) }
  flags : RaisedWithin [.proceeding] s.link.raised t.link.raised
  flag : flagSet t.link.raised .proceeding = (flagSet s.link.raised .proceeding || s.cap.pendingProceeding.isSome)

theorem commit_result (s : State) : CommitResult s s.commit := by
  obtain ⟨u, hu⟩ : ∃ u, u = s.commitSettings.commitRoutes := ⟨_, rfl⟩
  have ucap : u.cap = s.cap := by simp [hu]
  have same : u.commitProceeding.cap = s.commitProceeding.cap := by
    simp only [commitProceeding_cap, State.newProceeding, ucap]
  obtain ⟨k, r, flags, flag, hk⟩ := commitProceeding_changes u
  obtain ⟨w, hw⟩ : ∃ w, w = u.commitProceeding := ⟨_, rfl⟩
  obtain ⟨v, hv⟩ : ∃ v, v = if w.cap.proceeding.isRecord then w.revertRoutes else w := ⟨_, rfl⟩
  have commit : s.commit = { v with link := { v.link with
      deferred := answeredBy v.link.deferred (commitAnswers v.proceedingData) } } := by
    rw [← answerAtBoundary_eq v (answer := v.commitAnswer) fun e => ?_, hv, hw, hu]
    · rfl
    · unfold State.commitAnswer
      cases e.request <;> rfl
  have record : w.cap.proceeding = s.newProceeding := by rw [hw, same, commitProceeding_cap]
  have wcap : w.cap = s.commitProceeding.cap := by rw [hw, same]
  rw [hk] at hw
  have chan (c : Chan) : v.chan c = (s.chan c).committed s.newProceeding := by
    have wchan : w.chan c = u.chan c := State.chan_congr (by rw [hw]) c
    rw [hv, record, Channel.committed]
    split_ifs <;> simp [wchan, hu, Channel.commitSettings]
  have keeps {β : Type} (g : State → β) (hg : ∀ x : State, g x.revertRoutes = g x) : g v = g w := by
    rw [hv]; split_ifs <;> simp [hg]
  have link : v.link = { s.link with raised := r } := (keeps State.link (by simp)).trans (by simp [hw, hu])
  rw [show u.link = s.link by simp [hu]] at flags flag
  rw [ucap] at flag
  exact {
    pending := by rw [commit]; exact (keeps State.pending (by simp)).trans (by simp [hw, hu])
    ticks := by rw [commit]; exact (keeps State.ticks (by simp)).trans (by simp [hw, hu])
    cap := by rw [commit]; exact (keeps State.cap (by simp)).trans wcap
    chan := fun c => by rw [commit]; exact chan c
    store := by rw [commit]; exact (keeps State.store (by simp)).trans (by simp [hw, hu])
    stream := by rw [commit]; exact (keeps State.stream (by simp)).trans (by simp [hw, hu])
    marks := by rw [commit]; exact (keeps State.marks (by simp)).trans (by simp [hw, hu])
    floor := by rw [commit]; exact (keeps State.floor (by simp)).trans (by simp [hw, hu])
    trim := by rw [commit]; exact (keeps State.trim (by simp)).trans (by simp [hw, hu])
    time := by rw [commit]; exact (keeps State.time (by simp)).trans (by simp [hw, hu])
    feed := by rw [commit]; exact (keeps State.feed (by simp)).trans (by simp [hw, hu])
    link := by
      rw [commit]
      simp only [link]
      rfl
    flags := by rw [commit]; simpa [link] using flags
    flag := by rw [commit]; simpa [link] using flag }

end Sys2Proof.Machine
end

section
/-! SUPPORT. Which blocks of the state each command and event changes: one lemma for each, after which a law that reads
none of these blocks carries over. -/

namespace Sys2Proof.Machine

variable (f : Command) (s : State)

/-- What every outcome of the command engine keeps: the body is all there is to prove. -/
theorem runCommand_keeps {P : State → Prop} (code : Byte) (need : Command → State → Nat) (fits : Command → Bool)
    {body : Command → State → State} {s : State} (link : ∀ (t : State) (l : Link), P t → P { t with link := l })
    (hb : ∀ f t, P t → P (body f t)) (h : P s) : P (runCommand code need fits body s) := by
  rcases runCommand_cases code need fits body s with e | ⟨f, rest, -, -, -, -, ⟨-, e⟩ | ⟨-, e⟩⟩ <;> rw [e]
  · exact h
  · exact hb f _ (link _ _ h)
  · exact link _ _ (link _ _ h)

/-! ## The link controller alone -/

theorem reply_changes (r : Result) (data : List Byte) : ∃ l, s.reply f r data = { s with link := l } := ⟨_, rfl⟩

theorem answerTaken_changes (o : Bool) (q : Request) (data : List Byte) :
    ∃ l, s.answerTaken f o q data = { s with link := l } := by
  rcases answerTaken_cases s f o q data with ⟨-, -, h⟩ | ⟨-, h⟩ <;> rw [h] <;> exact ⟨_, rfl⟩

theorem count_changes (k : CounterName) : ∃ l, s.count k = { s with link := l } := by
  rcases count_cases s k with ⟨-, h⟩ | ⟨-, h⟩ <;> rw [h] <;> exact ⟨_, rfl⟩

theorem linkStatusBody_changes : ∃ l, linkStatusBody f s = { s with link := l } := by
  unfold linkStatusBody
  split
  · exact ⟨_, rfl⟩
  · simp only []
    split <;> exact ⟨_, rfl⟩

theorem noticeMaskBody_changes : ∃ l, noticeMaskBody f s = { s with link := l } := ⟨_, rfl⟩

theorem laneScheduleBody_changes : ∃ l, laneScheduleBody f s = { s with link := l } := by
  unfold laneScheduleBody
  split <;> exact ⟨_, rfl⟩

theorem getChannelBody_changes : ∃ l, getChannelBody f s = { s with link := l } := by
  unfold getChannelBody
  split <;> exact ⟨_, rfl⟩

theorem moveDeferred_changes : ∃ l, s.moveDeferred = { s with link := l } := by
  unfold State.moveDeferred
  split
  · exact ⟨_, rfl⟩
  · split <;> exact ⟨_, rfl⟩

theorem acceptFrame_changes (kind tag : Byte) (payload : List Byte) (check : Byte) :
    ∃ l, s.acceptFrame kind tag payload check = { s with link := l } := by
  unfold State.acceptFrame
  split
  · exact count_changes s _
  · split
    · exact count_changes s _
    · unfold State.offer
      split
      · exact ⟨_, rfl⟩
      · obtain ⟨l, h⟩ := count_changes s .busy
        rw [State.busyReply, h]
        split
        · exact ⟨_, rfl⟩
        · exact count_changes { s with link := l } _

theorem unknownCommand_changes : ∃ l, execUnknownCommand s = .next { s with link := l } := by
  unfold execUnknownCommand
  split
  · exact ⟨_, rfl⟩
  · split <;> exact ⟨_, rfl⟩

/-! ## The commands of each block -/

theorem mapChans_changes (g : Chan → Channel → Channel) : ∃ ch, s.mapChans g = { s with chans := ch } := ⟨_, rfl⟩

theorem restartBody_changes : ∃ k ch l, restartBody f s = { s with cap := k, chans := ch, link := l } := by
  simp only [restartBody, State.dropPending]
  rw [(mapChans_changes s _).choose_spec]
  exact ⟨_, _, _, rfl⟩

theorem closeCaptureBody_changes :
    ∃ b l, closeCaptureBody f s = { s with cap := { s.cap with closeRequest := b }, link := l } := by
  unfold closeCaptureBody
  split
  · exact ⟨s.cap.closeRequest, _, rfl⟩
  · split
    · exact ⟨s.cap.closeRequest, _, rfl⟩
    · simp only []
      rw [(answerTaken_changes _ _ _ _ _).choose_spec]
      exact ⟨true, _, rfl⟩

theorem loadPatternBody_changes :
    ∃ p l, loadPatternBody f s = { s with cap := { s.cap with pages := p }, link := l } := by
  unfold loadPatternBody
  split
  · exact ⟨_, _, rfl⟩
  · exact ⟨s.cap.pages, _, rfl⟩

theorem storePolicyBody_changes : ∃ st l, storePolicyBody f s = { s with store := st, link := l } := by
  unfold storePolicyBody
  split
  · exact ⟨_, _, rfl⟩
  · split
    · exact ⟨_, _, rfl⟩
    · simp only [State.setPolicy]
      split <;> exact ⟨_, _, rfl⟩

theorem streamControlBody_changes : ∃ u l, streamControlBody f s = { s with stream := u, link := l } := by
  unfold streamControlBody
  split
  · exact ⟨_, _, rfl⟩
  · split <;> exact ⟨_, _, rfl⟩

theorem setFree_changes (n : Nat) : ∃ l, s.setFree n = { s with store := { s.store with free := n }, link := l } := by
  rcases setFree_cases s n with h | h <;> rw [h] <;> exact ⟨_, rfl⟩

theorem releaseBody_changes : ∃ st l, releaseBody f s = { s with store := st, link := l } := by
  simp only [releaseBody]
  split
  · exact ⟨_, _, rfl⟩
  · simp only [State.releaseTo]
    rw [(setFree_changes _ _).choose_spec]
    exact ⟨_, _, rfl⟩

theorem readHeldBody_changes : ∃ st l, readHeldBody f s = { s with store := st, link := l } := by
  unfold readHeldBody
  split <;> exact ⟨_, _, rfl⟩

theorem putMarkerBody_changes : ∃ m l, putMarkerBody f s = { s with marks := m, link := l } := by
  unfold putMarkerBody
  split
  · exact ⟨_, _, rfl⟩
  · split
    · exact ⟨_, _, rfl⟩
    · split <;> exact ⟨_, _, rfl⟩

theorem floorConfigBody_changes : ∃ x l, floorConfigBody f s = { s with floor := x, link := l } := by
  unfold floorConfigBody
  split <;> exact ⟨_, _, rfl⟩

theorem trimConfigBody_changes : ∃ x l, trimConfigBody f s = { s with trim := x, link := l } := by
  unfold trimConfigBody
  split <;> exact ⟨_, _, rfl⟩

theorem trimNowBody_changes : ∃ x l, trimNowBody f s = { s with trim := x, link := l } := by
  unfold trimNowBody
  split
  · exact ⟨_, _, rfl⟩
  · split
    · split
      · exact ⟨_, _, rfl⟩
      · split <;> exact ⟨_, _, rfl⟩
    · split <;> exact ⟨_, _, rfl⟩
    all_goals exact ⟨_, _, rfl⟩

theorem converterRestoreBody_changes : ∃ x l, converterRestoreBody f s = { s with trim := x, link := l } := by
  unfold converterRestoreBody
  split
  · exact ⟨_, _, rfl⟩
  · split
    · exact ⟨_, _, rfl⟩
    · split <;> exact ⟨_, _, rfl⟩

theorem feedConfigBody_changes : ∃ x l, feedConfigBody f s = { s with feed := x, link := l } := by
  unfold feedConfigBody
  split <;> exact ⟨_, _, rfl⟩

theorem setTimeBody_changes : ∃ x l, setTimeBody f s = { s with time := x, link := l } := by
  simp only [setTimeBody]
  split
  · exact ⟨_, _, rfl⟩
  · split <;> exact ⟨_, _, rfl⟩

theorem setChannelBody_changes : ∃ ch l, setChannelBody f s = { s with chans := ch, link := l } := by
  unfold setChannelBody
  split
  · exact ⟨_, _, rfl⟩
  · split <;> rw [(mapChans_changes s _).choose_spec]
    · rw [(answerTaken_changes _ _ _ _ _).choose_spec]
      exact ⟨_, _, rfl⟩
    · exact ⟨_, _, rfl⟩

/-! ## The timebase -/

theorem addTime_changes (e : TimeEntry) : ∃ x l, s.addTime e = { s with time := x, link := l } := ⟨_, _, rfl⟩

theorem pulse_changes (frac : BitVec 8) : ∃ x l, s.pulse frac = { s with time := x, link := l } := by
  simp only [State.pulse]
  split
  · exact ⟨_, _, rfl⟩
  · simp only [State.openingPulse]
    split <;> exact ⟨_, _, rfl⟩
  · split
    · simp only [State.measuredPulse]
      split <;> split <;> exact ⟨_, _, rfl⟩
    · exact ⟨_, _, rfl⟩

/-! ## The sample instant -/

theorem takeStamp_changes : ∃ p x, s.takeStamp =
    { s with cap := { s.cap with stamp := p }, time := { s.time with stepMark := x } } := by
  unfold State.takeStamp
  split
  · exact ⟨_, _, rfl⟩
  · exact ⟨s.cap.stamp, s.time.stepMark, rfl⟩

/-! ## Routes and the proceeding -/

theorem placeRoutes_changes (r : Route) : ∃ ch, s.placeRoutes f r =
    { s with chans := ch, cap := { s.cap with nextRequest := s.cap.nextRequest + 1 } } := by
  simp only [State.placeRoutes]
  rw [(mapChans_changes s _).choose_spec]
  exact ⟨_, rfl⟩

theorem supersede_changes (p : Deferred → Bool) (d : Deferred → List Byte) :
    ∃ l, s.supersede p d = { s with link := l } := ⟨_, rfl⟩

theorem routePatternBody_changes : ∃ n ch l, routePatternBody f s =
    { s with cap := { s.cap with nextRequest := n }, chans := ch, link := l } := by
  unfold routePatternBody
  split
  · exact ⟨s.cap.nextRequest, s.chans, _, rfl⟩
  · next r o _ =>
    split
    · rw [(mapChans_changes s _).choose_spec]
      exact ⟨s.cap.nextRequest, _, _, rfl⟩
    · split
      · exact ⟨s.cap.nextRequest, s.chans, _, rfl⟩
      · simp only []
        rw [(answerTaken_changes _ _ _ _ _).choose_spec, (supersede_changes _ _ _).choose_spec,
          (placeRoutes_changes f s r).choose_spec]
        exact ⟨_, _, _, rfl⟩

theorem placeProceeding_changes (p : Proceeding) : ∃ ch, s.placeProceeding p =
    { s with chans := ch, cap := { s.cap with pendingProceeding := some p } } := ⟨_, placeProceeding_eq s p⟩

theorem setProceedingBody_changes : ∃ p ch l, setProceedingBody f s =
    { s with cap := { s.cap with pendingProceeding := p }, chans := ch, link := l } := by
  unfold setProceedingBody
  split
  · exact ⟨s.cap.pendingProceeding, s.chans, _, rfl⟩
  · next p o _ =>
    split
    · exact ⟨s.cap.pendingProceeding, s.chans, _, rfl⟩
    · split
      · exact ⟨none, s.chans, _, rfl⟩
      · split
        · simp only []
          rw [(answerTaken_changes _ _ _ _ _).choose_spec, (supersede_changes _ _ _).choose_spec,
            (placeProceeding_changes s p).choose_spec]
          exact ⟨some p, _, _, rfl⟩
        · exact ⟨s.cap.pendingProceeding, s.chans, _, rfl⟩

/-! ## The lane -/

/-- What a scan may change: a notice's sending empties its owner's lists, a block leaves the posted queue, and the link
controller starts a frame (R50, R171, R173). -/
structure ScanFrame (s t : State) : Prop where
  pending : t.pending = s.pending
  ticks : t.ticks = s.ticks
  stream : t.stream = s.stream
  feed : t.feed = s.feed
  cap : t.cap = { s.cap with
    notice := t.cap.notice, changes := t.cap.changes, changesUnlisted := t.cap.changesUnlisted }
  chan : ∀ c, ∃ b, t.chan c = { s.chan c with newlyStarved := b }
  store : t.store = { s.store with
    posted := t.store.posted, sending := t.store.sending
    reclaimList := t.store.reclaimList, notListed := t.store.notListed }
  marks : t.marks = { s.marks with takings := t.marks.takings, unlisted := t.marks.unlisted }
  floor : t.floor = { s.floor with log := t.floor.log, overrun := t.floor.overrun }
  trim : t.trim = { s.trim with events := t.trim.events, unlisted := t.trim.unlisted }
  time : t.time = { s.time with events := t.time.events, unlisted := t.time.unlisted }
  link : t.link = { s.link with
    raised := t.link.raised, changes := t.link.changes, position := t.link.position, lane := t.link.lane
    restart := t.link.restart }
  records : ∀ r ∈ t.store.records, r ∈ s.store.records
  changes : t.cap.changes.length ≤ s.cap.changes.length
  takings : t.marks.takings.length ≤ s.marks.takings.length
  converterEvents : t.trim.events.length ≤ s.trim.events.length
  timeEvents : t.time.events.length ≤ s.time.events.length
  reclaimList : t.store.reclaimList.length ≤ s.store.reclaimList.length
  log : t.floor.log.length ≤ s.floor.log.length
  floorFlag : flagSet s.link.raised .floor = !s.floor.log.isEmpty → flagSet t.link.raised .floor = !t.floor.log.isEmpty

namespace ScanFrame

variable {s t u : State}

theorem refl (s : State) : ScanFrame s s where
  pending := rfl
  ticks := rfl
  stream := rfl
  feed := rfl
  cap := rfl
  chan _ := ⟨_, rfl⟩
  store := rfl
  marks := rfl
  floor := rfl
  trim := rfl
  time := rfl
  link := rfl
  records _ := id
  changes := le_rfl
  takings := le_rfl
  converterEvents := le_rfl
  timeEvents := le_rfl
  reclaimList := le_rfl
  log := le_rfl
  floorFlag := id

theorem trans (h : ScanFrame s t) (g : ScanFrame t u) : ScanFrame s u where
  pending := g.pending.trans h.pending
  ticks := g.ticks.trans h.ticks
  stream := g.stream.trans h.stream
  feed := g.feed.trans h.feed
  cap := by rw [g.cap, h.cap]
  chan c := by
    obtain ⟨b, hb⟩ := h.chan c
    obtain ⟨b', hb'⟩ := g.chan c
    exact ⟨b', by rw [hb', hb]⟩
  store := by rw [g.store, h.store]
  marks := by rw [g.marks, h.marks]
  floor := by rw [g.floor, h.floor]
  trim := by rw [g.trim, h.trim]
  time := by rw [g.time, h.time]
  link := by rw [g.link, h.link]
  records r hr := h.records r (g.records r hr)
  changes := g.changes.trans h.changes
  takings := g.takings.trans h.takings
  converterEvents := g.converterEvents.trans h.converterEvents
  timeEvents := g.timeEvents.trans h.timeEvents
  reclaimList := g.reclaimList.trans h.reclaimList
  log := g.log.trans h.log
  floorFlag hf := g.floorFlag (h.floorFlag hf)

theorem withLane (s : State) (x : Option LaneFrame) : ScanFrame s { s with link := { s.link with lane := x } } :=
  { refl s with link := rfl }

theorem withPosition (s : State) (i : Fin 16) : ScanFrame s { s with link := { s.link with position := i } } :=
  { refl s with link := rfl }

theorem withRestart (s : State) (p : RestartPhase) : ScanFrame s { s with link := { s.link with restart := p } } :=
  { refl s with link := rfl }

theorem startFrame (s : State) (use : LaneUse) (kind tag : Byte) (payload : List Byte) :
    ScanFrame s (s.startFrame use kind tag payload) := withLane s _

/-- Another kind's flag is cleared. -/
theorem lower (s : State) {k : NoticeKind} (hk : k ≠ .floor) : ScanFrame s (s.lower k) :=
  { refl s with
    link := rfl
    floorFlag := fun h => by simpa [Ne.symm hk] using h }

theorem noticeSent (s : State) (k : NoticeKind) : ScanFrame s (s.noticeSent k) := by
  cases k with
  | capture => exact { lower s (k := .capture) (by decide) with cap := rfl }
  | store =>
    obtain ⟨u, hu⟩ : ∃ u, u = (s.lower .store).mapChans fun _ ch => { ch with newlyStarved := false } := ⟨_, rfl⟩
    have chan (c : Chan) : u.chan c = { s.chan c with newlyStarved := false } := by rw [hu, State.chan_mapChans]; rfl
    obtain ⟨ch, h⟩ := mapChans_changes (s.lower .store) fun _ ch => { ch with newlyStarved := false }
    simp only [State.noticeSent]
    rw [← hu]
    rw [h] at hu
    subst hu
    exact { lower s (k := .store) (by decide) with
      chan := fun c => ⟨_, chan c⟩
      store := rfl, reclaimList := Nat.zero_le _ }
  | converter => exact { lower s (k := .converter) (by decide) with trim := rfl, converterEvents := Nat.zero_le _ }
  | time => exact { lower s (k := .time) (by decide) with time := rfl, timeEvents := Nat.zero_le _ }
  | proceeding => exact { lower s (k := .proceeding) (by decide) with cap := rfl, changes := Nat.zero_le _ }
  | marker => exact { lower s (k := .marker) (by decide) with marks := rfl, takings := Nat.zero_le _ }
  | floor =>
    have shorter : (s.floor.log.drop 8).length ≤ s.floor.log.length := by simp
    simp only [State.noticeSent]
    split
    · next h =>
      exact { refl s with
        link := rfl, floor := rfl, log := shorter
        floorFlag := fun _ => by simp_all }
    · next h =>
      exact { refl s with
        link := rfl, floor := rfl, log := shorter
        floorFlag := fun _ => by simp_all }
  | link => exact { lower s (k := .link) (by decide) with link := rfl }

theorem sendBlock (s : State) : ScanFrame s s.sendBlock := by
  unfold State.sendBlock
  split
  · exact refl s
  · next p rest hp =>
    exact { refl s with
      link := rfl, store := rfl
      records := fun r hr => by
        simp only [Store.records, State.startFrame, List.mem_append, Option.mem_toList] at hr ⊢
        rw [hp]
        aesop }

theorem sendReply (s : State) : ScanFrame s s.sendReply := by
  unfold State.sendReply
  split
  · exact refl s
  · exact startFrame s _ _ _ _
  · exact startFrame s _ _ _ _

theorem sendNotice (s : State) : ScanFrame s s.sendNotice := by
  unfold State.sendNotice
  split
  · exact refl s
  · exact (noticeSent s _).trans (startFrame _ _ _ _ _)

theorem scan (s : State) : ScanFrame s s.scan := by
  unfold State.scan
  split
  · exact refl s
  · split
    · unfold State.scanSchedule
      split
      · exact refl s
      · next i _ =>
        refine trans (t := s.sendSource (s.link.schedule.get i)) ?_ (withPosition _ _)
        cases s.link.schedule.get i
        · exact sendReply s
        · exact sendNotice s
        · exact sendBlock s
    · exact (startFrame s _ _ _ _).trans (withRestart _ _)
    · exact refl s
    · exact refl s

end ScanFrame

end Sys2Proof.Machine
end

section
/-! SUPPORT. What a sample instant, each boundary and an OPEN_CAPTURE make of the state, part after part; and the
proceeding's law (R1, R10, R65, R77). -/

namespace Sys2Proof.Machine

/-! ## The values at reset and what a tick leaves -/

theorem chan_reset (c : Chan) : State.reset.chan c = Channel.reset := by
  simp [State.chan, State.reset, Vector.get]

theorem chan_takeStamp (s : State) (c : Chan) : s.takeStamp.chan c = s.chan c := by
  obtain ⟨p, x, h⟩ := takeStamp_changes s
  rw [h]
  rfl

theorem chan_tickTrim (s : State) (raw : Vector Raw 26) (c : Chan) : (s.tickTrim raw).chan c = s.chan c := by
  have (t : State) (x : TrimUnit) : { t with trim := x }.chan c = t.chan c := rfl
  simp only [State.tickTrim, this]
  split_ifs
  · exact State.chan_mapConvs s c _
  · rfl

/-- A channel after a sample instant (R19 to R21). -/
theorem chan_tick (s : State) (raw : Vector Raw 26) (c : Chan) : (s.tick raw).chan c =
    if s.runs c then (s.chan c).take s.cap.instant (s.sampleScaled raw c) else s.chan c := by
  refine (State.chan_congr (s := ((s.takeSamples raw).tickTrim raw).takeStamp) rfl c).trans ?_
  rw [chan_takeStamp, chan_tickTrim, State.takeSamples, State.chan_mapChans]

theorem cap_tickTrim (s : State) (raw : Vector Raw 26) : (s.tickTrim raw).cap = s.cap := by
  simp only [State.tickTrim]
  split_ifs
  · exact State.mapConvs_cap s _
  · rfl

theorem time_tickTrim (s : State) (raw : Vector Raw 26) : (s.tickTrim raw).time = s.time := by
  simp only [State.tickTrim]
  split_ifs
  · exact State.mapConvs_time s _
  · rfl

/-- The capture engine once the stamp has been read, from the timebase it reads it from (R4, R149). -/
theorem cap_takeStamp {s t : State} (cap : t.cap = s.cap) (time : t.time = s.time) : t.takeStamp.cap = { s.cap with
    stamp := if s.capturing = true ∧ s.cap.instant = 0 then s.periodStamp else s.cap.stamp } := by
  have capturing : t.capturing = s.capturing := congrArg (fun k => k.state == CaptureState.capturing) cap
  have stamp : t.periodStamp = s.periodStamp := by simp only [State.periodStamp, State.stampNow, cap, time]
  unfold State.takeStamp
  by_cases h : s.capturing = true ∧ s.cap.instant = 0
  · rw [if_pos (by rwa [capturing, cap]), if_pos h, stamp, cap]
  · rw [if_neg (by rwa [capturing, cap]), if_neg h, cap]

/-- The capture engine after a sample instant (R4, R149). -/
theorem cap_tick (s : State) (raw : Vector Raw 26) : (s.tick raw).cap = { s.cap with
    instant := if s.capturing then s.cap.instant + 1 else s.cap.instant
    stamp := if s.capturing = true ∧ s.cap.instant = 0 then s.periodStamp else s.cap.stamp } := by
  have stamped := cap_takeStamp (s := s) (t := (s.takeSamples raw).tickTrim raw)
    (by rw [cap_tickTrim, State.takeSamples, State.mapChans_cap])
    (by rw [time_tickTrim, State.takeSamples, State.mapChans_time])
  simp only [State.tick, stamped]

/-! ## What the proceeding's law reads -/

section
variable {s t : State}

theorem State.ProceedingLaw.congr (h : s.ProceedingLaw) (state : t.cap.state = s.cap.state)
    (proceeding : t.cap.proceeding = s.cap.proceeding)
    (pending : t.cap.pendingProceeding = s.cap.pendingProceeding)
    (routes : ∀ c, (t.chan c).route = (s.chan c).route ∧ (t.chan c).pendingRoute = (s.chan c).pendingRoute) :
    t.ProceedingLaw := by
  simp only [State.ProceedingLaw, State.recordState, state, proceeding, pending, fun c => (routes c).1,
    fun c => (routes c).2]
  exact h

theorem State.ProceedingLaw.of_trim (h : s.ProceedingLaw) (g : TrimFrame s t) : t.ProceedingLaw :=
  h.congr (by rw [g.cap]) (by rw [g.cap]) (by rw [g.cap]) fun c => by rw [g.chan c]; exact ⟨rfl, rfl⟩

theorem State.ProceedingLaw.of_scan (h : s.ProceedingLaw) (g : ScanFrame s t) : t.ProceedingLaw :=
  h.congr (by rw [g.cap]) (by rw [g.cap]) (by rw [g.cap]) fun c => by
    obtain ⟨b, hb⟩ := g.chan c
    rw [hb]
    exact ⟨rfl, rfl⟩

/-- In STANDBY nothing is in force and nothing pending. -/
theorem proceedingLaw_standby (state : t.cap.state = .standby) (proceeding : t.cap.proceeding = .standby)
    (pending : t.cap.pendingProceeding = none) (routes : ∀ c, (t.chan c).pendingRoute = none) : t.ProceedingLaw := by
  refine ⟨by simp [state, proceeding], fun _ => pending, by simp [pending], ?_, fun _ => routes⟩
  rw [proceeding]
  exact fun h => nomatch h

/-- While CAPTURING with nothing pending, a record state has its microphones. -/
theorem proceedingLaw_capturing (state : t.cap.state = .capturing) (proceeding : t.cap.proceeding ≠ .standby)
    (pending : t.cap.pendingProceeding = none) (routes : ∀ c, (t.chan c).pendingRoute = none)
    (mics : t.cap.proceeding.isRecord = true → ∀ c, (t.chan c).route = .mic) : t.ProceedingLaw :=
  ⟨by simp [state, proceeding], by simp [state], by simp [pending], mics, fun _ => routes⟩

/-! ## The boundaries -/

theorem chan_completeBlocks (s : State) (c : Chan) : s.completeBlocks.chan c = (s.chan c).complete :=
  State.chan_mapChans s c _

theorem chan_clearMarks (s : State) (c : Chan) : s.clearMarks.chan c = { s.chan c with handover := false } :=
  State.chan_mapChans s c _

/-- The completion of a block touches the level code and the activity alone (R22, R92). -/
theorem Channel.complete_eq (ch : Channel) : ch.complete =
    { ch with lastLevel := ch.heard.1, activity := ch.heard.2.1, hangCounter := ch.heard.2.2 } := by
  cases h : ch.block <;> simp only [Channel.complete, Channel.heard, h]
  rw [← h]

theorem frame_completeBlocks (s : State) : s.completeBlocks = { s with chans := s.completeBlocks.chans } := rfl

/-- What stands between a boundary's begin and its step (b): the blocks completed, the trim unit's work done, the FILLING
blocks posted. -/
structure EndingFrame (s t : State) : Prop where
  pending : t.pending = s.pending
  ticks : t.ticks = s.ticks
  cap : t.cap = s.cap
  stream : t.stream = s.stream
  marks : t.marks = s.marks
  floor : t.floor = s.floor
  time : t.time = s.time
  feed : t.feed = s.feed
  link : t.link = { s.link with raised := t.link.raised }
  flags : RaisedWithin [.converter] s.link.raised t.link.raised
  chan : ∀ c, t.chan c = { s.chan c with
    lastLevel := (s.chan c).heard.1, activity := (s.chan c).heard.2.1, hangCounter := (s.chan c).heard.2.2
    gapTally := (t.chan c).gapTally, filling := (t.chan c).filling, chain := (t.chan c).chain
    block := (t.chan c).block, handover := (t.chan c).handover, mismatch := (t.chan c).mismatch
    noSpare := (t.chan c).noSpare }

theorem Channel.eq_of_besidesPosting {x y : Channel} (h : x.besidesPosting = y.besidesPosting) : x = { y with
    gapTally := x.gapTally, filling := x.filling, chain := x.chain, block := x.block, handover := x.handover } := by
  simp only [Channel.besidesPosting, Channel.mk.injEq] at h
  obtain ⟨a, b, c, d, -, e, f, g, -, -, i, j, k, -, l, m, n, -, o⟩ := h
  cases x
  simp_all

theorem endingFrame {s a b t : State} (begun : ∃ ch, a = { s with chans := ch })
    (complete : ∀ c, a.chan c = { (s.chan c).complete with handover := (a.chan c).handover }) (trim : TrimFrame a b)
    (post : PostFrame b t) : EndingFrame s t := by
  obtain ⟨ch, rfl⟩ := begun
  obtain ⟨⟨st, ch', rfl⟩, posted⟩ := post
  exact {
    pending := trim.pending
    ticks := trim.ticks
    cap := trim.cap
    stream := trim.stream
    marks := trim.marks
    floor := trim.floor
    time := trim.time
    feed := trim.feed
    link := trim.link
    flags := trim.flags
    chan := fun c => by
      have h := Channel.eq_of_besidesPosting (posted c)
      rw [trim.chan c, complete c, Channel.complete_eq] at h
      rw [h] }

/-- The blocks completed, the trim unit's work done and the FILLING blocks posted, at a boundary that is not final. -/
def State.ended (s : State) : State :=
  (s.completeBlocks.clearMarks.trimBoundaryWork (wrapInc s.cap.period) s.enabledNext).postBlocks s

/-- The same at a final boundary. -/
def State.endedFinally (s : State) : State := s.completeBlocks.trimFinalWork.postBlocks s

theorem ended_frame (s : State) : EndingFrame s s.ended := by
  have begun : ∃ ch, s.completeBlocks.clearMarks = { s with chans := ch } := by
    rw [State.clearMarks, (mapChans_changes _ _).choose_spec, State.completeBlocks, (mapChans_changes _ _).choose_spec]
    exact ⟨_, rfl⟩
  exact endingFrame begun (fun c => by rw [chan_clearMarks, chan_completeBlocks]) (.trimBoundaryWork _ _ _)
    (postBlocks_frame s _)

theorem endedFinally_frame (s : State) : EndingFrame s s.endedFinally :=
  endingFrame (a := s.completeBlocks) (mapChans_changes s _) (fun c => by rw [chan_completeBlocks]) (.trimFinalWork _)
    (postBlocks_frame s _)

/-- The state of step (b): the FILLING blocks posted, the new period begun. -/
def State.renumbered (s : State) : State := { s.ended with cap := { s.ended.cap with period := wrapInc s.cap.period } }

/-- Steps (a) and (b) in turn, with the number of the new period between them (R5, R7). -/
theorem committed_result (s : State) : CommitResult s.renumbered s.committed := by
  have h : s.committed = s.renumbered.commit := by simp only [State.committed, State.renumbered, State.ended]
  rw [h]
  exact commit_result _

/-- What follows the commit: the marker step, the allocation and the floor decision (R8, R9, R95). -/
structure OpeningFrame (s t : State) : Prop where
  eq : ∃ st ch m fl r, RaisedWithin [.store, .marker, .floor] s.link.raised r ∧ t = { s with
    cap := { s.cap with instant := 0 }, store := st, chans := ch, marks := m, floor := fl
    link := { s.link with raised := r } }
  chan : ∀ c, (t.chan c).besidesSlots = (s.chan c).besidesSlots

theorem opening_frame (s : State) : OpeningFrame s.committed s.periodBoundary := by
  rw [periodBoundary_eq]
  generalize s.committed = u
  simp only []
  obtain ⟨st, m, r, hr, hv⟩ := takeMarkers_changes u u.cap.period (markerTag u.cap.proceeding) u.stampNow
  generalize u.takeMarkers u.cap.period (markerTag u.cap.proceeding) u.stampNow = v at hv ⊢
  obtain ⟨⟨st', ch, r', hr', hw⟩, slots⟩ := allocate_changes v
  generalize v.allocate = w at hw slots ⊢
  obtain ⟨fl, r'', hr'', hx⟩ := floorDecision_frame w
  generalize w.floorDecision = x at hx ⊢
  subst hv hw hx
  exact ⟨⟨st', ch, m, fl, r'', ((hr.mono (by simp)).trans (hr'.mono (by simp))).trans (hr''.mono (by simp)), rfl⟩,
    slots⟩

/-- The capture engine after a boundary that is not final (R4, R7). -/
theorem cap_periodBoundary (s : State) : s.periodBoundary.cap =
    { (State.commitProceeding { s with cap := { s.cap with period := wrapInc s.cap.period } }).cap with
      instant := 0 } := by
  obtain ⟨⟨st, ch, m, fl, r, -, h⟩, -⟩ := opening_frame s
  rw [h, (committed_result s).cap, commitProceeding_cap, commitProceeding_cap]
  simp only [State.renumbered, State.newProceeding, (ended_frame s).cap]

theorem Channel.eq_of_besidesSlots {x y : Channel} (h : x.besidesSlots = y.besidesSlots) : x = { y with
    lastSeq := x.lastSeq, seqCount := x.seqCount, gapTally := x.gapTally, filling := x.filling
    starvation := x.starvation, starved := x.starved, newlyStarved := x.newlyStarved } := by
  simp only [Channel.besidesSlots, Channel.mk.injEq] at h
  obtain ⟨a, b, c, d, e, f, -, -, -, -, -, -, -, g, i, j, k, l, m⟩ := h
  cases x
  simp_all

/-- The routes of a channel after a boundary that is not final (R7). -/
theorem routes_periodBoundary (s : State) (c : Chan) : (s.periodBoundary.chan c).pendingRoute = none ∧
    (s.periodBoundary.chan c).route = if s.newProceeding.isRecord = true then .mic else
      ((s.chan c).pendingRoute.map PendingRoute.route).getD (s.chan c).route := by
  have opened := Channel.eq_of_besidesSlots ((opening_frame s).chan c)
  have ended := (ended_frame s).chan c
  have proceeding : s.renumbered.newProceeding = s.newProceeding := by
    simp only [State.newProceeding, State.renumbered, (ended_frame s).cap]
  have chan : s.renumbered.chan c = s.ended.chan c := State.chan_congr (by simp only [State.renumbered]) c
  rw [(committed_result s).chan c, proceeding, chan] at opened
  rw [opened, ended]
  exact ⟨rfl, rfl⟩

/-! ### The final boundary -/

/-- The answers of steps 2 and 3 of a final boundary (R13, R72). -/
def closingAnswers (data : Proceeding → List Byte) : Request → Option (Result × List Byte)
  | .settings => some (.ok, [])
  | .route _ => some (.superseded, [])
  | .proceeding p => some (.superseded, data p)
  | .close => none

/-- The answers of step 2 alone (R13, R72). -/
def discardAnswers (data : Proceeding → List Byte) : Request → Option (Result × List Byte)
  | .route _ => some (.superseded, [])
  | .proceeding p => some (.superseded, data p)
  | .settings | .close => none

/-- The answer of step 3 (R13). -/
def settingsAnswer : Request → Option (Result × List Byte)
  | .settings => some (.ok, [])
  | .route _ | .proceeding _ | .close => none

/-- What steps 2 and 3 of a final boundary make of a state (R13). -/
structure ClosingResult (s t : State) : Prop where
  pending : t.pending = s.pending
  ticks : t.ticks = s.ticks
  cap : t.cap = { s.cap with pendingProceeding := none }
  chan : ∀ c, t.chan c = { (s.chan c).commitSettings with pendingRoute := none }
  store : t.store = s.store
  stream : t.stream = s.stream
  marks : t.marks = s.marks
  floor : t.floor = s.floor
  trim : t.trim = { s.trim with convs := t.trim.convs }
  conv : ∀ v, t.conv v = s.commitSettings.conv v
  time : t.time = s.time
  feed : t.feed = s.feed
  link : t.link = { s.link with deferred := answeredBy s.link.deferred (closingAnswers fun p =>
    be 1 p.code ++ be 1 s.cap.proceeding.code ++ [0x00#8] ++ be 4 s.cap.period) }

theorem discardPending_eq (s : State) : ∃ ch, s.discardPending =
    { s with cap := { s.cap with pendingProceeding := none }, chans := ch, link := { s.link with
      deferred := answeredBy s.link.deferred (discardAnswers fun p =>
        be 1 p.code ++ be 1 s.cap.proceeding.code ++ [0x00#8] ++ be 4 s.cap.period) } } := by
  simp only [State.discardPending]
  rw [answerAtBoundary_eq _ (a := discardAnswers fun p =>
    be 1 p.code ++ be 1 s.cap.proceeding.code ++ [0x00#8] ++ be 4 s.cap.period), (mapChans_changes _ _).choose_spec]
  · exact ⟨_, rfl⟩
  · intro e
    cases e.request <;> simp [discardAnswers, State.proceedingData, optional]

theorem commitFinalSettings_eq (s : State) : s.commitFinalSettings = { s.commitSettings with link := { s.link with
    deferred := answeredBy s.link.deferred settingsAnswer } } := by
  rw [State.commitFinalSettings, answerAtBoundary_eq _ (a := settingsAnswer), State.commitSettings_link]
  intro e
  cases e.request <;> rfl

theorem chan_discardPending (s : State) (c : Chan) :
    s.discardPending.chan c = { s.chan c with pendingRoute := none } := by
  simp only [State.discardPending, State.chan_answerAtBoundary, State.chan_mapChans]
  rfl

theorem closing_result (s : State) : ClosingResult s s.discardPending.commitFinalSettings := by
  obtain ⟨ch, h⟩ := discardPending_eq s
  have chan (c : Chan) := chan_discardPending s c
  have stuck (v : Conv) : s.discardPending.commitSettings.conv v = s.commitSettings.conv v := by
    have channelOf : s.discardPending.channelOf v = s.channelOf v := by rw [h]; rfl
    have conv : s.discardPending.conv v = s.conv v := by rw [h]; rfl
    simp only [conv_commitSettings, channelOf, conv, State.enabledNext, chan]
    rfl
  exact {
    pending := by simp [commitFinalSettings_eq, h]
    ticks := by simp [commitFinalSettings_eq, h]
    cap := by simp [commitFinalSettings_eq, h]
    chan := fun c => by
      rw [State.chan_congr (s := s.discardPending.commitSettings) (by rw [commitFinalSettings_eq]),
        chan_commitSettings, chan]
      rfl
    store := by simp [commitFinalSettings_eq, h]
    stream := by simp [commitFinalSettings_eq, h]
    marks := by simp [commitFinalSettings_eq, h]
    floor := by simp [commitFinalSettings_eq, h]
    trim := by rw [commitFinalSettings_eq, commitSettings_trim, h]
    conv := fun v => by
      rw [← stuck]
      exact State.conv_congr (by rw [commitFinalSettings_eq]) v
    time := by simp [commitFinalSettings_eq, h]
    feed := by simp [commitFinalSettings_eq, h]
    link := by
      simp only [commitFinalSettings_eq, h, answeredBy_answeredBy]
      congr 2
      funext q
      cases q <;> rfl }

/-- The answer of step 7 (R13). -/
def closeAnswer (data : List Byte) : Request → Option (Result × List Byte)
  | .close => some (.ok, data)
  | .settings | .route _ | .proceeding _ => none

/-- The change-list entry of a final boundary (R72, R78). -/
def State.closingChange (s : State) (cause : ChangeCause) : ProceedingChange :=
  ⟨s.cap.number, s.cap.period, s.cap.proceeding, .standby, cause⟩

/-- Steps 6 and 7 of a final boundary (R13, R14, R72, R78, R100). -/
theorem toStandby_eq (s : State) (reason : EndReason) (cause : ChangeCause) : s.toStandby reason cause = { s with
    cap := { s.cap with
      state := .standby, proceeding := .standby, instant := 0, notice := some (s.captureContents reason)
      changes := (pushListed s.cap.changes s.cap.changesUnlisted (s.closingChange cause)).1
      changesUnlisted := (pushListed s.cap.changes s.cap.changesUnlisted (s.closingChange cause)).2 }
    chans := (s.toStandby reason cause).chans
    floor := { s.floor with holder := none, challenger := none }
    link := { s.link with
      raised := s.link.raised ||| NoticeKind.proceeding.flag ||| NoticeKind.capture.flag
      deferred := answeredBy s.link.deferred (closeAnswer (be 4 s.cap.period)) } } := by
  simp only [State.toStandby]
  rw [answerAtBoundary_eq _ (a := closeAnswer (be 4 s.cap.period)) fun e => by cases e.request <;> rfl]
  obtain ⟨ch, h⟩ : ∃ ch, (s.standbyChange cause).revertRoutes.clearMarks = { s.standbyChange cause with chans := ch } := by
    rw [State.clearMarks, (mapChans_changes _ _).choose_spec, State.revertRoutes, (mapChans_changes _ _).choose_spec]
    exact ⟨_, rfl⟩
  rw [h]
  rfl

theorem chan_toStandby (s : State) (reason : EndReason) (cause : ChangeCause) (c : Chan) :
    (s.toStandby reason cause).chan c = { s.chan c with route := .mic, handover := false } := by
  have chans : (s.toStandby reason cause).chan c = (s.standbyChange cause).revertRoutes.clearMarks.chan c :=
    State.chan_congr rfl c
  rw [chans, chan_clearMarks, chan_revertRoutes]
  rfl

/-- The reason and the cause of a capture's end (R14, R78). -/
def State.endReason (s : State) : EndReason := if s.cap.closeRequest then .closed else .limit
def State.endCause (s : State) : ChangeCause := if s.cap.closeRequest then .closed else .limit

/-- The state of a final boundary after its step 4, the marker step (R13). -/
def State.closedMarked (s : State) : State :=
  s.closed.takeMarkers s.closed.cap.period (markerTag s.closed.cap.proceeding) s.closed.cap.stamp

theorem finalBoundary_eq (s : State) : s.finalBoundary = s.closedMarked.toStandby s.endReason s.endCause := by
  unfold State.finalBoundary State.endReason State.endCause
  split_ifs <;> rfl

theorem closed_result (s : State) : ClosingResult s.endedFinally s.closed := closing_result _

theorem closedMarked_changes (s : State) : ∃ store marks r, RaisedWithin [.store, .marker] s.closed.link.raised r ∧
    s.closedMarked = { s.closed with store := store, marks := marks, link := { s.closed.link with raised := r } } :=
  takeMarkers_changes _ _ _ _

/-- The capture engine before a final boundary's last steps. -/
theorem cap_closedMarked (s : State) : s.closedMarked.cap = { s.cap with pendingProceeding := none } := by
  obtain ⟨st, m, r, -, h⟩ := closedMarked_changes s
  rw [h, (closed_result s).cap, (endedFinally_frame s).cap]

theorem chan_closedMarked (s : State) (c : Chan) : s.closedMarked.chan c =
    { (s.endedFinally.chan c).commitSettings with pendingRoute := none } := by
  obtain ⟨st, m, r, -, h⟩ := closedMarked_changes s
  rw [← (closed_result s).chan c]
  exact State.chan_congr (by rw [h]) c

/-! ## OPEN_CAPTURE -/

/-- The capture engine of a capture that opens (R2, R78). -/
theorem cap_openState (s : State) : s.openState.cap = { s.cap with
    state := .capturing, number := (s.cap.number + 1) % 65536, period := 0, instant := 0, closeRequest := false
    proceeding := .recess, pendingProceeding := none
    changes := (pushListed s.cap.changes s.cap.changesUnlisted
      ⟨(s.cap.number + 1) % 65536, 0, s.cap.proceeding, .recess, .opened⟩).1
    changesUnlisted := (pushListed s.cap.changes s.cap.changesUnlisted
      ⟨(s.cap.number + 1) % 65536, 0, s.cap.proceeding, .recess, .opened⟩).2 } := by
  simp [State.openState, State.addChange, State.raise]

theorem chan_openState (s : State) (c : Chan) : s.openState.chan c = (s.chan c).opened := by
  refine (State.chan_congr (s := s.mapChans fun _ ch => ch.opened) ?_ c).trans (State.chan_mapChans s c _)
  simp only [State.openState, State.addChange_chans]

/-- The trim unit's work done, the marker request decided (R3). -/
def State.openedMarked (s : State) : State :=
  let t := s.openState.trimOpenWork
  t.takeMarkers 0 .recess t.stampNow

/-- What an OPEN_CAPTURE does after the capture has been opened (R3, R133). -/
structure OpenFrame (s t : State) : Prop where
  cap : t.cap = s.openState.cap
  pending : t.pending = s.pending
  ticks : t.ticks = s.ticks
  stream : t.stream = s.stream
  floor : t.floor = s.openState.floor
  time : t.time = s.openState.time
  feed : t.feed = s.feed
  link : t.link = { s.link with raised := t.link.raised }
  flags : RaisedWithin [.proceeding, .converter, .store, .marker] s.link.raised t.link.raised
  flag : flagSet t.link.raised .proceeding = true
  chan : ∀ c, t.chan c = { (s.chan c).opened with
    lastSeq := (t.chan c).lastSeq, seqCount := (t.chan c).seqCount, gapTally := (t.chan c).gapTally
    filling := (t.chan c).filling, starvation := (t.chan c).starvation, starved := (t.chan c).starved
    newlyStarved := (t.chan c).newlyStarved, mismatch := (t.chan c).mismatch, handover := (t.chan c).handover
    noSpare := (t.chan c).noSpare }

theorem openState_frame (s : State) : ∃ k ch m fl x, s.openState = { s with
    cap := k, chans := ch, marks := m, floor := fl, time := x
    link := { s.link with raised := s.link.raised ||| NoticeKind.proceeding.flag } } := by
  simp only [State.openState]
  rw [(mapChans_changes _ _).choose_spec]
  exact ⟨_, _, _, _, _, rfl⟩

theorem open_frame (s : State) : OpenFrame s s.openCapture := by
  obtain ⟨k, ch, m, fl, x, h⟩ := openState_frame s
  have chan (c : Chan) := chan_openState s c
  have trim := TrimFrame.trimOpenWork s.openState
  simp only [State.openCapture]
  generalize s.openState.trimOpenWork = u at trim ⊢
  obtain ⟨o, ho⟩ : ∃ o, o = s.openState := ⟨_, rfl⟩
  rw [← ho] at h trim
  simp only [← ho] at chan
  obtain ⟨st, mk, r, hr, hv⟩ := takeMarkers_changes u 0 .recess u.stampNow
  generalize u.takeMarkers 0 .recess u.stampNow = v at hv ⊢
  obtain ⟨⟨st', ch', r', hr', hw⟩, slots⟩ := allocate_changes v
  generalize v.allocate = w at hw slots ⊢
  subst hv
  have raised : w.link.raised = r' := by rw [hw]
  have link : o.link = { s.link with raised := s.link.raised ||| NoticeKind.proceeding.flag } := by rw [h]
  exact {
    cap := by rw [hw, ← ho]; exact trim.cap
    pending := by rw [hw]; exact trim.pending.trans (by rw [h])
    ticks := by rw [hw]; exact trim.ticks.trans (by rw [h])
    stream := by rw [hw]; exact trim.stream.trans (by rw [h])
    floor := by rw [hw, ← ho]; exact trim.floor
    time := by rw [hw, ← ho]; exact trim.time
    feed := by rw [hw]; exact trim.feed.trans (by rw [h])
    link := by
      rw [hw]
      simp only []
      rw [trim.link, link]
    flags := by
      have begun : RaisedWithin [.proceeding, .converter, .store, .marker] s.link.raised o.link.raised := by
        rw [link]
        exact .flag (k := .proceeding) (by simp) _
      rw [raised]
      exact ((begun.trans (trim.flags.mono (by simp))).trans (hr.mono (by simp))).trans (hr'.mono (by simp))
    flag := by
      rw [raised]
      exact hr'.keeps (hr.keeps (trim.flags.keeps (by rw [link]; simp)))
    chan := fun c => by
      have hs := Channel.eq_of_besidesSlots (y := u.chan c) (slots c)
      have hu : u.chan c = { (s.chan c).opened with
          mismatch := (u.chan c).mismatch, handover := (u.chan c).handover, noSpare := (u.chan c).noSpare } := by
        rw [← chan c, ← trim.chan c]
      rw [hu] at hs
      rw [hs] }

end

/-! ## Every command -/

section
variable {s t : State}

/-- A boundary that is not final brings the pending proceeding into force, with every route a microphone in a record state. -/
theorem proceedingLaw_periodBoundary (h : s.ProceedingLaw) (hc : s.cap.state = .capturing) :
    s.periodBoundary.ProceedingLaw := by
  obtain ⟨agree, -, pending, mics, -⟩ := h
  have hcap := cap_periodBoundary s
  rw [commitProceeding_cap] at hcap
  have running : s.newProceeding ≠ .standby := by
    unfold State.newProceeding
    cases hp : s.cap.pendingProceeding with
    | none => exact fun h => nomatch hc.symm.trans (agree.mp h)
    | some p => exact fun h => pending (by rw [hp]; exact congrArg some h)
  refine proceedingLaw_capturing ?_ ?_ ?_ (fun c => (routes_periodBoundary s c).1) fun hr c => ?_
  · rw [hcap]; exact hc
  · rw [hcap]; exact running
  · rw [hcap]
  · rw [hcap] at hr
    exact (routes_periodBoundary s c).2.trans (if_pos hr)

theorem proceedingLaw_finalBoundary (s : State) : s.finalBoundary.ProceedingLaw := by
  rw [finalBoundary_eq]
  have hcap : (s.closedMarked.toStandby s.endReason s.endCause).cap = _ := congrArg State.cap (toStandby_eq _ _ _)
  refine proceedingLaw_standby (by rw [hcap]) (by rw [hcap]) (by rw [hcap, cap_closedMarked]) fun c => ?_
  rw [chan_toStandby, chan_closedMarked]

theorem proceedingLaw_openCapture (s : State) : s.openCapture.ProceedingLaw := by
  have g := open_frame s
  have hcap := g.cap.trans (cap_openState s)
  refine proceedingLaw_capturing (by rw [hcap]) (by simp [hcap]) (by rw [hcap])
    (fun c => by rw [g.chan c]; rfl) ?_
  rw [hcap]
  exact fun h => nomatch h

theorem chan_captureReset (s : State) (c : Chan) : s.captureReset.chan c = (s.chan c).restarted := by
  have chans : s.trimRestarted.chan c = s.chan c :=
    State.chan_congr (by simp [State.trimRestarted, State.clearStuck, State.abandonRotation]) c
  rw [← chans, ← State.chan_mapChans s.trimRestarted c fun _ ch => ch.restarted]
  exact State.chan_congr (by simp only [State.captureReset]) c

theorem proceedingLaw_captureReset (s : State) : s.captureReset.ProceedingLaw :=
  proceedingLaw_standby (by simp [State.captureReset, Capture.restarted, State.reset])
    (by simp [State.captureReset, Capture.restarted, State.reset])
    (by simp [State.captureReset, Capture.restarted, State.reset])
    fun c => by rw [chan_captureReset]; rfl

theorem proceedingLaw_fullReset (s : State) : State.ProceedingLaw { State.reset with
    pending := s.pending, link := { State.reset.link with hold := s.link.hold } } :=
  proceedingLaw_standby rfl rfl rfl fun c => by
    have reset : (State.reset.chan c).pendingRoute = none := by rw [chan_reset]; rfl
    exact reset

/-! ### The commands -/

theorem State.ProceedingLaw.withLink (h : s.ProceedingLaw) (l : Link) :
    State.ProceedingLaw { s with link := l } := h

theorem State.ProceedingLaw.answerTaken (h : s.ProceedingLaw) (f : Command) (o : Bool) (q : Request) (d : List Byte) :
    (s.answerTaken f o q d).ProceedingLaw := by
  obtain ⟨l, hl⟩ := answerTaken_changes f s o q d
  rw [hl]
  exact h.withLink l

theorem standby_of_not_capturing (h : (!s.capturing) = true) : s.cap.state = .standby := by
  cases hs : s.cap.state with
  | standby => rfl
  | capturing => simp [State.capturing, hs] at h

/-- Routes in force in STANDBY, where none is pending (R18). -/
theorem State.ProceedingLaw.mapRoutes (h : s.ProceedingLaw) (hs : s.cap.state = .standby)
    {g : Chan → Channel → Channel} (hg : ∀ c ch, (g c ch).pendingRoute = ch.pendingRoute) :
    (s.mapChans g).ProceedingLaw := by
  obtain ⟨agree, standby, -, -, none⟩ := h
  refine proceedingLaw_standby (by simpa using hs) (by simpa using agree.mpr hs) (by simpa using standby hs) fun c => ?_
  rw [State.chan_mapChans, hg]
  exact none (.inl hs) c

/-- Routes pending while no record state is in force or pending (R18). -/
theorem State.ProceedingLaw.placeRoutes (h : s.ProceedingLaw) (hc : s.cap.state ≠ .standby)
    (hr : s.recordState ≠ true) (f : Command) (r : Route) : (s.placeRoutes f r).ProceedingLaw := by
  obtain ⟨agree, standby, notStandby, -, -⟩ := h
  obtain ⟨ch, e⟩ := placeRoutes_changes f s r
  rw [e]
  refine ⟨agree, standby, notStandby, fun hp => absurd (Bool.or_eq_true_iff.mpr (.inl hp)) hr, ?_⟩
  rintro (hx | hx)
  · exact absurd hx hc
  · exact absurd hx hr

theorem proceedingLaw_routePatternBody (f : Command) (s : State) (h : s.ProceedingLaw) :
    (routePatternBody f s).ProceedingLaw := by
  unfold routePatternBody
  split
  · exact h
  · split
    · next hc =>
      refine State.ProceedingLaw.withLink (h.mapRoutes (standby_of_not_capturing hc) fun c ch => ?_) _
      split <;> rfl
    · next hc =>
      split
      · exact h
      · next hr =>
        refine State.ProceedingLaw.answerTaken ?_ _ _ _ _
        exact (h.placeRoutes (fun hs => hc (by simp [State.capturing, hs])) hr f _).withLink _

/-- The pending proceeding discarded (R68). -/
theorem State.ProceedingLaw.cancelProceeding (h : s.ProceedingLaw) : s.cancelProceeding.ProceedingLaw := by
  obtain ⟨agree, standby, notStandby, mics, none⟩ := h
  refine ⟨agree, fun _ => rfl, nofun, mics, fun hx => none (hx.imp_right fun hx => ?_)⟩
  exact Bool.or_eq_true_iff.mpr (.inl (by simpa [State.recordState, State.cancelProceeding] using hx))

/-- A pending proceeding placed: with a record state no pending route is left (R69). -/
theorem State.ProceedingLaw.placeProceeding (h : s.ProceedingLaw) (hc : s.cap.state ≠ .standby) {p : Proceeding}
    (hp : p ≠ .standby) : (s.placeProceeding p).ProceedingLaw := by
  obtain ⟨agree, -, -, mics, none⟩ := h
  have chan (c : Chan) := chan_placeProceeding s p c
  have cap := placeProceeding_cap s p
  refine ⟨by rw [cap]; exact agree, fun hx => absurd (by rw [cap] at hx; exact hx) hc, ?_, ?_, ?_⟩
  · rw [cap]
    exact fun hx => hp (Option.some.inj hx)
  · rw [cap]
    intro hr c
    rw [chan, apply_ite Channel.route]
    simpa using mics hr c
  · rintro (hx | hx) c
    · rw [cap] at hx
      exact absurd hx hc
    · rw [State.recordState, cap] at hx
      rw [chan]
      split_ifs with hr
      · rfl
      · refine none (.inr (Bool.or_eq_true_iff.mpr (.inl ?_))) c
        simpa [hr] using hx

theorem proceedingLaw_setProceedingBody (f : Command) (s : State) (h : s.ProceedingLaw) :
    (setProceedingBody f s).ProceedingLaw := by
  unfold setProceedingBody
  split
  · exact h
  · next p o _ =>
    split
    · exact h
    · next hc =>
      split
      · exact h.cancelProceeding.withLink _
      · split
        · next ha =>
          refine State.ProceedingLaw.answerTaken (s := State.supersede _ _ _) ?_ _ _ _ _
          refine (h.placeProceeding (fun hs => hc (by simp [State.capturing, hs])) ?_).withLink _
          rintro rfl
          revert ha
          cases s.cap.proceeding <;> exact fun ha => nomatch ha
        · exact h

theorem proceedingLaw_setChannelBody (f : Command) (s : State) (h : s.ProceedingLaw) :
    (setChannelBody f s).ProceedingLaw := by
  have written {g : Chan → Channel → Channel}
      (hg : ∀ c ch, (g c ch).route = ch.route ∧ (g c ch).pendingRoute = ch.pendingRoute) :
      (s.mapChans g).ProceedingLaw :=
    h.congr (by simp) (by simp) (by simp) fun c => by rw [State.chan_mapChans]; exact hg c _
  unfold setChannelBody
  split
  · exact h
  · split
    · refine State.ProceedingLaw.answerTaken (written fun c ch => ?_) _ _ _ _
      split <;> exact ⟨rfl, rfl⟩
    · refine State.ProceedingLaw.withLink (written fun c ch => ?_) _
      split <;> exact ⟨rfl, rfl⟩

theorem proceedingLaw_openCaptureBody (f : Command) (s : State) (h : s.ProceedingLaw) :
    (openCaptureBody f s).ProceedingLaw := by
  unfold openCaptureBody
  split_ifs
  · exact h
  · exact h
  · exact h
  · exact (proceedingLaw_openCapture s).withLink _

/-- A RESTART discards the pending set (R179). -/
theorem proceedingLaw_restartBody (f : Command) (s : State) (h : s.ProceedingLaw) :
    (restartBody f s).ProceedingLaw := by
  obtain ⟨agree, -, -, mics, -⟩ := h
  obtain ⟨u, hu⟩ : ∃ u, u = s.mapChans fun _ ch =>
    { ch with pendingSettings := PendingSettings.empty, pendingRoute := none } := ⟨_, rfl⟩
  have chan (c : Chan) : u.chan c =
      { s.chan c with pendingSettings := PendingSettings.empty, pendingRoute := none } := by rw [hu, State.chan_mapChans]
  have cap : u.cap = s.cap := by rw [hu, State.mapChans_cap]
  simp only [restartBody, State.dropPending]
  rw [← hu]
  refine ⟨by simpa only [cap] using agree, fun _ => rfl, nofun, fun hr c => ?_, fun _ c => ?_⟩
  · exact (congrArg Channel.route (chan c)).trans (mics (by simpa only [cap] using hr) c)
  · exact congrArg Channel.pendingRoute (chan c)

theorem proceedingLaw_tick (raw : Vector Raw 26) (h : s.ProceedingLaw) : (s.tick raw).ProceedingLaw := by
  have cap := cap_tick s raw
  refine h.congr (by rw [cap]) (by rw [cap]) (by rw [cap]) fun c => ?_
  rw [chan_tick]
  split_ifs <;> exact ⟨rfl, rfl⟩

end

end Sys2Proof.Machine
end

section
/-! SUPPORT. The blocks of the state each command and event touches, said once for all of them: a law that reads none of
these blocks carries over. -/

namespace Sys2Proof.Machine

/-- The blocks of the state, the link controller and the clock apart. -/
inductive Block where
  | cap | chans | store | stream | marks | floor | trim | time | feed
  deriving DecidableEq

/-- The blocks a command or event may touch. -/
def touched : Instr → List Block
  | .fullReset => [.cap, .chans, .store, .stream, .marks, .floor, .trim, .time, .feed]
  | .sampleInstant _ => [.cap, .chans, .trim, .time, .feed]
  | .periodBoundary => [.cap, .chans, .store, .marks, .floor, .trim]
  | .finalBoundary => [.cap, .chans, .store, .marks, .floor, .trim]
  | .openCapture => [.cap, .chans, .store, .marks, .floor, .trim, .time]
  | .captureReset => [.cap, .chans, .store, .stream, .marks, .floor, .trim, .time]
  | .trimEnd => [.chans, .trim]
  | .laneScan | .replyFrameEnd | .noticeFrameEnd | .holdRelease | .rereadFrameEnd =>
    [.cap, .chans, .store, .marks, .floor, .trim, .time]
  | .blockFrameEnd => [.cap, .chans, .store, .stream, .marks, .floor, .trim, .time]
  | .restart | .routePattern | .setProceeding => [.cap, .chans]
  | .closeCapture | .loadPattern => [.cap]
  | .setChannel => [.chans]
  | .storePolicy | .release | .readHeld => [.store]
  | .streamControl => [.stream]
  | .putMarker => [.marks]
  | .floorConfig => [.floor]
  | .trimConfig | .trimNow | .converterRestore => [.trim]
  | .setTime | .timeMessage _ | .trefPulse _ | .missingPulse | .holdoverLimit => [.time]
  | .feedConfig => [.feed]
  | .headAgeWait | .holdAssert | .strayByte _ | .lineError | .oversizeLength _ | .frameGapTimeout | .frameComplete _ _ _ _
  | .deferredReplyMove | .syncByte | .unknownCommand | .identify | .linkStatus | .noticeMask | .laneSchedule | .getChannel
  | .proceedingStatus | .storeStatus | .markerStatus | .floorStatus | .converterStatus | .timeStatus => []

/-- Two states have the same block. -/
def SameBlock (s t : State) : Block → Prop
  | .cap => t.cap = s.cap
  | .chans => t.chans = s.chans
  | .store => t.store = s.store
  | .stream => t.stream = s.stream
  | .marks => t.marks = s.marks
  | .floor => t.floor = s.floor
  | .trim => t.trim = s.trim
  | .time => t.time = s.time
  | .feed => t.feed = s.feed

/-- Two states agree but for some blocks, the link controller and the clock. -/
def AgreeBut (bs : List Block) (s t : State) : Prop := ∀ b, b ∉ bs → SameBlock s t b

namespace AgreeBut

variable {bs : List Block} {s t u : State}

theorem refl (bs : List Block) (s : State) : AgreeBut bs s s := fun b _ => by cases b <;> rfl

theorem trans (h : AgreeBut bs s t) (g : AgreeBut bs t u) : AgreeBut bs s u := fun b hb => by
  have hs := h b hb
  have gs := g b hb
  cases b <;> exact Eq.trans gs hs

/-- All that is asked of a state is asked block by block. -/
theorem of (cap : .cap ∉ bs → t.cap = s.cap) (chans : .chans ∉ bs → t.chans = s.chans)
    (store : .store ∉ bs → t.store = s.store) (stream : .stream ∉ bs → t.stream = s.stream)
    (marks : .marks ∉ bs → t.marks = s.marks) (floor : .floor ∉ bs → t.floor = s.floor)
    (trim : .trim ∉ bs → t.trim = s.trim) (time : .time ∉ bs → t.time = s.time)
    (feed : .feed ∉ bs → t.feed = s.feed) : AgreeBut bs s t := fun b hb => by
  cases b
  · exact cap hb
  · exact chans hb
  · exact store hb
  · exact stream hb
  · exact marks hb
  · exact floor hb
  · exact trim hb
  · exact time hb
  · exact feed hb

theorem link (e : ∃ l, t = { s with link := l }) : AgreeBut bs s t := by
  obtain ⟨l, rfl⟩ := e
  exact refl bs s

theorem cap (h : .cap ∈ bs) (e : ∃ k l, t = { s with cap := k, link := l }) : AgreeBut bs s t := by
  obtain ⟨k, l, rfl⟩ := e
  exact of (absurd h) (fun _ => rfl) (fun _ => rfl) (fun _ => rfl) (fun _ => rfl) (fun _ => rfl) (fun _ => rfl)
    (fun _ => rfl) fun _ => rfl

theorem chans (h : .chans ∈ bs) (e : ∃ ch l, t = { s with chans := ch, link := l }) : AgreeBut bs s t := by
  obtain ⟨ch, l, rfl⟩ := e
  exact of (fun _ => rfl) (absurd h) (fun _ => rfl) (fun _ => rfl) (fun _ => rfl) (fun _ => rfl) (fun _ => rfl)
    (fun _ => rfl) fun _ => rfl

theorem store (h : .store ∈ bs) (e : ∃ x l, t = { s with store := x, link := l }) : AgreeBut bs s t := by
  obtain ⟨x, l, rfl⟩ := e
  exact of (fun _ => rfl) (fun _ => rfl) (absurd h) (fun _ => rfl) (fun _ => rfl) (fun _ => rfl) (fun _ => rfl)
    (fun _ => rfl) fun _ => rfl

theorem stream (h : .stream ∈ bs) (e : ∃ x l, t = { s with stream := x, link := l }) : AgreeBut bs s t := by
  obtain ⟨x, l, rfl⟩ := e
  exact of (fun _ => rfl) (fun _ => rfl) (fun _ => rfl) (absurd h) (fun _ => rfl) (fun _ => rfl) (fun _ => rfl)
    (fun _ => rfl) fun _ => rfl

theorem marks (h : .marks ∈ bs) (e : ∃ x l, t = { s with marks := x, link := l }) : AgreeBut bs s t := by
  obtain ⟨x, l, rfl⟩ := e
  exact of (fun _ => rfl) (fun _ => rfl) (fun _ => rfl) (fun _ => rfl) (absurd h) (fun _ => rfl) (fun _ => rfl)
    (fun _ => rfl) fun _ => rfl

theorem floor (h : .floor ∈ bs) (e : ∃ x l, t = { s with floor := x, link := l }) : AgreeBut bs s t := by
  obtain ⟨x, l, rfl⟩ := e
  exact of (fun _ => rfl) (fun _ => rfl) (fun _ => rfl) (fun _ => rfl) (fun _ => rfl) (absurd h) (fun _ => rfl)
    (fun _ => rfl) fun _ => rfl

theorem trim (h : .trim ∈ bs) (e : ∃ x l, t = { s with trim := x, link := l }) : AgreeBut bs s t := by
  obtain ⟨x, l, rfl⟩ := e
  exact of (fun _ => rfl) (fun _ => rfl) (fun _ => rfl) (fun _ => rfl) (fun _ => rfl) (fun _ => rfl) (absurd h)
    (fun _ => rfl) fun _ => rfl

theorem time (h : .time ∈ bs) (e : ∃ x l, t = { s with time := x, link := l }) : AgreeBut bs s t := by
  obtain ⟨x, l, rfl⟩ := e
  exact of (fun _ => rfl) (fun _ => rfl) (fun _ => rfl) (fun _ => rfl) (fun _ => rfl) (fun _ => rfl) (fun _ => rfl)
    (absurd h) fun _ => rfl

theorem feed (h : .feed ∈ bs) (e : ∃ x l, t = { s with feed := x, link := l }) : AgreeBut bs s t := by
  obtain ⟨x, l, rfl⟩ := e
  exact of (fun _ => rfl) (fun _ => rfl) (fun _ => rfl) (fun _ => rfl) (fun _ => rfl) (fun _ => rfl) (fun _ => rfl)
    (fun _ => rfl) (absurd h)

theorem routes (hk : .cap ∈ bs) (hc : .chans ∈ bs) (e : ∃ k ch l, t = { s with cap := k, chans := ch, link := l }) :
    AgreeBut bs s t := by
  obtain ⟨k, ch, l, rfl⟩ := e
  exact of (absurd hk) (absurd hc) (fun _ => rfl) (fun _ => rfl) (fun _ => rfl) (fun _ => rfl) (fun _ => rfl)
    (fun _ => rfl) fun _ => rfl

/-- Of what a scan may touch nothing is asked: the stream unit and the feed are left. -/
theorem streamAndFeed (h : ∀ b ∈ [Block.cap, .chans, .store, .marks, .floor, .trim, .time], b ∈ bs) (stream : .stream ∉ bs → t.stream = s.stream)
    (feed : t.feed = s.feed) : AgreeBut bs s t := fun b hb => by
  cases b
  case stream => exact stream hb
  case feed => exact feed
  all_goals exact absurd (h _ (by decide)) hb

theorem guarded {p : Prop} [Decidable p] (h : p → AgreeBut bs s t) : AgreeBut bs s (if p then t else s) := by
  split_ifs with hp
  · exact h hp
  · exact refl bs s

end AgreeBut

/-- The command engine touches what the command's body touches. -/
theorem runCommand_agree {bs : List Block} {body : Command → State → State} (hb : ∀ f s, AgreeBut bs s (body f s))
    (code : Byte) (need : Command → State → Nat) (fits : Command → Bool) (s : State) :
    AgreeBut bs s (runCommand code need fits body s) :=
  runCommand_keeps (P := AgreeBut bs s) code need fits (fun _ l h => h.trans (.link ⟨l, rfl⟩))
    (fun f t h => h.trans (hb f t)) (.refl bs s)

theorem rereadFrameEnd_stream (s : State) (k : Nat) :
    (s.popReply.endPin k).endFrame.scan.stream = s.stream ∧ (s.popReply.endPin k).endFrame.scan.feed = s.feed := by
  have g := ScanFrame.scan (s.popReply.endPin k).endFrame
  have frame : ∃ st l, s.popReply.endPin k = { s with store := st, link := l } := by
    simp only [State.endPin]
    rw [(setFree_changes _ _).choose_spec]
    exact ⟨_, _, rfl⟩
  obtain ⟨st, l, h⟩ := frame
  exact ⟨g.stream.trans (by rw [h]; rfl), g.feed.trans (by rw [h]; rfl)⟩

theorem tickTrim_changes (s : State) (raw : Vector Raw 26) : ∃ x, s.tickTrim raw = { s with trim := x } := by
  have mapped (f : Conv → Converter → Converter) : ∃ y, s.mapConvs f = { s with trim := y } := ⟨_, rfl⟩
  unfold State.tickTrim
  split_ifs
  · rw [(mapped _).choose_spec]
    exact ⟨_, rfl⟩
  · exact ⟨_, rfl⟩

/-- A sample instant works on the channels and the trim unit as a change of the trim unit would, and then on the capture
engine, the timebase and the feed (R19 to R21, R120, R141, R155). -/
theorem tick_changes (s : State) (raw : Vector Raw 26) : ∃ u, AgreeBut [.chans, .trim] s u ∧
    ∃ n k x y, s.tick raw = { u with ticks := n, cap := k, time := x, feed := y } := by
  obtain ⟨ch, hs⟩ := mapChans_changes s fun c ch =>
    if s.runs c then ch.take s.cap.instant (s.sampleScaled raw c) else ch
  obtain ⟨x, hx⟩ := tickTrim_changes (s.takeSamples raw) raw
  obtain ⟨p, y, hp⟩ := takeStamp_changes ((s.takeSamples raw).tickTrim raw)
  refine ⟨(s.takeSamples raw).tickTrim raw, ?_, _, _, _, _, by simp only [State.tick]; rw [hp]⟩
  rw [hx, State.takeSamples, hs]
  exact .of (fun _ => rfl) (absurd (by decide)) (fun _ => rfl) (fun _ => rfl) (fun _ => rfl) (fun _ => rfl)
    (absurd (by decide)) (fun _ => rfl) fun _ => rfl

theorem enterCustody_feed (s : State) : s.enterCustody.feed = s.feed := by
  unfold State.enterCustody
  split <;> rfl

/-- No command or event touches another block. -/
theorem exec_frame {c : Instr} {s t : State} (e : exec c s = .next t) : AgreeBut (touched c) s t := by
  have status (data : State → List Byte) (f : Command) (s : State) : AgreeBut [] s (s.reply f .ok (data s)) :=
    .link ⟨_, rfl⟩
  have reset (u v : State) : AgreeBut [.cap, .chans, .store, .stream, .marks, .floor, .trim, .time, .feed] u v :=
    fun b hb => by cases b <;> exact absurd hb (by decide)
  cases c <;> cases e
  case fullReset => exact reset _ _
  case captureReset =>
    refine .guarded fun _ b hb => ?_
    cases b
    case feed => simp [SameBlock, State.captureReset, State.trimRestarted, State.clearStuck, State.abandonRotation]
    all_goals exact absurd hb (by decide)
  case sampleInstant raw =>
    refine .guarded fun _ => ?_
    obtain ⟨u, hu, n, k, x, y, h⟩ := tick_changes s raw
    rw [h]
    exact .of (absurd (by simp [touched])) (absurd (by simp [touched])) (fun _ => hu .store (by decide))
      (fun _ => hu .stream (by decide)) (fun _ => hu .marks (by decide)) (fun _ => hu .floor (by decide)) (absurd (by simp [touched])) (absurd (by simp [touched]))
      (absurd (by simp [touched]))
  case periodBoundary =>
    refine .guarded fun _ b hb => ?_
    obtain ⟨⟨st, ch, m, fl, r, -, h⟩, -⟩ := opening_frame s
    have g := committed_result s
    have g' := ended_frame s
    have stream : s.committed.stream = s.stream := by rw [g.stream, State.renumbered, g'.stream]
    have time : s.committed.time = s.time := by rw [g.time, State.renumbered, g'.time]
    have feed : s.committed.feed = s.feed := by rw [g.feed, State.renumbered, g'.feed]
    rw [h]
    generalize s.committed = u at stream time feed ⊢
    cases b
    case stream => exact stream
    case time => exact time
    case feed => exact feed
    all_goals exact absurd hb (by decide)
  case finalBoundary =>
    refine .guarded fun _ b hb => ?_
    obtain ⟨st, m, r, -, h⟩ := closedMarked_changes s
    have stream : s.closed.stream = s.stream := by rw [(closed_result s).stream, (endedFinally_frame s).stream]
    have time : s.closed.time = s.time := by rw [(closed_result s).time, (endedFinally_frame s).time]
    have feed : s.closed.feed = s.feed := by rw [(closed_result s).feed, (endedFinally_frame s).feed]
    rw [finalBoundary_eq, toStandby_eq, h]
    generalize s.closed = u at stream time feed ⊢
    cases b
    case stream => exact stream
    case time => exact time
    case feed => exact feed
    all_goals exact absurd hb (by decide)
  case openCapture =>
    refine runCommand_agree (fun f s => ?_) _ _ _ s
    unfold openCaptureBody
    split_ifs
    · exact .link ⟨_, rfl⟩
    · exact .link ⟨_, rfl⟩
    · exact .link ⟨_, rfl⟩
    · have g := open_frame s
      generalize s.openCapture = u at g
      exact .streamAndFeed (by decide) (fun _ => g.stream) g.feed
  case trimEnd =>
    refine .guarded fun _ => ?_
    have g := TrimFrame.completeTrim s s.cap.period
    exact .of (fun _ => g.cap) (absurd (by decide)) (fun _ => g.store) (fun _ => g.stream) (fun _ => g.marks)
      (fun _ => g.floor) (absurd (by decide)) (fun _ => g.time) fun _ => g.feed
  -- the lane
  case laneScan =>
    exact .streamAndFeed (by decide) (fun _ => (ScanFrame.scan s).stream) (ScanFrame.scan s).feed
  case holdRelease =>
    exact .streamAndFeed (by decide) (fun _ => (ScanFrame.scan _).stream) (ScanFrame.scan _).feed
  case noticeFrameEnd =>
    exact .guarded fun _ => .streamAndFeed (by decide) (fun _ => (ScanFrame.scan _).stream) (ScanFrame.scan _).feed
  case blockFrameEnd =>
    exact .guarded fun _ => .streamAndFeed (by decide) (absurd (by decide))
      ((ScanFrame.scan _).feed.trans (enterCustody_feed s))
  case rereadFrameEnd =>
    split
    · next k _ _ _ =>
      exact .streamAndFeed (by decide) (fun _ => (rereadFrameEnd_stream s k).1) (rereadFrameEnd_stream s k).2
    · exact .refl _ s
  case replyFrameEnd =>
    split
    · exact .streamAndFeed (by decide) (fun _ => (ScanFrame.scan _).stream) (ScanFrame.scan _).feed
    · exact .link ⟨_, rfl⟩
    · exact .refl _ s
  case headAgeWait => exact .refl _ s
  case holdAssert => exact .link ⟨_, rfl⟩
  case deferredReplyMove => exact .link (moveDeferred_changes s)
  -- the receiver
  case syncByte =>
    split_ifs
    · exact .refl _ s
    · exact .link ⟨_, rfl⟩
  case strayByte b => exact .guarded fun _ => .link (count_changes s _)
  case lineError => exact .trans (.link (count_changes s _)) (.link ⟨_, rfl⟩)
  case oversizeLength len => exact .guarded fun _ => .trans (.link (count_changes s _)) (.link ⟨_, rfl⟩)
  case frameGapTimeout => exact .guarded fun _ => .trans (.link (count_changes s _)) (.link ⟨_, rfl⟩)
  case frameComplete kind tag payload check =>
    exact .guarded fun _ => .trans (t := s.receive .hunting) (.link ⟨_, rfl⟩) (.link (acceptFrame_changes _ _ _ _ _))
  -- the timebase
  case timeMessage line => exact .guarded fun _ => .time (by simp [touched]) ⟨_, _, rfl⟩
  case trefPulse frac => exact .time (by simp [touched]) (pulse_changes s frac)
  case missingPulse => exact .guarded fun _ => .time (by simp [touched]) ⟨_, _, rfl⟩
  case holdoverLimit => exact .guarded fun _ => .time (by simp [touched]) ⟨_, _, rfl⟩
  -- the command engine
  case unknownCommand =>
    obtain ⟨l, h⟩ := unknownCommand_changes s
    exact .link ⟨l, Host.Outcome.next.inj h⟩
  case restart =>
    split
    · exact .refl _ s
    · split_ifs
      · exact .trans (t := s.popCommand) (.link ⟨_, rfl⟩) (.routes (by decide) (by decide) (restartBody_changes _ _))
      · exact .refl _ s
      · exact runCommand_agree (fun f s => .refl _ s) _ _ _ s
  case identify | proceedingStatus | storeStatus | markerStatus | floorStatus | converterStatus | timeStatus =>
    exact runCommand_agree (status _) _ _ _ s
  case linkStatus => exact runCommand_agree (fun f s => .link (linkStatusBody_changes f s)) _ _ _ s
  case noticeMask => exact runCommand_agree (fun f s => .link (noticeMaskBody_changes f s)) _ _ _ s
  case laneSchedule => exact runCommand_agree (fun f s => .link (laneScheduleBody_changes f s)) _ _ _ s
  case getChannel => exact runCommand_agree (fun f s => .link (getChannelBody_changes f s)) _ _ _ s
  case closeCapture =>
    exact runCommand_agree (fun f s => .cap (by decide) (Exists.elim (closeCaptureBody_changes f s) fun _ h => ⟨_, h⟩)) _ _ _ s
  case loadPattern =>
    exact runCommand_agree (fun f s => .cap (by decide) (Exists.elim (loadPatternBody_changes f s) fun _ h => ⟨_, h⟩)) _ _ _ s
  case setChannel => exact runCommand_agree (fun f s => .chans (by decide) (setChannelBody_changes f s)) _ _ _ s
  case routePattern =>
    exact runCommand_agree (fun f s => .routes (by decide) (by decide)
      (Exists.elim (routePatternBody_changes f s) fun _ h => ⟨_, h⟩)) _ _ _ s
  case setProceeding =>
    exact runCommand_agree (fun f s => .routes (by decide) (by decide)
      (Exists.elim (setProceedingBody_changes f s) fun _ h => ⟨_, h⟩)) _ _ _ s
  case storePolicy => exact runCommand_agree (fun f s => .store (by decide) (storePolicyBody_changes f s)) _ _ _ s
  case release => exact runCommand_agree (fun f s => .store (by decide) (releaseBody_changes f s)) _ _ _ s
  case readHeld => exact runCommand_agree (fun f s => .store (by decide) (readHeldBody_changes f s)) _ _ _ s
  case streamControl => exact runCommand_agree (fun f s => .stream (by decide) (streamControlBody_changes f s)) _ _ _ s
  case putMarker => exact runCommand_agree (fun f s => .marks (by decide) (putMarkerBody_changes f s)) _ _ _ s
  case floorConfig => exact runCommand_agree (fun f s => .floor (by decide) (floorConfigBody_changes f s)) _ _ _ s
  case trimConfig => exact runCommand_agree (fun f s => .trim (by decide) (trimConfigBody_changes f s)) _ _ _ s
  case trimNow => exact runCommand_agree (fun f s => .trim (by decide) (trimNowBody_changes f s)) _ _ _ s
  case converterRestore =>
    exact runCommand_agree (fun f s => .trim (by decide) (converterRestoreBody_changes f s)) _ _ _ s
  case feedConfig => exact runCommand_agree (fun f s => .feed (by decide) (feedConfigBody_changes f s)) _ _ _ s
  case setTime => exact runCommand_agree (fun f s => .time (by decide) (setTimeBody_changes f s)) _ _ _ s

end Sys2Proof.Machine
end

section
/-! SUPPORT. Every step keeps the proceeding's law (R1, R10, R65, R77). -/

namespace Sys2Proof.Machine

/-- What every command keeps, every step keeps, once the queue of commands is not read. -/
theorem step_keeps {P : State → Prop} (pending : ∀ (s : State) (l : List Instr), P s → P { s with pending := l })
    (run : ∀ {c : Instr} {s t : State}, P s → exec c s = .next t → P t) {s t : State} (h : P s)
    (e : step s = .next t) : P t := by
  rcases step_cases e with ⟨-, rfl⟩ | ⟨c, rest, -, e⟩
  · exact h
  · exact run (pending s rest h) e

theorem exec_keeps_proceedingLaw {c : Instr} {s t : State} (h : s.ProceedingLaw) (e : exec c s = .next t) :
    t.ProceedingLaw := by
  have frame := exec_frame e
  have quiet (hq : ¬ (.cap ∈ touched c ∨ .chans ∈ touched c)) : t.ProceedingLaw := by
    have cap : t.cap = s.cap := frame .cap fun hx => hq (.inl hx)
    exact h.congr (by rw [cap]) (by rw [cap]) (by rw [cap]) fun d => by
      rw [State.chan_congr (frame .chans fun hx => hq (.inr hx)) d]
      exact ⟨rfl, rfl⟩
  have scanned {u : State} (g : ScanFrame s u) : u.ProceedingLaw := h.of_scan g
  have body {code : Byte} {need : Command → State → Nat} {fits : Command → Bool} {b : Command → State → State}
      (hb : ∀ f s, s.ProceedingLaw → (b f s).ProceedingLaw) : (runCommand code need fits b s).ProceedingLaw :=
    runCommand_keeps code need fits (fun _ l hl => State.ProceedingLaw.withLink hl l) hb h
  cases c <;> cases e
  case fullReset => exact proceedingLaw_fullReset s
  case captureReset =>
    split_ifs
    · exact proceedingLaw_captureReset s
    · exact h
  case sampleInstant raw =>
    split_ifs
    · exact proceedingLaw_tick raw h
    · exact h
  case periodBoundary =>
    split_ifs with hb
    · refine proceedingLaw_periodBoundary h ?_
      simp only [State.boundaryDue, State.capturing, Bool.and_eq_true, beq_iff_eq] at hb
      exact hb.1.1
    · exact h
  case finalBoundary =>
    split_ifs
    · exact proceedingLaw_finalBoundary s
    · exact h
  case trimEnd =>
    split_ifs
    · exact h.of_trim (.completeTrim s _)
    · exact h
  case openCapture => exact body proceedingLaw_openCaptureBody
  case setChannel => exact body proceedingLaw_setChannelBody
  case routePattern => exact body proceedingLaw_routePatternBody
  case setProceeding => exact body proceedingLaw_setProceedingBody
  case closeCapture =>
    refine body fun f s h => ?_
    obtain ⟨b, l, e⟩ := closeCaptureBody_changes f s
    rw [e]
    exact h
  case loadPattern =>
    refine body fun f s h => ?_
    obtain ⟨p, l, e⟩ := loadPatternBody_changes f s
    rw [e]
    exact h
  case restart =>
    split
    · exact h
    · split_ifs
      · exact proceedingLaw_restartBody _ _ (h.withLink _)
      · exact h
      · exact body fun _ _ h => h
  case laneScan => exact scanned (.scan s)
  case holdRelease => exact (h.withLink _).of_scan (.scan _)
  case noticeFrameEnd =>
    split_ifs
    · exact (h.withLink _).of_scan (.scan _)
    · exact h
  case blockFrameEnd =>
    split_ifs
    · refine State.ProceedingLaw.of_scan (s := s.enterCustody.endFrame) ?_ (.scan _)
      unfold State.enterCustody
      split <;> exact h
    · exact h
  case rereadFrameEnd =>
    split
    · next k _ _ _ =>
      refine State.ProceedingLaw.of_scan (s := (s.popReply.endPin k).endFrame) ?_ (.scan _)
      simp only [State.endPin]
      rw [(setFree_changes _ _).choose_spec]
      exact h
    · exact h
  case replyFrameEnd =>
    split
    · exact (h.withLink s.popReply.endFrame.link).of_scan (.scan _)
    · exact h
    · exact h
  all_goals exact quiet (by simp [touched])

/-- Settles O54: every command that touches the proceeding or the routes keeps the law, the others read none of it. -/
theorem stepKeepsProceedingLaw : Obligations.StepKeepsProceedingLaw := by
  unfold Obligations.StepKeepsProceedingLaw
  exact fun s t h e => step_keeps (fun _ _ h => h) exec_keeps_proceedingLaw h e

end Sys2Proof.Machine
end

section
/-! SUPPORT. Every step keeps the timebase's law (R141 to R150). -/

namespace Sys2Proof.Machine

/-! ## Numbers of a payload -/

theorem foldl_bytes_lt (bs : List Byte) (n k : Nat) (h : n < 256 ^ k) :
    bs.foldl (fun n b => n * 256 + b.toNat) n < 256 ^ (k + bs.length) := by
  induction bs generalizing n k with
  | nil => simpa using h
  | cons b rest ih =>
    have step : n * 256 + b.toNat < 256 ^ (k + 1) := by
      have := b.isLt
      rw [pow_succ]
      omega
    have e : k + (b :: rest).length = k + 1 + rest.length := by simp only [List.length_cons]; omega
    rw [e]
    exact ih _ (k + 1) step

theorem ofBytes_lt (bs : List Byte) : ofBytes bs < 256 ^ bs.length := by
  have h := foldl_bytes_lt bs 0 0 (by decide)
  rwa [Nat.zero_add] at h

/-- A number of `k` bytes (R181). -/
theorem Command.num_lt (f : Command) (i k : Nat) : f.num i k < 256 ^ k :=
  (ofBytes_lt _).trans_le (Nat.pow_le_pow_right (by decide) (by simp [List.length_take]))

/-! ## Court time and its events -/

/-- The timebase's law speaks of the timebase alone. -/
def Timebase.Law (t : Timebase) : Prop :=
  -200000 ≤ t.freqTrim ∧ t.freqTrim ≤ 200000 ∧
  t.day < 65536 ∧ t.instant < 1382400000 ∧
  (∀ m ∈ t.held, m.day < 65536 ∧ m.second < 86400) ∧
  (t.refMark.isSome = true ↔ t.discipline = .acquiring ∨ t.discipline = .locked) ∧
  t.good ≤ 3 ∧ (t.discipline ≠ .acquiring → t.good = 0) ∧
  (t.discipline = .locked ∨ t.discipline = .holdover → t.lockHistory = true) ∧
  (t.discipline = .free → t.lockHistory = false) ∧
  (t.discipline = .locked → t.isSet = true) ∧
  t.missingTimer ≤ 24000 ∧ t.holdoverTimer ≤ 57600000

theorem timeLaw_iff (s : State) : s.TimeLaw ↔ s.time.Law := Iff.rfl

theorem timeLaw_congr {s t : State} (e : t.time = s.time) (h : s.TimeLaw) : t.TimeLaw := by
  rw [timeLaw_iff] at h ⊢
  rwa [e]

/-- The instant after one of a day is one of a day (R141). -/
theorem nextInstant_lt {d : Nat} (hd : d < 65536) (i : Nat) :
    (nextInstant d i).1 < 65536 ∧ (nextInstant d i).2 < 1382400000 := by
  unfold nextInstant Config.dayLength Config.dayCount
  split_ifs with h
  · exact ⟨hd, h⟩
  · exact ⟨Nat.mod_lt _ (by decide), Nat.zero_lt_succ _⟩

theorem parseMessage_some {line : List (Option Byte)} {m : HeldMessage} (h : parseMessage line = some m) :
    m.day < 65536 ∧ m.second < 86400 := by
  unfold parseMessage at h
  split at h
  · cases h
  · split at h
    · split at h
      · split at h
        · next hr =>
          cases h
          exact ⟨Nat.lt_succ_of_le hr.1, Nat.lt_succ_of_le hr.2⟩
        · cases h
      · cases h
    · cases h

/-! ## The law -/

section
variable {t : Timebase} (h : t.Law)
include h

theorem Timebase.Law.tick (missing : t.missingDue = false) (limit : t.limitDue = false) : t.tick.Law := by
  obtain ⟨f, f', day, instant, held, mark, good, idle, history, free, set, timer, timer'⟩ := h
  have n := nextInstant_lt day t.instant
  refine ⟨f, f', n.1, n.2, held, mark, good, idle, history, free, set, ?_, ?_⟩
  · simp only [Timebase.tick, Timebase.missingDue, Bool.and_eq_false_iff, decide_eq_false_iff_not] at missing ⊢
    split_ifs with hp
    · exact Nat.not_le.mp (missing.resolve_left (by simp [hp]))
    · exact timer
  · simp only [Timebase.tick, Timebase.limitDue, Bool.and_eq_false_iff, decide_eq_false_iff_not, beq_eq_false_iff_ne] at limit ⊢
    split_ifs with hp
    · exact Nat.not_le.mp (limit.resolve_left (by simp [hp]))
    · exact timer'

theorem Timebase.Law.takeLine (line : List (Option Byte)) : (t.takeLine line).Law := by
  obtain ⟨f, f', day, instant, held, rest⟩ := h
  simp only [Timebase.takeLine]
  split_ifs
  · exact ⟨f, f', day, instant, held, rest⟩
  · split
    · next m hm =>
      refine ⟨f, f', day, instant, ?_, rest⟩
      rintro _ ⟨⟩
      exact parseMessage_some hm
    · exact ⟨f, f', day, instant, held, rest⟩

theorem Timebase.Law.rejected : t.rejected.Law := by
  obtain ⟨f, f', day, instant, held, mark, good, idle, rest⟩ := h
  exact ⟨f, f', day, instant, held, mark, Nat.zero_le _, fun _ => rfl, rest⟩

/-- The next court time set, within a day (R148, R150). -/
theorem Timebase.Law.setTo {day instant : Nat} (hd : day < 65536) (hi : instant < 1382400000) (n : Nat) :
    Timebase.Law { t with day := day, instant := instant, isSet := true, stepMark := true, steps := n } := by
  obtain ⟨f, f', -, -, held, mark, good, idle, history, free, -, timers⟩ := h
  exact ⟨f, f', hd, hi, held, mark, good, idle, history, free, fun _ => rfl, timers⟩

theorem Timebase.Law.lost (d : Discipline) (hd : d = if t.discipline = .locked ∨ t.lockHistory = true then .holdover else .free) :
    Timebase.Law { t with refMark := none, good := 0, discipline := d } := by
  obtain ⟨f, f', day, instant, held, mark, good, idle, history, free, set, timers⟩ := h
  split_ifs at hd with hl <;> subst hd
  · exact ⟨f, f', day, instant, held, by simp, Nat.zero_le _, fun _ => rfl, fun _ => hl.elim (fun x => history (.inl x)) id,
      nofun, nofun, timers⟩
  · exact ⟨f, f', day, instant, held, by simp, Nat.zero_le _, fun _ => rfl, by simp,
      fun _ => by simpa using fun hx => hl (.inr hx), nofun, timers⟩

theorem Timebase.Law.endHoldover (hd : t.discipline = .holdover) :
    Timebase.Law { t with discipline := .free, lockHistory := false } := by
  obtain ⟨f, f', day, instant, held, mark, good, idle, history, free, set, timers⟩ := h
  refine ⟨f, f', day, instant, held, ?_, good, fun _ => idle (by simp [hd]), by simp, fun _ => rfl, nofun, timers⟩
  simpa [hd] using mark

end

theorem steered_range (trim e d : Int) (locked : Bool) :
    -200000 ≤ steered trim e d locked ∧ steered trim e d locked ≤ 200000 := by
  simp only [steered, clamp_eq (show (-200000 : Int) ≤ 200000 by decide)]
  omega

/-- A measured pulse leads to ACQUIRING with a count of at most 3, or to LOCKED (R146). -/
theorem measuredNext_cases (st : Discipline) (good : Nat) (e : Int) :
    ((measuredNext st good e).1 = .acquiring ∧ (measuredNext st good e).2 ≤ 3) ∨
      measuredNext st good e = (.locked, 0) := by
  unfold measuredNext
  split <;> split_ifs
  · exact .inr rfl
  · exact .inl ⟨rfl, by simp⟩
  · exact .inl ⟨rfl, by simp only; omega⟩
  · exact .inr rfl
  · exact .inl ⟨rfl, by simp⟩

/-- Whether a measured pulse of frequency error `e` leads into LOCKED (R146). -/
def Timebase.locks (t : Timebase) (e : Int) : Bool :=
  t.discipline != .locked && (measuredNext t.discipline t.good e).1 == .locked

/-- Whether a measured pulse steps court time: LOCKED with an offset beyond 16, or on entry before it has been set
(R148). -/
def Timebase.stepsAt (t : Timebase) (e d : Int) : Bool :=
  (measuredNext t.discipline t.good e).1 == .locked && (decide (16 < d.natAbs) || (t.locks e && !t.isSet))

/-- The timebase after a measured pulse, its events apart (R143, R144, R146, R148). -/
def State.measuredTime (s : State) (frac : BitVec 8) (m : HeldMessage) (e d : Int) : Timebase :=
  let t := { s.time with
    refMark := some (s.arrival frac), missingTimer := 0, lastPulse := some ⟨s.ticks, some e, d⟩
    freqTrim := steered s.time.freqTrim e d (s.time.discipline == .locked)
    discipline := (measuredNext s.time.discipline s.time.good e).1
    good := (measuredNext s.time.discipline s.time.good e).2
    lockHistory := s.time.lockHistory || s.time.locks e
    holdoverTimer := if s.time.locks e then 0 else s.time.holdoverTimer }
  if s.time.stepsAt e d then t.step m else t

/-- A measured pulse: the timebase moves, then its events are added (R146, R148, R152). -/
theorem measuredPulse_eq {s : State} (frac : BitVec 8) (m : HeldMessage) {n e d : Int} {after : Discipline}
    (he : e = n - 4096000) (hd : d = s.time.offsetTo m)
    (ha : after = (measuredNext s.time.discipline s.time.good e).1) {u v : State}
    (hu : u = { s with time := s.measuredTime frac m e d })
    (hv : v = if s.time.discipline = after then u else u.timeState .pulse s.time.discipline after) :
    s.measuredPulse frac m n =
      if s.time.stepsAt e d then v.timeStep (if s.time.locks e then .lock else .offset) d else v := by
  rw [hv, hu, ha, hd, he]
  simp only [State.measuredPulse, State.markPulse]
  unfold State.measuredTime Timebase.stepsAt Timebase.locks
  rfl

/-- The timebase's law after a measured pulse (R144, R146, R148). -/
theorem Timebase.Law.measured {s : State} (h : s.time.Law) (hm : s.time.refMark.isSome = true) (frac : BitVec 8)
    {m : HeldMessage} (message : m.day < 65536 ∧ m.second < 86400) (e d : Int) :
    (s.measuredTime frac m e d).Law := by
  obtain ⟨-, -, day, instant, held, mark, good, idle, history, free, set, timer, timer'⟩ := h
  obtain ⟨f, f'⟩ := steered_range s.time.freqTrim e d (s.time.discipline == .locked)
  have timer'' : (if s.time.locks e then 0 else s.time.holdoverTimer) ≤ 57600000 := by split_ifs <;> omega
  have running := mark.mp hm
  rcases measuredNext_cases s.time.discipline s.time.good e with ⟨ha, hg⟩ | hl
  · have steps : s.time.stepsAt e d = false := by simp [Timebase.stepsAt, ha]
    simp only [State.measuredTime, steps]
    exact ⟨f, f', day, instant, held, by simp [ha], hg, by simp [ha], by simp [ha], by simp [ha], by simp [ha],
      Nat.zero_le _, timer''⟩
  · have locked : s.time.discipline = .locked ∨ s.time.locks e = true := by simp [Timebase.locks, hl, em]
    have marked : (s.time.lockHistory || s.time.locks e) = true := by
      rcases locked with h | h
      · simp [history (.inl h)]
      · simp [h]
    simp only [State.measuredTime]
    generalize (if s.time.locks e = true then 0 else s.time.holdoverTimer) = k at timer'' ⊢
    split_ifs with hs
    · have n := nextInstant_lt message.1 (m.second * 16000)
      exact ⟨f, f', n.1, n.2, held, by simp [hl, Timebase.step], by simp [hl, Timebase.step],
        by simp [hl, Timebase.step], fun _ => marked, by simp [hl, Timebase.step], fun _ => rfl, Nat.zero_le _, timer''⟩
    · refine ⟨f, f', day, instant, held, by simp [hl], by simp [hl], by simp [hl], fun _ => marked, by simp [hl],
        fun _ => ?_, Nat.zero_le _, timer''⟩
      rcases locked with h | h
      · exact set h
      · simp [Timebase.stepsAt, hl, h] at hs
        exact hs.2

theorem timeLaw_measuredPulse {s : State} (h : s.time.Law) (hm : s.time.refMark.isSome = true) (frac : BitVec 8)
    {m : HeldMessage} (message : m.day < 65536 ∧ m.second < 86400) (n : Int) : (s.measuredPulse frac m n).time.Law := by
  obtain ⟨e, he⟩ : ∃ e, e = n - 4096000 := ⟨_, rfl⟩
  obtain ⟨d, hd⟩ : ∃ d, d = s.time.offsetTo m := ⟨_, rfl⟩
  have law := h.measured hm frac message e d
  obtain ⟨u, hu⟩ : ∃ u, u = { s with time := s.measuredTime frac m e d } := ⟨_, rfl⟩
  have base : u.time.Law := by rw [hu]; exact law
  rw [measuredPulse_eq frac m he hd rfl hu rfl]
  split_ifs <;> exact base

theorem timeLaw_pulse {s : State} (h : s.time.Law) (frac : BitVec 8) : (s.pulse frac).time.Law := by
  obtain ⟨f, f', day, instant, held, rest⟩ := h
  have consumed : Timebase.Law { s.time with held := none } := ⟨f, f', day, instant, nofun, rest⟩
  obtain ⟨mark, good, idle, history, free, set, timer, timer'⟩ := rest
  simp only [State.pulse]
  split
  · exact consumed.rejected
  · next m _ _ =>
    have opened (d : Int) : Timebase.Law { s.time with
        held := none, refMark := some (s.arrival frac), missingTimer := 0
        lastPulse := some ⟨s.ticks, none, d⟩, discipline := .acquiring, good := 0 } :=
      ⟨f, f', day, instant, nofun, by simp, by simp, by simp, nofun, nofun, nofun, Nat.zero_le _, timer'⟩
    simp only [State.openingPulse]
    split_ifs <;> exact opened (s.time.offsetTo m)
  · next m mark hm hk =>
    split_ifs
    · exact timeLaw_measuredPulse consumed (by simp [hk]) frac (held m hm) _
    · exact consumed.rejected

/-! ## Every step -/

theorem timeLaw_reset : State.reset.TimeLaw := by
  simp [State.TimeLaw, State.reset]

theorem time_openState (s : State) : s.openState.time = { s.time with stepMark := false } := by
  simp only [State.openState, State.addChange_time, State.mapChans_time]

theorem exec_keeps_timeLaw {c : Instr} {s t : State} (h : s.TimeLaw) (e : exec c s = .next t) : t.TimeLaw := by
  have frame := exec_frame e
  have quiet (hq : .time ∉ touched c) : t.TimeLaw := timeLaw_congr (frame .time hq) h
  have scanned {u v : State} (hu : u.time = s.time) (g : ScanFrame u v) : v.TimeLaw := by
    rw [timeLaw_iff, g.time, hu]
    exact h
  cases c <;> cases e
  case fullReset =>
    exact timeLaw_reset
  case captureReset =>
    split_ifs
    · have time : s.captureReset.time = { s.time with events := [], unlisted := 0 } := by simp only [State.captureReset]
      rw [timeLaw_iff, time]
      exact h
    · exact h
  case sampleInstant raw =>
    split_ifs with hf
    · obtain ⟨p, x, hp⟩ := takeStamp_changes ((s.takeSamples raw).tickTrim raw)
      have time : (s.tick raw).time = Timebase.tick { s.time with stepMark := x } := by
        simp only [State.tick, hp]
        rw [time_tickTrim, State.takeSamples, State.mapChans_time]
      simp only [State.tickFree, Bool.and_eq_true, Bool.not_eq_true'] at hf
      rw [timeLaw_iff, time]
      exact Timebase.Law.tick (t := { s.time with stepMark := x }) h hf.1.2 hf.2
    · exact h
  case openCapture =>
    refine runCommand_keeps _ _ _ (fun _ _ h => h) (fun f s h => ?_) h
    unfold openCaptureBody
    split_ifs
    · exact h
    · exact h
    · exact h
    · have time : s.openCapture.time = { s.time with stepMark := false } :=
        (open_frame s).time.trans (time_openState s)
      generalize s.openCapture = u at time ⊢
      refine timeLaw_congr (s := u) rfl ?_
      rw [timeLaw_iff, time]
      exact h
  case laneScan => exact scanned rfl (.scan s)
  case holdRelease => exact scanned (u := { s with link := { s.link with hold := false } }) rfl (.scan _)
  case noticeFrameEnd =>
    split_ifs
    · exact scanned (u := s.endFrame) rfl (.scan _)
    · exact h
  case blockFrameEnd =>
    split_ifs
    · refine scanned (u := s.enterCustody.endFrame) ?_ (.scan _)
      unfold State.enterCustody
      split <;> rfl
    · exact h
  case rereadFrameEnd =>
    split
    · next k _ _ _ =>
      refine scanned (u := (s.popReply.endPin k).endFrame) ?_ (.scan _)
      simp only [State.endPin]
      rw [(setFree_changes _ _).choose_spec]
      rfl
    · exact h
  case replyFrameEnd =>
    split
    · exact scanned (u := s.popReply.endFrame) rfl (.scan _)
    · exact h
    · exact h
  case setTime =>
    refine runCommand_keeps _ _ _ (fun _ _ h => h) (fun f s h => ?_) h
    simp only [setTimeBody]
    split_ifs with hi
    · exact h
    · split
      · exact h
      · exact h
      all_goals exact Timebase.Law.setTo h (f.num_lt 1 2) (Nat.not_le.mp hi) (satInc 65535 s.time.steps)
  case timeMessage line =>
    split_ifs
    · exact Timebase.Law.takeLine h line
    · exact h
  case trefPulse frac => exact timeLaw_pulse h frac
  case missingPulse =>
    split_ifs
    · exact Timebase.Law.lost h _ rfl
    · exact h
  case holdoverLimit =>
    split_ifs with hl
    · simp only [Timebase.limitDue, Bool.and_eq_true, beq_iff_eq] at hl
      exact Timebase.Law.endHoldover (t := s.time) h hl.1
    · exact h
  all_goals exact quiet (by simp [touched])

/-- Settles O59: the law reads the timebase alone. -/
theorem stepKeepsTimeLaw : Obligations.StepKeepsTimeLaw := by
  unfold Obligations.StepKeepsTimeLaw
  exact fun s t h e => step_keeps (fun _ _ h => h) exec_keeps_timeLaw h e

end Sys2Proof.Machine
end

section
/-! SUPPORT. The timebase: time messages, pulses, the two timers and SET_TIME (R142 to R152), and the words in which a
command's outcome is written. -/

namespace Sys2Proof.Machine

/-! ## A head that executes -/

/-- The state without the head of the command queue. -/
theorem popCommand_eq {s : State} {f : Command} {rest : List Command} (h : s.link.cmdQueue = f :: rest) :
    s.popCommand = { s with link := { s.link with cmdQueue := rest } } := by
  simp [State.popCommand, h]

theorem lengthIs_of_length {f : Command} {n : Nat} (h : f.payload.length = n) : lengthIs n f = true := by
  simp [lengthIs, h]

/-- A head that executes and fits is answered by what its body makes of the state without it. -/
theorem next_runCommand {s t : State} {f : Command} {rest : List Command} {code : Byte}
    {need : Command → State → Nat} {fits : Command → Bool} {body : Command → State → State}
    (h : s.Executes f rest (need f s)) (hc : f.payload.head? = some code) (hf : fits f = true)
    (hb : body f { s with link := { s.link with cmdQueue := rest } } = t) :
    (.next (runCommand code need fits body s) : Host.Outcome State Fault Refusal) = .next t := by
  rw [runCommand_executes h hc hf, popCommand_eq h.1, hb]

/-! ## The flags as bytes -/

theorem flag_capture : NoticeKind.capture.flag = 0x80#8 := by decide
theorem flag_store : NoticeKind.store.flag = 0x40#8 := by decide
theorem flag_converter : NoticeKind.converter.flag = 0x20#8 := by decide
theorem flag_time : NoticeKind.time.flag = 0x10#8 := by decide
theorem flag_proceeding : NoticeKind.proceeding.flag = 0x08#8 := by decide
theorem flag_marker : NoticeKind.marker.flag = 0x04#8 := by decide
theorem flag_floor : NoticeKind.floor.flag = 0x02#8 := by decide
theorem flag_link : NoticeKind.link.flag = 0x01#8 := by decide

/-! ## Events of the TIME notice -/

/-- An event joins the list, and TIME is raised (R152). -/
theorem addTime_eq (s : State) (e : TimeEntry) : s.addTime e = { s with
    time := { s.time with
      events := (pushListed s.time.events s.time.unlisted e).1
      unlisted := (pushListed s.time.events s.time.unlisted e).2 }
    link := { s.link with raised := s.link.raised ||| 0x10#8 } } := by
  simp only [State.addTime, State.raise, flag_time]

/-! ## Time messages (R142) -/

theorem digit_some {b : Byte} {d : Nat} (h : digit b = some d) : d < 10 ∧ b = BitVec.ofNat 8 (0x30 + d) := by
  unfold digit at h
  split_ifs at h with hb
  simp only [Option.some.injEq] at h
  refine ⟨by omega, BitVec.eq_of_toNat_eq ?_⟩
  rw [BitVec.toNat_ofNat]
  omega

theorem digit_ofNat {d : Nat} (h : d < 10) : digit (BitVec.ofNat 8 (0x30 + d)) = some d := by
  interval_cases d <;> rfl

/-- Five decimal digits, high digit first. -/
def fiveDigits (n : Nat) : List Nat := [n / 10000 % 10, n / 1000 % 10, n / 100 % 10, n / 10 % 10, n % 10]

/-- The characters of five decimal digits. -/
def digitBytes (n : Nat) : List Byte := (fiveDigits n).map fun d => BitVec.ofNat 8 (0x30 + d)

theorem decimal_digitBytes {n : Nat} (h : n < 100000) : decimal (digitBytes n) = some n := by
  have low (k : Nat) : digit (BitVec.ofNat 8 (0x30 + k % 10)) = some (k % 10) := digit_ofNat (Nat.mod_lt _ (by decide))
  simp only [decimal, digitBytes, fiveDigits, List.map_cons, List.map_nil, List.foldl_cons, List.foldl_nil, low,
    Option.map_some, Option.bind_some, Option.some.injEq]
  omega

theorem decimal_some {bs : List Byte} {n : Nat} (l : bs.length = 5) (h : decimal bs = some n) :
    bs = digitBytes n ∧ n < 100000 := by
  obtain ⟨a, b, c, d, e, rfl⟩ : ∃ a b c d e, bs = [a, b, c, d, e] := by
    match bs, l with
    | [a, b, c, d, e], _ => exact ⟨a, b, c, d, e, rfl⟩
  simp only [decimal, List.foldl_cons, List.foldl_nil, Option.bind_some] at h
  simp only [Option.bind_eq_some_iff, Option.map_eq_some_iff] at h
  obtain ⟨_, ⟨_, ⟨_, ⟨_, ⟨v, hv, rfl⟩, w, hw, rfl⟩, x, hx, rfl⟩, y, hy, rfl⟩, z, hz, rfl⟩ := h
  obtain ⟨lv, rfl⟩ := digit_some hv
  obtain ⟨lw, rfl⟩ := digit_some hw
  obtain ⟨lx, rfl⟩ := digit_some hx
  obtain ⟨ly, rfl⟩ := digit_some hy
  obtain ⟨lz, rfl⟩ := digit_some hz
  refine ⟨?_, by omega⟩
  simp only [digitBytes, fiveDigits, List.map_cons, List.map_nil]
  congr 1
  · congr 2; omega
  congr 1
  · congr 2; omega
  congr 1
  · congr 2; omega
  congr 1
  · congr 2; omega
  congr 2
  congr 1; omega

theorem mapM_map_some {α : Type} (bs : List α) : (bs.map some).mapM id = some bs := by
  induction bs with
  | nil => rfl
  | cons b rest ih => simp [List.mapM_cons, ih]

/-- Values all present. -/
theorem mapM_id_eq_some {α : Type} {l : List (Option α)} {bs : List α} : l.mapM id = some bs ↔ l = bs.map some := by
  refine ⟨fun h => ?_, fun h => h ▸ mapM_map_some bs⟩
  induction l generalizing bs with
  | nil => cases bs with
    | nil => rfl
    | cons => simp at h
  | cons x rest ih =>
    cases x with
    | none => simp [List.mapM_cons] at h
    | some b =>
      simp only [List.mapM_cons, id_eq, Option.bind_eq_bind, Option.bind_some, Option.bind_eq_some_iff] at h
      obtain ⟨cs, hcs, hb⟩ := h
      cases hb
      rw [List.map_cons, ← ih hcs]

/-- A well-formed line is five digits, a comma and five digits, within range (R142). -/
theorem parseMessage_eq_some {l : List (Option Byte)} {m : HeldMessage} : parseMessage l = some m ↔
    m.day ≤ 65535 ∧ m.second ≤ 86399 ∧ l = (digitBytes m.day ++ 0x2C#8 :: digitBytes m.second).map some := by
  constructor
  · intro h
    unfold parseMessage at h
    split at h
    · cases h
    · next bs hbs =>
      rw [mapM_id_eq_some] at hbs
      split_ifs at h with hl
      split at h
      · next d n hd hn =>
        split_ifs at h with hr
        simp only [Option.some.injEq] at h
        subst h hbs
        refine ⟨hr.1, hr.2, congrArg (List.map some) ?_⟩
        obtain ⟨len, comma⟩ := hl
        have first := (decimal_some (by simp [len]) hd).1
        have second := (decimal_some (by simp [len]) hn).1
        rw [← first, ← second]
        have mid : bs.drop 5 = 0x2C#8 :: bs.drop 6 := by
          rw [List.drop_eq_getElem_cons (show 5 < bs.length by omega), ← comma]
          simp [List.getD, List.getElem?_eq_getElem (show 5 < bs.length by omega)]
        rw [← mid, List.take_append_drop]
      · cases h
  · rintro ⟨hd, hs, rfl⟩
    have parsed : ((digitBytes m.day ++ 0x2C#8 :: digitBytes m.second).map some).mapM id =
        some (digitBytes m.day ++ 0x2C#8 :: digitBytes m.second) := mapM_id_eq_some.mpr rfl
    have len (n : Nat) : (digitBytes n).length = 5 := rfl
    simp only [parseMessage, parsed]
    rw [if_pos ⟨rfl, rfl⟩, List.take_left' (len _), show List.drop 6 _ = digitBytes m.second from rfl,
      decimal_digitBytes (by omega), decimal_digitBytes (by omega)]
    exact if_pos ⟨hd, hs⟩

/-- Settles O47. -/
theorem timeMessageRule : Obligations.TimeMessageRule := by
  unfold Obligations.TimeMessageRule
  intro s line l digits hcr hl hdigits
  have drop : dropLineFeed s.time.afterCr line = l := by
    rw [hl]
    unfold dropLineFeed
    split_ifs
    · exact (List.drop_one).symm
    · rfl
  have wf : (Instr.timeMessage line).wf = true := by simpa [Instr.wf] using hcr
  have run : exec (.timeMessage line) s = .next { s with time := s.time.takeLine line } :=
    congrArg Host.Outcome.next (if_pos wf)
  have chars (day second : Nat) : digits day ++ some 0x2C#8 :: digits second =
      (digitBytes day ++ 0x2C#8 :: digitBytes second).map some := by
    simp [hdigits, digitBytes, fiveDigits]
  rw [run]
  refine ⟨fun he => ?_, fun day second hd hs he => ?_, fun hne hno => ?_⟩
  · simp [Timebase.takeLine, drop, he]
  · have parsed : parseMessage l = some ⟨day, second⟩ := parseMessage_eq_some.mpr ⟨hd, hs, he.trans (chars day second)⟩
    have ne : l.isEmpty = false := by rw [he, chars]; rfl
    simp [Timebase.takeLine, drop, ne, parsed]
  · have parsed : parseMessage l = none := by
      cases hp : parseMessage l with
      | none => rfl
      | some m =>
        obtain ⟨hd, hs, he⟩ := parseMessage_eq_some.mp hp
        exact absurd (he.trans (chars _ _).symm) (hno m.day m.second hd hs)
    have ne : l.isEmpty = false := by simpa using hne
    simp [Timebase.takeLine, drop, ne, parsed]

/-! ## Pulses (R143 to R148) -/

/-- The offset of R145 differs from the plain difference by whole spans, and is at most half a span. -/
theorem offsetTo_spec (t : Timebase) (m : HeldMessage) : ∃ k : Int,
    t.offsetTo m = ((m.day * 1382400000 + m.second * 16000 : Nat) : Int) -
      (((t.day * 1382400000 + t.instant : Nat) : Int) - 1) + k * 90596966400000 ∧
    -45298483200000 ≤ t.offsetTo m ∧ t.offsetTo m ≤ 45298483200000 := by
  obtain ⟨r, hr⟩ : ∃ r, r = m.day * 1382400000 + m.second * 16000 := ⟨_, rfl⟩
  obtain ⟨l, hl⟩ : ∃ l, l = t.day * 1382400000 + t.instant := ⟨_, rfl⟩
  have span : courtSpan = 90596966400000 := by norm_num [courtSpan, Config.dayCount, Config.dayLength]
  have offset : t.offsetTo m = courtOffset r ((l + 90596966400000 - 1) % 90596966400000) := by
    rw [hr, hl, ← span]
    rfl
  rw [offset, ← hr, ← hl]
  obtain ⟨x, hx⟩ : ∃ x, x = (l + 90596966400000 - 1) % 90596966400000 := ⟨_, rfl⟩
  rw [← hx]
  obtain ⟨q, hq⟩ : ∃ q, q = (l + 90596966400000 - 1) / 90596966400000 := ⟨_, rfl⟩
  obtain ⟨p, hp⟩ : ∃ p : Int, p = ((r : Int) - x) / 90596966400000 := ⟨_, rfl⟩
  obtain ⟨y, hy⟩ : ∃ y : Int, y = ((r : Int) - x) % 90596966400000 := ⟨_, rfl⟩
  simp only [courtOffset, span]
  rw [show ((90596966400000 : Nat) : Int) = 90596966400000 from rfl, ← hy]
  split_ifs
  · exact ⟨q - 1 - p, by omega⟩
  · exact ⟨q - 1 - p, by omega⟩
  · exact ⟨q - 2 - p, by omega⟩
  · exact ⟨q - 2 - p, by omega⟩

theorem inWindow_eq_true {n : Int} : inWindow n = true ↔ 3686400 ≤ n ∧ n ≤ 4505600 := by
  simp [inWindow]

/-- An opening pulse: the timebase moves, and leaving another state than ACQUIRING is an event (R143, R146, R152). -/
theorem openingPulse_eq {s u : State} (frac : BitVec 8) {m : HeldMessage} {d : Int} (hd : s.time.offsetTo m = d)
    (hu : u = { s with time := { s.time with
      refMark := some (s.arrival frac), missingTimer := 0, lastPulse := some ⟨s.ticks, none, d⟩
      discipline := .acquiring, good := 0 } }) :
    s.openingPulse frac m =
      if s.time.discipline = .acquiring then u else u.timeState .pulse s.time.discipline .acquiring := by
  rw [hu]
  simp only [State.openingPulse, State.markPulse, hd]

/-- Settles O48. -/
theorem unmeasuredPulses : Obligations.UnmeasuredPulses := by
  unfold Obligations.UnmeasuredPulses
  intro s frac
  have run : exec (.trefPulse frac) s = .next (s.pulse frac) := rfl
  rw [run]
  refine ⟨fun hh => ?_, fun m mark hh hm hw => ?_, fun m hh hm => ?_⟩
  · simp only [State.pulse, hh, Timebase.rejected]
  · have out : inWindow ((s.ticks * 256 + frac.toNat : Nat) - mark) ≠ true := by
      rw [Ne, inWindow_eq_true]
      omega
    simp only [State.pulse, hh, hm, Timebase.rejected, State.arrival]
    rw [if_neg out]
  · obtain ⟨k, hd, lo, hi⟩ := offsetTo_spec { s.time with held := none } m
    refine ⟨Timebase.offsetTo { s.time with held := none } m, k, hd, lo, hi, fun u ev hu hev => ?_⟩
    have pulse : s.pulse frac = State.openingPulse { s with time := { s.time with held := none } } frac m := by
      simp only [State.pulse, hh, hm]
    rw [pulse, openingPulse_eq frac rfl hu]
    refine ⟨fun ha => by rw [if_pos ha], fun ha => ?_⟩
    rw [if_neg ha, State.timeState, addTime_eq, hev, hu]

/-- The discipline table of R146, with the ranges of e written out. -/
theorem measuredNext_eq {st : Discipline} (h : st = .acquiring ∨ st = .locked) (good : Nat) (e : Int) :
    measuredNext st good e =
      if st = .locked then (if -64 ≤ e ∧ e ≤ 64 then (.locked, 0) else (.acquiring, 0))
      else if -2 ≤ e ∧ e ≤ 2 then (if good ≤ 2 then (.acquiring, good + 1) else (.locked, 0)) else (.acquiring, 0) := by
  have wide : e.natAbs ≤ 64 ↔ -64 ≤ e ∧ e ≤ 64 := by omega
  have narrow : e.natAbs ≤ 2 ↔ -2 ≤ e ∧ e ≤ 2 := by omega
  rcases h with rfl | rfl <;> simp [measuredNext, wide, narrow]

theorem natAbs_gt_iff (n : Nat) (d : Int) : n < d.natAbs ↔ d < -n ∨ n < d := by omega

theorem steered_eq (t : Timebase) (e d : Int) : steered t.freqTrim e d (t.discipline == .locked) =
    max (-200000) (min 200000 (t.freqTrim - 122 * e +
      if t.discipline = .locked ∧ -16 ≤ d ∧ d ≤ 16 then 500 * d else 0)) := by
  have near : d.natAbs ≤ 16 ↔ -16 ≤ d ∧ d ≤ 16 := by omega
  simp only [steered, clamp_eq (show (-200000 : Int) ≤ 200000 by decide), beq_iff_eq, near]

/-- The timebase after a measured pulse, written out with the outcome of the discipline table and of the step test. -/
theorem measuredTime_eq (s : State) (frac : BitVec 8) (m : HeldMessage) (e d : Int) {after : Discipline} {good : Nat}
    {locks steps : Bool} (hn : measuredNext s.time.discipline s.time.good e = (after, good))
    (hl : s.time.locks e = locks) (hs : s.time.stepsAt e d = steps) {time : Nat × Nat}
    (ht : time = if steps = false then (s.time.day, s.time.instant)
      else if m.second * 16000 + 1 < 1382400000 then (m.day, m.second * 16000 + 1) else ((m.day + 1) % 65536, 0)) :
    s.measuredTime frac m e d = { s.time with
      refMark := some (s.arrival frac), missingTimer := 0, lastPulse := some ⟨s.ticks, some e, d⟩
      freqTrim := steered s.time.freqTrim e d (s.time.discipline == .locked)
      discipline := after, good := good, lockHistory := s.time.lockHistory || locks
      holdoverTimer := if locks = true then 0 else s.time.holdoverTimer
      day := time.1, instant := time.2, isSet := s.time.isSet || steps, stepMark := s.time.stepMark || steps
      steps := if steps = true then satInc 65535 s.time.steps else s.time.steps } := by
  have next : time = if steps = false then (s.time.day, s.time.instant) else nextInstant m.day (m.second * 16000) := ht
  rw [next]
  simp only [State.measuredTime, hn, hl, hs]
  cases steps <;> simp [Timebase.step]

/-- Settles O49. -/
theorem measuredPulse : Obligations.MeasuredPulse := by
  unfold Obligations.MeasuredPulse
  intro s frac m mark hh hm lo hi running hg
  obtain ⟨u, hu⟩ : ∃ u, u = { s with time := { s.time with held := none } } := ⟨_, rfl⟩
  have utime : u.time = { s.time with held := none } := by rw [hu]
  obtain ⟨k, hd, dlo, dhi⟩ := offsetTo_spec u.time m
  obtain ⟨d, hdef⟩ : ∃ d, d = u.time.offsetTo m := ⟨_, rfl⟩
  rw [← hdef] at hd dlo dhi
  refine ⟨d, k, by rw [hd, utime], dlo, dhi, ?_⟩
  intro e after good locks steps time l₁ l₂ he hnext hlocks hsteps htime hl₁ hl₂
  have window : inWindow ((s.ticks * 256 + frac.toNat : Nat) - mark) = true := by
    rw [inWindow_eq_true]
    omega
  have run : exec (.trefPulse frac) s = .next (u.measuredPulse frac m ((s.ticks * 256 + frac.toNat : Nat) - mark)) := by
    have pulse : exec (.trefPulse frac) s = .next (s.pulse frac) := rfl
    rw [pulse, hu]
    simp only [State.pulse, hh, hm, State.arrival]
    rw [if_pos window]
  have next : measuredNext u.time.discipline u.time.good e = (after, good) := by
    rw [hnext, utime]
    exact measuredNext_eq running _ _
  have after_eq : (measuredNext u.time.discipline u.time.good e).1 = after := by rw [next]
  have locks_eq : u.time.locks e = locks := by
    rw [Bool.eq_iff_iff, hlocks, Timebase.locks, after_eq, utime]
    rcases running with h | h <;> simp [h]
  have steps_eq : u.time.stepsAt e d = steps := by
    rw [Bool.eq_iff_iff, hsteps, Timebase.stepsAt, locks_eq, after_eq, utime]
    simp [natAbs_gt_iff 16 d, or_assoc]
  have before : u.time.discipline = s.time.discipline := by rw [utime]
  have base := measuredTime_eq u frac m e d next locks_eq steps_eq (time := time) (by rw [htime, utime])
  rw [steered_eq, utime] at base
  rw [run, measuredPulse_eq (s := u) frac m he hdef after_eq.symm rfl rfl, locks_eq, steps_eq, before, base]
  clear base run hdef hd he
  have turn : s.time.discipline = after ↔ after = s.time.discipline := eq_comm
  subst hu hl₂ hl₁
  by_cases same : after = s.time.discipline
  · cases steps <;> simp [same, State.timeStep, addTime_eq, State.arrival]
  · cases steps <;> simp [turn, same, State.timeState, State.timeStep, addTime_eq, State.arrival, BitVec.or_assoc]

/-! ## The two timers and SET_TIME -/

theorem missingDue_iff (t : Timebase) :
    t.missingDue = true ↔ (t.discipline = .acquiring ∨ t.discipline = .locked) ∧ 24000 ≤ t.missingTimer := by
  simp [Timebase.missingDue, Timebase.pulseAwaited]

theorem limitDue_iff (t : Timebase) : t.limitDue = true ↔ t.discipline = .holdover ∧ 57600000 ≤ t.holdoverTimer := by
  simp [Timebase.limitDue]

/-- Settles O50. -/
theorem timerExpiries : Obligations.TimerExpiries := by
  unfold Obligations.TimerExpiries
  intro s after ev hev hafter
  have missing : exec .missingPulse s = .next (if s.time.missingDue then s.losePulse else s) := rfl
  have limit : exec .holdoverLimit s = .next (if s.time.limitDue then s.endHoldover else s) := rfl
  rw [missing, limit]
  refine ⟨fun hd ht => ?_, fun hd => ?_, fun hd ht => ?_, fun hd => ?_⟩
  · rw [if_pos ((missingDue_iff _).mpr ⟨hd, ht⟩), State.losePulse, State.timeState, addTime_eq, hev, hafter]
  · rw [if_neg]
    rw [missingDue_iff]
    rintro ⟨hr, ht⟩
    rcases hd with h | h | h
    · simp [h] at hr
    · simp [h] at hr
    · omega
  · rw [if_pos ((limitDue_iff _).mpr ⟨hd, ht⟩), State.endHoldover, State.timeState, addTime_eq, hev, hd]
  · rw [if_neg]
    rw [limitDue_iff]
    rintro ⟨hr, ht⟩
    rcases hd with h | h
    · exact h hr
    · omega

/-- A SET_TIME taken (R150, R152). -/
theorem setTime_eq (s : State) {day instant : Nat} {ev : TimeEntry}
    (h : ev = ⟨.step, .set, s.time.discipline, s.time.discipline,
      ((day * 1382400000 + instant : Nat) : Int) - ((s.time.day * 1382400000 + s.time.instant : Nat) : Int),
      s.cap.number, s.cap.period, day, instant⟩) :
    s.setTime day instant = { s with
      time := { s.time with
        day := day, instant := instant, isSet := true, stepMark := true, steps := satInc 65535 s.time.steps
        events := (pushListed s.time.events s.time.unlisted ev).1
        unlisted := (pushListed s.time.events s.time.unlisted ev).2 }
      link := { s.link with raised := s.link.raised ||| 0x10#8 } } := by
  rw [State.setTime, State.timeStep, addTime_eq, h]
  rfl

/-- Settles O46. -/
theorem setTimeRule : Obligations.SetTimeRule := by
  unfold Obligations.SetTimeRule
  intro s f rest h hf
  refine ⟨fun hi => ?_, fun hi hd => ?_, fun ev hi hd hev => ?_⟩ <;>
    refine next_runCommand h hf.1 (lengthIs_of_length hf.2) ?_ <;>
    simp only [setTimeBody]
  · rw [if_pos hi]
    rfl
  · rw [if_neg (Nat.not_le.mpr hi)]
    rcases hd with hd | hd <;> simp only [hd] <;> rfl
  · rw [if_neg (Nat.not_le.mpr hi), setTime_eq { s with link := { s.link with cmdQueue := rest } } hev]
    rcases hd with hd | hd
    · simp only [hd, Timebase.quality]
      rfl
    · cases hh : s.time.lockHistory <;> simp only [hd, hh, Timebase.quality] <;> rfl

end Sys2Proof.Machine
end

section
/-! SUPPORT. The step, the resets and the tables (R1, R7, R10, R23, R67, R74, R75, R92, R149). -/

namespace Sys2Proof.Machine

/-- Settles O1. -/
theorem stepRunsTheFrontCommand : Obligations.StepRunsTheFrontCommand := by
  unfold Obligations.StepRunsTheFrontCommand
  exact fun s c rest => ⟨rfl, rfl⟩

/-! ## The resets -/

theorem conv_reset (v : Conv) : State.reset.conv v =
    if v = 0 then { Converter.reset with state := .trimming } else Converter.reset := by
  rw [State.conv, State.reset]
  refine (vector_get_set _ (0 : Conv) v _).trans ?_
  split_ifs
  · rfl
  · simp [Vector.get]

theorem marks_reset (i : Fin 8) : State.reset.marks.slots.get i = none := by
  simp [State.reset, Vector.get]

theorem pages_reset (p : Fin 4) (i : Fin 320) : (State.reset.cap.pages.get p).get i = 0#16 := by
  simp [State.reset, Vector.get]

/-- Settles O2. -/
theorem fullResetValues : Obligations.FullResetValues := by
  unfold Obligations.FullResetValues
  intro s
  refine ⟨_, rfl, rfl, rfl, rfl, rfl, rfl, rfl, rfl, rfl, rfl, rfl, pages_reset, fun c => ?_, rfl, rfl, marks_reset, rfl,
    rfl, rfl, rfl, rfl, rfl, fun v => ?_, rfl, rfl, rfl, rfl, rfl, rfl, rfl, rfl, rfl, rfl, rfl, rfl, rfl, rfl, rfl, rfl,
    rfl, rfl, rfl, rfl, rfl, rfl, rfl, rfl, rfl, rfl, rfl, rfl, rfl, rfl, rfl, rfl, rfl, rfl, rfl, rfl, rfl, rfl, rfl, rfl,
    rfl, rfl⟩
  · exact (chan_reset c).trans rfl
  · have conv : State.conv { State.reset with
        pending := s.pending, link := { State.reset.link with hold := s.link.hold } } v = _ := conv_reset v
    rw [conv]
    split_ifs <;> exact ⟨rfl, rfl, rfl, rfl⟩

theorem conv_trimRestarted (s : State) (v : Conv) : s.trimRestarted.conv v = { s.conv v with
    state := if (s.conv v).state = .shadow then .spare else (s.conv v).state, stuck := 0 } := by
  have cleared : s.trimRestarted.conv v = s.abandonRotation.clearStuck.conv v :=
    State.conv_congr (by simp only [State.trimRestarted]) v
  have abandoned : s.abandonRotation.conv v =
      if (s.conv v).state = .shadow then { s.conv v with state := .spare } else s.conv v := by
    rw [← State.conv_mapConvs s v fun _ x => if x.state = .shadow then { x with state := .spare } else x]
    exact State.conv_congr (by simp only [State.abandonRotation]) v
  rw [cleared, State.clearStuck, State.conv_mapConvs, abandoned]
  split_ifs <;> rfl

theorem trim_trimRestarted (s : State) : s.trimRestarted.trim = { s.trim with
    convs := s.trimRestarted.trim.convs, rotation := .idle, named := none, shadow := none, events := [], unlisted := 0 } := by
  simp only [State.trimRestarted, State.clearStuck, State.abandonRotation, State.mapConvs]

/-- What a capture reset makes of the part, but for the channels and the converters (R23, R140, R154, R162, R180). -/
theorem captureReset_eq (s : State) : s.captureReset = { s with
    cap := s.cap.restarted, chans := s.captureReset.chans, store := s.store.restarted, stream := s.stream.restarted
    marks := State.reset.marks, floor := s.floor.restarted, trim := s.trimRestarted.trim
    time := { s.time with events := [], unlisted := 0 }, link := s.link.restarted } := by
  have frame : ∃ x, s.trimRestarted = { s with trim := x } := by
    simp only [State.trimRestarted, State.clearStuck, State.abandonRotation, State.mapConvs]
    exact ⟨_, rfl⟩
  obtain ⟨x, hx⟩ := frame
  simp only [State.captureReset]
  rw [(mapChans_changes _ _).choose_spec, hx]

/-- Settles O3. -/
theorem captureResetValues : Obligations.CaptureResetValues := by
  unfold Obligations.CaptureResetValues
  intro s hs
  have run : exec .captureReset s = .next s.captureReset := congrArg Host.Outcome.next (if_pos hs)
  have chan (c : Chan) := chan_captureReset s c
  have conv (v : Conv) : s.captureReset.conv v = _ :=
    (State.conv_congr (s := s.trimRestarted) (by rw [captureReset_eq]) v).trans (conv_trimRestarted s v)
  have trim : s.captureReset.trim = s.trimRestarted.trim := by rw [captureReset_eq]
  have eq := captureReset_eq s
  generalize s.captureReset = t at run chan conv trim eq
  refine ⟨t, run, ?_⟩
  have cap : t.cap = s.cap.restarted := by rw [eq]
  have marks : t.marks = State.reset.marks := by rw [eq]
  refine ⟨by rw [eq], by rw [eq], by rw [cap]; rfl, by rw [cap]; rfl, by rw [cap]; rfl, by rw [cap]; rfl,
    by rw [cap]; rfl, by rw [cap]; rfl, by rw [cap]; rfl, by rw [cap]; rfl, by rw [cap]; rfl,
    fun c => (chan c).trans rfl, by rw [eq]; rfl, by rw [eq]; rfl, fun i => by rw [marks, marks_reset],
    by rw [marks]; rfl, by rw [marks]; rfl, by rw [marks]; rfl, by rw [marks]; rfl, by rw [marks]; rfl,
    by rw [eq]; rfl, conv, by rw [trim, trim_trimRestarted], by rw [eq], by rw [eq], by rw [eq]; rfl⟩

/-! ## The tables -/

/-- Settles O18. -/
theorem tablesListsAndPendingFields : Obligations.TablesListsAndPendingFields := by
  unfold Obligations.TablesListsAndPendingFields
  refine ⟨by decide, rfl, rfl, rfl, rfl, fun p q => by cases p <;> cases q <;> decide,
    fun p => by cases p <;> decide, fun s => ?_, fun x n code => ?_, fun x => ?_,
    fun _ _ => rfl, fun α l n x => ?_, fun _ _ => rfl, fun old new => ?_⟩
  · have record (p : Proceeding) : p.isRecord = true ↔ p = .session ∨ p = .sidebar ∨ p = .inCamera := by
      cases p <;> decide
    simp only [State.recordState, Bool.or_eq_true, Option.any_eq_true, record]
    constructor
    · rintro (h | ⟨p, hp, h⟩)
      · exact ⟨_, h, .inl rfl⟩
      · exact ⟨p, h, .inr hp⟩
    · rintro ⟨p, h, rfl | hp⟩
      · exact .inl h
      · exact .inr ⟨p, hp, h⟩
  · refine ⟨fun h => ?_, fun h => ?_, fun h => ?_, fun h h' => ?_, fun h h' => ?_, fun h => ?_, fun h h' => ?_,
      fun h h' => ?_⟩ <;> simp only [activityNext]
    · rw [if_pos h]
    · rw [if_neg (by omega)]
    · rw [if_pos h]
    · rw [if_neg (by omega), if_pos h']
    · rw [if_neg (by omega), if_neg (by omega)]
    · rw [if_pos h]
    · rw [if_neg (by omega), if_pos h']
    · rw [if_neg (by omega), if_neg (by omega)]
  · cases hs : x.isSet <;> cases hd : x.discipline <;> cases hl : x.lockHistory <;>
      simp [Timebase.quality, hs, hd, hl]
  · refine ⟨fun h => if_pos h, fun h => if_neg ?_⟩
    exact Nat.not_lt.mpr h
  · simp [PendingSettings.merge, Option.orElse_eq_or]

end Sys2Proof.Machine
end

section
/-! SUPPORT. The sample instant: the gain stage and the level code, the record samples, the feed and the clocks (R4, R19 to
R21, R120, R127, R130, R141, R147, R155 to R160). -/

namespace Sys2Proof.Machine

/-! ## The gain stage and the level code (R20, R21) -/

theorem levelCode_of_log {e b : Nat} (lo : 2 ^ b ≤ e / 320) (hi : e / 320 < 2 ^ (b + 1)) :
    levelCode e = 2 * b + (if 1 ≤ b ∧ 2 ^ (b - 1) ≤ e / 320 - 2 ^ b then 1 else 0) + 1 := by
  have pos : e / 320 ≠ 0 := by
    have := Nat.two_pow_pos b
    omega
  have log : Nat.log2 (e / 320) = b := (Nat.log2_eq_iff pos).mpr ⟨lo, hi⟩
  simp only [levelCode, log, if_neg pos]

/-- The code of a block of 320 samples is at most 61, and 61 for the one of greatest energy alone. -/
theorem levelCode_range {e : Nat} (h : e ≤ 343597383680) :
    levelCode e ≤ 61 ∧ (levelCode e = 61 ↔ e = 343597383680) := by
  by_cases hq : e / 320 = 0
  · have zero : levelCode e = 0 := by simp only [levelCode, if_pos hq]
    rw [zero]
    omega
  · obtain ⟨lo, hi⟩ := (Nat.log2_eq_iff hq).mp (rfl : Nat.log2 (e / 320) = Nat.log2 (e / 320))
    obtain ⟨b, hb⟩ : ∃ b, b = Nat.log2 (e / 320) := ⟨_, rfl⟩
    rw [← hb] at lo hi
    have code := levelCode_of_log lo hi
    have top : b ≤ 30 := by
      have : 2 ^ b < 2 ^ 31 := lt_of_le_of_lt lo (by omega)
      have := (Nat.pow_lt_pow_iff_right (by decide : 1 < 2)).mp this
      omega
    rcases Nat.lt_or_ge b 30 with lt | ge
    · have half : 2 ^ (b + 1) ≤ 2 ^ 30 := Nat.pow_le_pow_right (by decide) (by omega)
      have below : e / 320 < 1073741824 := lt_of_lt_of_le hi half
      have bit : (if 1 ≤ b ∧ 2 ^ (b - 1) ≤ e / 320 - 2 ^ b then 1 else 0) ≤ 1 := by split_ifs <;> omega
      omega
    · obtain rfl : b = 30 := by omega
      norm_num at lo hi code
      have no : ¬ 536870912 ≤ e / 320 - 1073741824 := by omega
      rw [if_neg no] at code
      omega

/-- Settles O4. -/
theorem gainStageAndLevelCode : Obligations.GainStageAndLevelCode := by
  unfold Obligations.GainStageAndLevelCode
  refine ⟨fun x0 m => ?_, fun e => ⟨fun h => ?_, fun b lo hi => levelCode_of_log lo hi, levelCode_range⟩⟩
  · have scaled_eq : scaled x0 m = (x0 * m + 524288) / 1048576 := rfl
    refine ⟨by omega, by omega, narrow_toInt _, by simp [clips], fun h => ?_⟩
    rw [scaled_eq, h, Nat.cast_zero, Int.mul_zero]
    decide
  · simp only [levelCode, if_pos h]

/-! ## What a sample instant makes of the state -/

theorem tickFree_iff (s : State) : s.tickFree = true ↔
    ¬ (s.cap.state = .capturing ∧ s.cap.instant = 320) ∧ (∀ e ∈ s.trim.engine, e.remaining ≠ 0) ∧
      ¬ ((s.time.discipline = .acquiring ∨ s.time.discipline = .locked) ∧ 24000 ≤ s.time.missingTimer) ∧
      ¬ (s.time.discipline = .holdover ∧ 57600000 ≤ s.time.holdoverTimer) := by
  have boundary : s.boundaryDue = true ↔ s.cap.state = .capturing ∧ s.cap.instant = 320 := by
    simp [State.boundaryDue, State.capturing]
  have trim : s.trimDue = true ↔ ∃ e ∈ s.trim.engine, e.remaining = 0 := by
    unfold State.trimDue
    split <;> simp_all
  simp only [State.tickFree, Bool.and_eq_true, Bool.not_eq_true', ← Bool.not_eq_true, boundary, trim, missingDue_iff,
    limitDue_iff, and_assoc, not_exists, not_and]

/-- A sample instant leaves the queue of commands, the store, the stream unit, the markers, the floor and the link. -/
theorem tick_eq (s : State) (raw : Vector Raw 26) : ∃ k ch x y, s.tick raw = { s with
    ticks := s.ticks + 1, cap := k, chans := ch, trim := x, time := y
    feed := s.feed.tick s.cap.proceeding (s.feedSum raw) } := by
  obtain ⟨ch, hs⟩ := mapChans_changes s fun c ch =>
    if s.runs c then ch.take s.cap.instant (s.sampleScaled raw c) else ch
  obtain ⟨x, hx⟩ := tickTrim_changes (s.takeSamples raw) raw
  obtain ⟨p, y, hp⟩ := takeStamp_changes ((s.takeSamples raw).tickTrim raw)
  simp only [State.tick]
  rw [hp, hx, State.takeSamples, hs]
  exact ⟨_, _, _, _, rfl⟩

theorem exec_sampleInstant {s : State} {raw : Vector Raw 26} (h : s.tickFree = true) :
    exec (.sampleInstant raw) s = .next (s.tick raw) := congrArg Host.Outcome.next (if_pos h)

/-! ## The record samples -/

theorem corrected_eq (r : Raw) (offset : Int) :
    corrected r offset = max (-8388608) (min 8388607 (r.toInt - offset)) := clamp_eq (by decide) _

/-- The input of a channel's gain stage (R19). -/
theorem sampleInput_eq (s : State) (raw : Vector Raw 26) (c : Chan) : s.sampleInput raw c =
    match (s.chan c).route with
    | .mic => max (-8388608) (min 8388607 ((raw.get (s.trim.map.get c)).toInt - (s.conv (s.trim.map.get c)).offset))
    | .page p => ((s.cap.pages.get p).toList.getD s.cap.instant 0#16).toInt * 256 := by
  unfold State.sampleInput
  cases (s.chan c).route with
  | mic => exact corrected_eq _ _
  | page p => rfl

theorem narrow_eq (y : Int) : narrow y = BitVec.ofInt 16 (max (-32768) (min 32767 y)) :=
  congrArg (BitVec.ofInt 16) (clamp_eq (by decide) y)

/-- Settles O5. -/
theorem sampleInstantRecordsSamples : Obligations.SampleInstantRecordsSamples := by
  unfold Obligations.SampleInstantRecordsSamples
  intro s raw free
  obtain ⟨k, ch, x, z, frame⟩ := tick_eq s raw
  refine ⟨s.tick raw, exec_sampleInstant free, fun c hc => ?_, fun c hr he x0 y r hx hy hr' => ?_, by rw [frame],
    by rw [frame], by rw [frame], by rw [frame], by rw [frame], by rw [frame]⟩
  · have idle : s.runs c = false := by rcases hc with h | h <;> simp [State.runs, h]
    rw [chan_tick, idle]
    rfl
  · have runs : s.runs c = true := by simp [State.runs, hr, he]
    have scale : s.sampleScaled raw c = y := by
      rw [hy, hx, State.sampleScaled, sampleInput_eq]
      rfl
    have sample : narrow y = r := by rw [hr', narrow_eq]
    have clip : (clips y).toNat = if 32767 < y ∨ y < -32768 then 1 else 0 := by
      simp only [clips, ← Bool.decide_or]
      split_ifs with h <;> simp [h]
    rw [chan_tick, runs, if_pos rfl, Channel.take, scale, sample]
    simp only [RunningBlock.add, clip, pow_two]
    rfl

/-! ## The feed -/

theorem feedSum_eq (s : State) (raw : Vector Raw 26) : s.feedSum raw =
    ((List.finRange 24).map fun c => if s.contributes c then (s.recordSample raw c).toInt else 0).sum := by
  have fold (l : List Chan) (t : Int) :
      l.foldl (fun t c => if s.contributes c then t + (s.recordSample raw c).toInt else t) t =
        t + (l.map fun c => if s.contributes c then (s.recordSample raw c).toInt else 0).sum := by
    induction l generalizing t with
    | nil => simp
    | cons c rest ih =>
      rw [List.foldl_cons, ih, List.map_cons, List.sum_cons]
      split_ifs <;> ring
  exact (fold allChans 0).trans (Int.zero_add _)

/-- The feed sample and whether it saturates (R156, R157, R159). -/
theorem feedSample_eq (f : Feed) (p : Proceeding) (sum : Int) {y n total : Int}
    (hy : y = max (-32768) (min 32767 ((sum * f.multiplier + 2048) / 4096)))
    (hn : n = match f.masking with | some k => f.noise.toInt / 2 ^ k | none => 0)
    (ht : total = if p = .sidebar then y + n else y) :
    feedSample f p sum =
      (if p = .session ∨ p = .sidebar then BitVec.ofInt 16 (max (-32768) (min 32767 total)) else 0#16,
        decide ((p = .session ∨ p = .sidebar) ∧
          (y ≠ (sum * f.multiplier + 2048) / 4096 ∨ total < -32768 ∨ 32767 < total))) := by
  obtain ⟨z, hz⟩ : ∃ z, z = feedScaled sum f.multiplier := ⟨_, rfl⟩
  have held : (narrow z).toInt = y := by rw [narrow_toInt, hy, hz]; rfl
  have clip : clips z = decide (y ≠ z) := by
    rw [← held, narrow_toInt, Bool.eq_iff_iff]
    simp only [clips, Bool.or_eq_true, decide_eq_true_eq]
    omega
  have range : -32768 ≤ y ∧ y ≤ 32767 := by omega
  have narrow_z : narrow z = narrow y := by rw [narrow_eq, narrow_eq, hy]; congr 1; rw [hz]; simp [feedScaled]
  rw [show (sum * f.multiplier + 2048) / 4096 = z from hz.symm]
  have within : ¬ (y < -32768 ∨ 32767 < y) := by omega
  have outside (x : Int) : clips x = decide (x < -32768 ∨ 32767 < x) := by
    simp only [clips, ← Bool.decide_or]
    exact decide_eq_decide.mpr or_comm
  cases p
  case session => simp [feedSample, ← hz, ht, narrow_z, clip, narrow_eq, within]
  case sidebar =>
    cases hk : f.masking with
    | none =>
      rw [hk] at hn
      simp [feedSample, hk, ← hz, ht, hn, narrow_z, clip, narrow_eq, within]
    | some k =>
      rw [hk] at hn
      simp only [feedSample, hk, ← hz, held, noiseShifted]
      simp [ht, hn, clip, narrow_eq, outside]
  all_goals simp [feedSample]

/-- Settles O6. -/
theorem sampleInstantFormsTheFeed : Obligations.SampleInstantFormsTheFeed := by
  unfold Obligations.SampleInstantFormsTheFeed
  intro s raw free
  refine ⟨s.tick raw, exec_sampleInstant free, ?_⟩
  intro x0 sample sum y n total hx hs hsum hy hn ht
  have record (c : Chan) : (s.recordSample raw c).toInt = sample c := by
    rw [State.recordSample, narrow_toInt, hs, hx, State.sampleScaled, sampleInput_eq]
    rfl
  have contributes (c : Chan) : s.contributes c = true ↔ s.capturing = true ∧ (s.chan c).settings.enable = true ∧
      (s.chan c).settings.feedInclude = true ∧
        (s.cap.proceeding ≠ .sidebar ∨ (s.chan c).settings.bench = false) := by
    simp [State.contributes, State.runs, and_assoc]
  have total_sum : s.feedSum raw = sum := by
    simp only [feedSum_eq, hsum, record, contributes]
  have feed : (s.tick raw).feed = s.feed.tick s.cap.proceeding (s.feedSum raw) := by
    obtain ⟨k, ch, x, z, frame⟩ := tick_eq s raw
    rw [frame]
  rw [feed, total_sum, Feed.tick, feedSample_eq s.feed _ _ hy hn ht]
  simp only [decide_eq_true_eq]
  rfl

/-! ## The clocks -/

/-- The step mark is cleared where the stamp is read (R149). -/
theorem time_takeStamp {s t : State} (cap : t.cap = s.cap) (time : t.time = s.time) : t.takeStamp.time = { s.time with
    stepMark := if s.capturing = true ∧ s.cap.instant = 0 then false else s.time.stepMark } := by
  have capturing : t.capturing = s.capturing := congrArg (fun k => k.state == CaptureState.capturing) cap
  unfold State.takeStamp
  by_cases h : s.capturing = true ∧ s.cap.instant = 0
  · rw [if_pos (by rwa [capturing, cap]), if_pos h, time]
  · rw [if_neg (by rwa [capturing, cap]), if_neg h, time]

theorem time_tick (s : State) (raw : Vector Raw 26) : (s.tick raw).time = Timebase.tick { s.time with
    stepMark := if s.capturing = true ∧ s.cap.instant = 0 then false else s.time.stepMark } := by
  have stamped := time_takeStamp (s := s) (t := (s.takeSamples raw).tickTrim raw)
    (by rw [cap_tickTrim, State.takeSamples, State.mapChans_cap])
    (by rw [time_tickTrim, State.takeSamples, State.mapChans_time])
  simp only [State.tick, stamped]

/-- The trim unit after a sample instant is that of its own work (R120, R127, R130). -/
theorem trim_tick (s : State) (raw : Vector Raw 26) : (s.tick raw).trim = (s.tickTrim raw).trim := by
  obtain ⟨ch, hs⟩ := mapChans_changes s fun c ch =>
    if s.runs c then ch.take s.cap.instant (s.sampleScaled raw c) else ch
  obtain ⟨p, y, hp⟩ := takeStamp_changes ((s.takeSamples raw).tickTrim raw)
  simp only [State.tick]
  rw [hp, State.takeSamples, hs]
  simp only [State.tickTrim]
  have capturing : ({ s with chans := ch } : State).capturing = s.capturing := rfl
  rw [capturing]
  split_ifs <;> rfl

theorem conv_tickTrim (s : State) (raw : Vector Raw 26) (v : Conv) : (s.tickTrim raw).conv v =
    if s.capturing = true then (s.conv v).follow s.cap.instant (raw.get v) else s.conv v := by
  have reads (t : State) (m : Nat) (e : Option Engine) (k : Nat) :
      State.conv { t with trim := { t.trim with matchSum := m, engine := e, trimClock := k } } v = t.conv v := rfl
  simp only [State.tickTrim]
  rw [reads]
  split_ifs
  · exact State.conv_mapConvs s v _
  · rfl

theorem tickTrim_trim (s : State) (raw : Vector Raw 26) : (s.tickTrim raw).trim = { s.trim with
    convs := (s.tickTrim raw).trim.convs
    matchSum := if s.capturing
      then s.trim.matchSum + (s.shadowing.elim 0 fun r => s.matchTerm raw r) else s.trim.matchSum
    engine := s.trim.engine.map fun e => e.take raw
    trimClock := satInc Config.trimClockMax s.trim.trimClock } := by
  have mapped (f : Conv → Converter → Converter) : ∃ y, s.mapConvs f = { s with trim := { s.trim with convs := y } } :=
    ⟨_, rfl⟩
  simp only [State.tickTrim]
  split_ifs
  · rw [(mapped _).choose_spec]
  · rfl

/-- Settles O7. -/
theorem sampleInstantRunsTheClocks : Obligations.SampleInstantRunsTheClocks := by
  unfold Obligations.SampleInstantRunsTheClocks
  intro s raw
  refine ⟨tickFree_iff s, fun busy => congrArg Host.Outcome.next (if_neg (by simp [busy])), fun free => ?_⟩
  have conv (v : Conv) : (s.tick raw).conv v = _ :=
    (State.conv_congr (s := s.tickTrim raw) (congrArg TrimUnit.convs (trim_tick s raw)) v).trans (conv_tickTrim s raw v)
  refine ⟨s.tick raw, exec_sampleInstant free, rfl, ?_, ?_, ?_, fun v => ?_⟩
  · rw [cap_tick]
    split_ifs <;> simp [State.periodStamp, State.stampNow, bne, beq_eq_decide]
  · rw [time_tick]
    have next : nextInstant s.time.day s.time.instant = if s.time.instant + 1 < 1382400000
        then (s.time.day, s.time.instant + 1) else ((s.time.day + 1) % 65536, 0) := rfl
    simp only [Timebase.tick, next, Timebase.pulseAwaited, Bool.or_eq_true, beq_iff_eq]
    split_ifs <;> rfl
  · rw [trim_tick, tickTrim_trim]
    have engine : (fun e : Engine => e.take raw) = fun e => if e.remaining = 0 then e
        else { e with remaining := e.remaining - 1, sum := e.sum + (raw.get e.conv).toInt } := rfl
    have clock : satInc Config.trimClockMax s.trim.trimClock =
      if s.trim.trimClock < 281474976710655 then s.trim.trimClock + 1 else s.trim.trimClock := rfl
    rw [engine, clock]
    cases s.shadowing with
    | none => simp
    | some r => simp [State.matchTerm, corrected_eq]
  · rw [conv v]
    cases s.capturing
    · rfl
    · simp only [if_true, Converter.follow, beq_eq_decide]
      rfl

end Sys2Proof.Machine
end

section
/-! SUPPORT. The frame receiver and the command engine: faults, complete frames, deferred replies, heads that wait, UNKNOWN
and BAD_LENGTH (R165 to R170, R182). -/

namespace Sys2Proof.Machine

/-! ## The receiver -/

/-- Settles O27. -/
theorem receiverEvents : Obligations.ReceiverEvents := by
  unfold Obligations.ReceiverEvents
  intro s
  refine ⟨fun c => ⟨fun h => if_neg (Nat.not_lt.mpr h), fun h => ?_⟩, fun h => ?_, fun b h hb => ?_, rfl, fun n h hn => ?_,
    fun h => ?_⟩
  · refine ⟨s.link.counters.put (s.link.counters.get c + 1) c, s.link.changes.put (satInc 65535 (s.link.changes.get c)) c,
      (if_pos h).trans ?_, Counters.get_put_self _ _ _, Counters.get_put_self _ _ _, fun x hx =>
        ⟨Counters.get_put_of_ne _ _ hx, Counters.get_put_of_ne _ _ hx⟩⟩
    simp only [State.raise, flag_link]
  · exact congrArg Host.Outcome.next (if_neg (by simp [State.assembling, h]))
  · exact congrArg Host.Outcome.next (if_pos (by simp [Instr.wf, State.assembling, h, hb]))
  · exact congrArg Host.Outcome.next (if_pos (by simpa [Instr.wf, State.assembling, h] using hn))
  · exact congrArg Host.Outcome.next (if_pos (by simp [State.assembling, h]))

/-- Settles O28. -/
theorem frameCompleteOutcomes : Obligations.FrameCompleteOutcomes := by
  unfold Obligations.FrameCompleteOutcomes
  intro s u kind tag check good payload hr hl hu hgood
  have run : exec (.frameComplete kind tag payload check) s = .next (u.acceptFrame kind tag payload check) := by
    rw [hu]
    exact congrArg Host.Outcome.next (if_pos (by simpa [Instr.wf, State.assembling, hr] using hl))
  have cmdQueue : u.link.cmdQueue = s.link.cmdQueue := by rw [hu]
  have replyQueue : u.link.replyQueue = s.link.replyQueue := by rw [hu]
  have covered : crc8 (frameCovered kind tag payload) = good := hgood.symm
  rw [run]
  simp only [State.acceptFrame, covered]
  refine ⟨fun h => by rw [if_pos h], fun h hk => by rw [if_neg (not_not.mpr h), if_pos hk], fun h hk hq => ?_,
    fun h hk hq hp => ?_, fun h hk hq hp => ?_⟩ <;>
    rw [if_neg (not_not.mpr h), if_neg (not_not.mpr hk), State.offer, cmdQueue]
  · rw [if_pos hq]
  · have room : (u.count .busy).room 1 = true := by simpa [State.room, replyQueue] using hp
    rw [if_neg (Nat.not_lt.mpr hq), State.busyReply]
    rw [if_pos room]
    simp only [State.reply, State.enqueue, Command.code, State.count_link_replyQueue, replyQueue]
  · have full : ¬ (u.count .busy).room 1 = true := by simpa [State.room, replyQueue] using hp
    rw [if_neg (Nat.not_lt.mpr hq), State.busyReply]
    rw [if_neg full]

/-! ## Deferred replies -/

theorem takeAnswered_append {before after : List Deferred} {e : Deferred} {r : Reply}
    (hb : ∀ x ∈ before, x.answer = none) (he : e.answer = some r) :
    takeAnswered (before ++ e :: after) = some (r, before ++ after) := by
  induction before with
  | nil => simp [takeAnswered, he]
  | cons x rest ih =>
    have hx : x.answer = none := hb x (by simp)
    simp [takeAnswered, hx, ih fun y hy => hb y (by simp [hy])]

theorem takeAnswered_waiting {l : List Deferred} (h : ∀ e ∈ l, e.answer = none) : takeAnswered l = none := by
  induction l with
  | nil => rfl
  | cons e rest ih =>
    have he : e.answer = none := h e (by simp)
    simp [takeAnswered, he, ih fun x hx => h x (by simp [hx])]

/-! ## Heads that wait -/

theorem engineFree_eq_false {s : State} (h : (∃ e ∈ s.link.deferred, e.answer ≠ none) ∨ s.link.restart ≠ .off) :
    s.engineFree = false := by
  rcases h with ⟨e, he, ha⟩ | h
  · rw [State.engineFree, Bool.and_eq_false_iff, List.all_eq_false]
    exact .inr ⟨e, he, by simpa [Deferred.waiting, Option.ne_none_iff_isSome] using Option.ne_none_iff_isSome.mp ha⟩
  · rw [State.engineFree, Bool.and_eq_false_iff]
    exact .inl (by simpa using h)

/-- No head executes while an entry is ANSWERED, the reply queue is full or the part is restarting. -/
theorem engine_blocked {s : State} {n : Nat} (hn : 1 ≤ n)
    (h : (∃ e ∈ s.link.deferred, e.answer ≠ none) ∨ 8 ≤ s.link.replyQueue.length ∨ s.link.restart ≠ .off) :
    s.engineFree = false ∨ s.room n = false := by
  rcases h with h | h | h
  · exact .inl (engineFree_eq_false (.inl h))
  · refine .inr ?_
    simp only [State.room, Config.replyQueueMax, decide_eq_false_iff_not]
    omega
  · exact .inl (engineFree_eq_false (.inr h))

/-- A row whose head is another's, or that may not execute, changes nothing. -/
theorem runCommand_idle {s : State} {code : Byte} {need : Command → State → Nat} {fits : Command → Bool}
    {body : Command → State → State} (hn : ∀ f, 1 ≤ need f s)
    (h : s.link.cmdQueue = [] ∨ (∃ f rest, s.link.cmdQueue = f :: rest ∧ f.payload.head? ≠ some code) ∨
      (∃ e ∈ s.link.deferred, e.answer ≠ none) ∨ 8 ≤ s.link.replyQueue.length ∨ s.link.restart ≠ .off) :
    runCommand code need fits body s = s := by
  refine runCommand_waits fun f rest hq => ?_
  rcases h with h | ⟨f', rest', h, hc⟩ | h
  · rw [h] at hq
    cases hq
  · obtain ⟨rfl, rfl⟩ : f = f' ∧ rest = rest' := by simpa [hq] using h
    exact .inl hc
  · exact .inr (engine_blocked (hn f) h)

theorem one_le_routeNeed (s : State) (f : Command) : 1 ≤ routeNeed f s := by
  unfold routeNeed
  split
  · exact le_rfl
  · split
    · exact le_rfl
    · split <;> omega

theorem one_le_proceedingNeed (s : State) (f : Command) : 1 ≤ proceedingNeed f s := by
  unfold proceedingNeed
  split
  · exact le_rfl
  · split
    · exact le_rfl
    · split_ifs <;> omega

/-- A payload names no command when it is empty or its code is none of the table's (R182). -/
theorem isUnknown_eq_true {f : Command} : f.isUnknown = true ↔
    f.payload = [] ∨ ∃ b, f.payload.head? = some b ∧ b ∉ commandCodes := by
  unfold Command.isUnknown
  cases f.payload <;> simp

theorem isClose_eq (e : Deferred) : e.isClose = decide (e.request = .close) := by
  simp [Deferred.isClose, beq_eq_decide]

/-- Settles O29. -/
theorem answeredEntriesAndWaitingHeads : Obligations.AnsweredEntriesAndWaitingHeads := by
  unfold Obligations.AnsweredEntriesAndWaitingHeads
  intro s
  have move : exec .deferredReplyMove s = .next s.moveDeferred := rfl
  have own (f : Command) : 1 ≤ ownReply f s := le_rfl
  refine ⟨fun before after e r hl hb he => ⟨fun hq => ?_, fun hq => ?_⟩, fun h => ?_, ?_, fun h => ?_, fun h => ?_,
    fun h => ?_⟩
  · have room : s.room 1 = true := by simpa [State.room] using hq
    rw [move, State.moveDeferred, hl, takeAnswered_append hb he]
    simp only []
    rw [if_pos room]
    rfl
  · have full : ¬ s.room 1 = true := by simpa [State.room] using hq
    rw [move, State.moveDeferred, hl, takeAnswered_append hb he]
    simp only []
    rw [if_neg full]
  · rw [move, State.moveDeferred, takeAnswered_waiting h]
  · have idle {code : Byte} {need : Command → State → Nat} {fits : Command → Bool} {body : Command → State → State}
        (hn : ∀ f, 1 ≤ need f s)
        (h : s.link.cmdQueue = [] ∨ (∃ f rest, s.link.cmdQueue = f :: rest ∧ f.payload.head? ≠ some code) ∨
          (∃ e ∈ s.link.deferred, e.answer ≠ none) ∨ 8 ≤ s.link.replyQueue.length ∨ s.link.restart ≠ .off) :
        (.next (runCommand code need fits body s) : Host.Outcome State Fault Refusal) = .next s := by
      rw [runCommand_idle hn h]
    simp only [List.forall_mem_cons]
    exact ⟨idle own, idle own, idle own, idle own, idle own, idle fun _ => Nat.le_add_right 1 _, idle own, idle own,
      idle own, idle (one_le_routeNeed s), idle (one_le_proceedingNeed s), idle own, idle own, idle own, idle own, idle own,
      idle fun _ => (by decide : 1 ≤ 2), idle own, idle own, idle own, idle own, idle own, idle own, idle own, idle own, idle own,
      idle own, idle own, nofun⟩
  · refine congrArg Host.Outcome.next ?_
    split
    · rfl
    · next f rest hq =>
      rw [if_neg]
      rintro ⟨hu, free, room⟩
      rcases h with h | ⟨f', rest', b, h, hb, hm⟩ | h
      · rw [h] at hq
        cases hq
      · obtain ⟨rfl, rfl⟩ : f = f' ∧ rest = rest' := by simpa [hq] using h
        rcases isUnknown_eq_true.mp hu with hu | ⟨b', hb', hu⟩
        · simp [hu] at hb
        · obtain rfl : b = b' := by simpa [hb] using hb'
          exact hu hm
      · rcases engine_blocked (n := 1) le_rfl h with h | h
        · simp [h] at free
        · simp [h] at room
  · refine congrArg Host.Outcome.next ?_
    split
    · rfl
    · next f rest hq =>
      have other : f.payload ≠ [0x05#8] ∧ (f.payload.head? ≠ some 0x05#8 ∨ (∃ e ∈ s.link.deferred, e.answer ≠ none) ∨
          8 ≤ s.link.replyQueue.length ∨ s.link.restart ≠ .off) := by
        rcases h with h | ⟨f', rest', h, rest⟩
        · rw [h] at hq
          cases hq
        · obtain ⟨rfl, rfl⟩ : f = f' ∧ _ = rest' := by simpa [hq] using h
          exact rest
      rw [if_neg other.1]
      exact runCommand_idle own (.inr (other.2.imp (fun hc => ⟨f, rest, hq, hc⟩) id))
  · refine congrArg Host.Outcome.next (runCommand_waits fun f rest _ => .inr ?_)
    by_cases ha : ∃ e ∈ s.link.deferred, e.answer ≠ none
    · exact .inl (engineFree_eq_false (.inl ha))
    · have waiting (e : Deferred) (he : e ∈ s.link.deferred) : e.waiting = true := by
        simpa [Deferred.waiting] using fun hx => ha ⟨e, he, hx⟩
      have closes : s.link.deferred.filter (fun e => e.waiting && e.isClose) =
          s.link.deferred.filter fun e => e.request = .close :=
        List.filter_congr fun e he => by simp [waiting e he, isClose_eq]
      refine .inr ?_
      simp only [State.room, closeNeed, closes, Config.replyQueueMax, decide_eq_false_iff_not]
      omega

/-- Settles O30. -/
theorem unknownAndBadLength : Obligations.UnknownAndBadLength := by
  unfold Obligations.UnknownAndBadLength
  intro s f rest
  have bad {code : Byte} {need : Command → State → Nat} {fits : Command → Bool} {body : Command → State → State}
      (h : s.Executes f rest (need f s)) (hc : f.payload.head? = some code) (hf : fits f = false) :
      (.next (runCommand code need fits body s) : Host.Outcome State Fault Refusal) =
        .next (s.answered f rest .badLength) := by
    rw [runCommand_badLength h hc hf, popCommand_reply h.1]
  have wrong {n : Nat} (h : f.payload.length ≠ n) : lengthIs n f = false := by simpa [lengthIs] using h
  refine ⟨fun h hu => ?_, ?_, fun h hc hl => bad h hc ?_, fun h hc hl => bad h hc (wrong hl), fun h hc hl => ?_⟩
  · have unknown : f.isUnknown = true := isUnknown_eq_true.mpr hu
    refine congrArg Host.Outcome.next ?_
    rw [h.1]
    simp only []
    rw [if_pos ⟨unknown, h.engineFree, h.room⟩, popCommand_reply h.1]
  · simp only [List.forall_mem_cons]
    have own {code : Byte} {n : Nat} {body : Command → State → State} (h : s.Executes f rest 1)
        (hc : f.payload.head? = some code) (hl : f.payload.length ≠ n) :
        (.next (runCommand code ownReply (lengthIs n) body s) : Host.Outcome State Fault Refusal) =
          .next (s.answered f rest .badLength) := bad h hc (wrong hl)
    refine ⟨own, own, own, own, fun h hc hl => ?_, own, own, own, own, fun h hc hl => ?_, fun h hc hl => ?_, own, own, own,
      own, own, own, own, own, own, own, own, own, own, own, own, nofun⟩
    · have restart : exec .restart s = .next (runCommand 0x05#8 ownReply (fun _ => false) (fun _ s => s) s) := by
        refine congrArg Host.Outcome.next ?_
        rw [h.1]
        simp only []
        rw [if_neg]
        intro hp
        exact hl (by rw [hp]; rfl)
      exact restart.trans (bad h hc rfl)
    · have need : routeNeed f s = 1 := by simp [routeNeed, wrong hl]
      exact bad (by rw [need]; exact h) hc (wrong hl)
    · have need : proceedingNeed f s = 1 := by simp [proceedingNeed, wrong hl]
      exact bad (by rw [need]; exact h) hc (wrong hl)
  · rcases hl with hl | hl
    · have short : ¬ 5 ≤ f.payload.length := by omega
      simp [markerLength, short]
    · simp [markerLength, hl]
  · have need : closeNeed f s = 1 + (s.link.deferred.filter fun e => e.request = .close).length := by
      rw [closeNeed, h.waiting]
      exact congrArg (fun l : List Deferred => 1 + l.length) (List.filter_congr fun e _ => isClose_eq e)
    exact bad (by rw [need]; exact h) hc (wrong hl)

end Sys2Proof.Machine
end

section
/-! SUPPORT. The commands that only read, the link commands and RESTART (R16, R43, R80, R106, R116, R137, R151, R175 to
R179). -/

namespace Sys2Proof.Machine

/-! ## Commands that only read -/

/-- While every entry of the table is WAITING, the test for a deferred SET_PROCEEDING looks at the request alone. -/
theorem any_isProceeding {s : State} (h : ∀ e ∈ s.link.deferred, e.answer = none) :
    (s.link.deferred.any fun e => e.waiting && e.isProceeding) =
      s.link.deferred.any fun e => match e.request with | .proceeding _ => true | _ => false := by
  have entry (e : Deferred) (he : e ∈ s.link.deferred) : (e.waiting && e.isProceeding) =
      match e.request with | .proceeding _ => true | _ => false := by
    have waiting : e.waiting = true := by simp [Deferred.waiting, h e he]
    rw [waiting, Bool.true_and]
    cases hr : e.request <;> simp [Deferred.isProceeding, hr]
  rw [Bool.eq_iff_iff, List.any_eq_true, List.any_eq_true]
  exact exists_congr fun e => and_congr_right fun he => by rw [entry e he]

theorem mask_eq_zero_iff (p : PendingSettings) : p.mask = 0 ↔ p = PendingSettings.empty := by
  obtain ⟨a, b, c, d, e, f, g, h, i⟩ := p
  simp [PendingSettings.mask, PendingSettings.empty, Bool.toNat_eq_zero, and_assoc]

theorem readChan_none {n : Nat} (h : 24 ≤ n) : readChan n = none := dif_neg (Nat.not_lt.mpr h)

theorem readChan_val (c : Chan) : readChan c.val = some c := dif_pos c.isLt

/-- The map in the order of the channels, once it is built (R135). -/
theorem mapBytes_built {s : State} (h : s.trim.mapBuilt = true) :
    s.mapBytes = (List.finRange 24).flatMap fun c => be 1 (s.convOf c).val := by
  simp only [State.mapBytes, State.servingConv, if_pos h]
  rfl

theorem servingConv_bytes (s : State) (c : Chan) :
    convOr255 (s.servingConv c) = if s.trim.mapBuilt = true then be 1 (s.convOf c).val else be 1 255 := by
  unfold State.servingConv
  split_ifs <;> rfl

/-- The engine's bytes of CONVERTER_STATUS (R137). -/
theorem engineBytes_eq (s : State) : s.engineBytes = (match s.trim.engine with
    | none => be 1 0 ++ be 1 255 ++ [0x00#8]
    | some e => be 1 e.kind.code ++ be 1 e.conv.val ++ 0x01#8 :: be 2 e.remaining)
      ++ onOff (decide (s.trim.rotation = .shadowing)) := by
  simp only [State.engineBytes, State.engineReserved, beq_eq_decide]
  cases s.trim.engine <;> rfl

/-- Settles O31. -/
theorem statusCommandsAnswer : Obligations.StatusCommandsAnswer := by
  unfold Obligations.StatusCommandsAnswer
  intro s f rest h
  obtain ⟨u, hu⟩ : ∃ u, u = { s with link := { s.link with cmdQueue := rest } } := ⟨_, rfl⟩
  have status {code : Byte} (hf : f.Is code 1) (data : State → List Byte) {d : List Byte} (hd : data u = d) :
      (.next (runCommand code ownReply (lengthIs 1) (fun f s => s.reply f .ok (data s)) s) :
        Host.Outcome State Fault Refusal) = .next (s.answered f rest .ok d) := by
    refine next_runCommand h hf.1 (lengthIs_of_length hf.2) ?_
    rw [← hu, hd, hu]
    rfl
  refine ⟨fun hf => status hf State.identity (by rw [hu]; rfl), fun hf => status hf State.proceedingStatus ?_,
    fun hf => status hf State.markerStatus ?_, fun hf => status hf State.floorStatus (by rw [hu]; rfl),
    fun c ch hf hc hch => ?_, fun hf hc => ?_, fun hf => status hf State.storeStatus ?_,
    fun hf => status hf State.converterStatus ?_, fun hf => status hf State.timeStatus (by rw [hu]; rfl)⟩
  · have any : (u.link.deferred.any fun e => e.waiting && e.isProceeding) =
        s.link.deferred.any fun e => match e.request with | .proceeding _ => true | _ => false := by
      rw [hu]
      exact any_isProceeding h.2.2.1
    rw [State.proceedingStatus, any, hu] <;> rfl
  · have slots : slotBytes = fun m => match m with
        | none => [0x00#8]
        | some m => 0x01#8 :: (be 1 m.kind.code ++ chanOr255 m.channel ++ be 1 m.text.length ++ m.text) := by
      funext m
      cases m <;> rfl
    have count : u.marks.slots.toList.length = 8 := by simp
    rw [State.markerStatus, counted, count, slots, hu] <;> rfl
  · refine next_runCommand h hf.1 (lengthIs_of_length hf.2) ?_
    have serving : convOr255 (u.servingConv c) = _ := servingConv_bytes u c
    have fields : optional PendingSettings.bytes (if ch.pendingSettings.mask = 0 then none else some ch.pendingSettings) =
        if ch.pendingSettings = PendingSettings.empty then [0x00#8] else 0x01#8 :: ch.pendingSettings.bytes := by
      simp only [mask_eq_zero_iff]
      split_ifs <;> rfl
    have uch : u.chan c = ch := by rw [hch, hu]; rfl
    rw [← hu, getChannelBody, hc, readChan_val]
    simp only [State.channelData, uch, fields, serving]
    rw [hu]
    rfl
  · refine next_runCommand h hf.1 (lengthIs_of_length hf.2) ?_
    rw [getChannelBody, readChan_none hc]
    rfl
  · have sending : (s.store.sending.isSome).toNat = if s.store.sending.isSome = true then 1 else 0 := by
      cases s.store.sending <;> rfl
    have pending : s.store.custody.filter (fun h => decide (h.releasePending = true)) =
        s.store.custody.filter HeldSlot.releasePending :=
      List.filter_congr fun x _ => by simp
    rw [← sending, pending, hu]
    simp only [State.storeStatus, Store.policyBytes, List.append_assoc]
    rfl
  · rw [State.converterStatus, engineBytes_eq]
    have map : optional (fun _ : Unit => u.mapBytes) (if u.trim.mapBuilt then some () else none) =
        if s.trim.mapBuilt = true then 0x01#8 :: (List.finRange 24).flatMap fun c => be 1 (s.convOf c).val
          else [0x00#8] := by
      have built : u.trim.mapBuilt = s.trim.mapBuilt := by rw [hu]
      rw [built]
      split_ifs with hb
      · simp only [optional, mapBytes_built (built.trans hb)]
        rw [hu]
        rfl
      · rfl
    have entry : s.converterBytes = fun v => be 1 (s.conv v).state.code ++ beInt 2 (s.conv v).offset
      ++ optional (be 6) (s.conv v).doneAt ++ be 1 (s.conv v).stuck ++ chanOr255 (s.channelOf v) := rfl
    have same : u.converterBytes = s.converterBytes := by rw [hu]; rfl
    rw [map, same, entry, hu]
    simp only [State.rotationBytes, List.append_assoc]
    rfl

/-! ## Link commands -/

theorem readOnOff_none {n : Nat} (h : 1 < n) : readOnOff n = none := by
  match n, h with
  | n + 2, _ => rfl

/-- A schedule's entries are those of the payload, and each of the three letters is among them (R178). -/
theorem newSchedule_some {f : Command} {v : Vector Source 16} (h : f.newSchedule = some v) :
    (∀ i : Fin 16, readSource (f.byte (1 + i.val)) = some (v.get i)) ∧ ∀ x : Source, ∃ i, v.get i = x := by
  unfold Command.newSchedule at h
  split at h
  · cases h
  · next l hl =>
    rw [mapM_id_eq_some] at hl
    split_ifs at h with hc
    cases h
    have len : l.length = 16 := by simpa using (congrArg List.length hl).symm
    have entry (i : Fin 16) : (Vector.ofFn fun j : Fin 16 => l.getD j.val .r).get i = l[i.val]'(by omega) := by
      rw [vector_get_ofFn]
      exact List.getD_eq_getElem _ _ _
    refine ⟨fun i => ?_, fun x => ?_⟩
    · rw [entry]
      have at_i := congrArg (fun m : List (Option Source) => m[i.val]?) hl
      simpa [List.getElem?_map, List.getElem?_eq_getElem (show i.val < l.length by omega)] using at_i
    · have mem : x ∈ l := by
        simp only [Bool.and_eq_true, List.contains_iff_mem] at hc
        cases x
        · exact hc.1.1
        · exact hc.1.2
        · exact hc.2
      obtain ⟨n, hn, rfl⟩ := List.getElem_of_mem mem
      exact ⟨⟨n, by omega⟩, entry _⟩

theorem newSchedule_eq {f : Command} {v : Vector Source 16}
    (h : ∀ i : Fin 16, readSource (f.byte (1 + i.val)) = some (v.get i)) (all : ∀ x : Source, ∃ i, v.get i = x) :
    f.newSchedule = some v := by
  have read : ((List.finRange 16).map fun i => readSource (f.byte (1 + i.val))).mapM id =
      some ((List.finRange 16).map v.get) := by
    rw [mapM_id_eq_some, List.map_map]
    exact List.map_congr_left fun i _ => h i
  have mem (x : Source) : ((List.finRange 16).map v.get).contains x = true := by
    obtain ⟨i, hi⟩ := all x
    simp only [List.contains_iff_mem, List.mem_map]
    exact ⟨i, List.mem_finRange i, hi⟩
  simp only [Command.newSchedule, read, mem, Bool.and_self, if_true, Option.some.injEq]
  ext i hi
  simp [Vector.get]

theorem readSource_eq_some {n : Nat} {x : Source} (h : readSource n = some x) : n = x.code := by
  unfold readSource at h
  split_ifs at h with h1 h2 h3 <;> cases h
  · exact h1
  · exact h2
  · exact h3

theorem readSource_code (x : Source) : readSource x.code = some x := by cases x <;> rfl

/-- The letter of a source. -/
def Source.letter : Source → Byte
  | .r => 0x52#8 | .n => 0x4E#8 | .b => 0x42#8

theorem scheduleBytes_eq (v : Vector Source 16) : scheduleBytes v = v.toList.map Source.letter := by
  rw [scheduleBytes, List.flatMap_def]
  have letters : (fun x : Source => be 1 x.code) = fun x => [x.letter] := by
    funext x
    cases x <;> rfl
  rw [letters]
  induction v.toList with
  | nil => rfl
  | cons x rest ih => simp [ih]

theorem linkStatus_eq {s : State} (h : ∀ e ∈ s.link.deferred, e.answer = none) : s.linkStatus =
    ([s.link.counters.stray, s.link.counters.check, s.link.counters.oversize, s.link.counters.gap,
      s.link.counters.line, s.link.counters.busy, s.link.counters.replyLost].flatMap (be 2)) ++
    be 1 s.link.cmdQueue.length ++ be 1 s.link.replyQueue.length ++ be 1 s.link.deferred.length
      ++ be 1 0 ++ (s.link.schedule.toList.map Source.letter) ++ be 1 s.link.position.val
      ++ [s.link.enabled, s.link.raised] := by
  have waiting : s.link.deferred.filter Deferred.waiting = s.link.deferred :=
    List.filter_eq_self.mpr fun e he => by simp [Deferred.waiting, h e he]
  have answered : (s.link.deferred.filter fun e => !e.waiting) = [] :=
    List.filter_eq_nil_iff.mpr fun e he => by simp [Deferred.waiting, h e he]
  simp [State.linkStatus, waiting, answered, scheduleBytes_eq, Counters.bytes]

/-- Settles O32. -/
theorem linkCommandEffects : Obligations.LinkCommandEffects := by
  unfold Obligations.LinkCommandEffects
  intro s f rest h
  obtain ⟨u, hu⟩ : ∃ u, u = { s with link := { s.link with cmdQueue := rest } } := ⟨_, rfl⟩
  refine ⟨fun hf hb => ?_, fun data hf hd => ?_, fun m hm => ?_, fun hf hb => ?_, fun v hv hp => ?_⟩
  · refine next_runCommand h hf.1 (lengthIs_of_length hf.2) ?_
    rw [linkStatusBody, readOnOff_none hb]
    rfl
  · have status : u.linkStatus = data := by
      rw [linkStatus_eq (by rw [hu]; exact h.2.2.1), hd, hu]
      rfl
    refine ⟨fun hb => ?_, fun hb => ?_⟩ <;> refine next_runCommand h hf.1 (lengthIs_of_length hf.2) ?_ <;>
      rw [← hu, linkStatusBody, hb] <;> simp only [readOnOff, status] <;> rw [hu] <;> rfl
  · refine next_runCommand h (by rw [hm]; rfl) (lengthIs_of_length (by rw [hm]; rfl)) ?_
    rw [noticeMaskBody, hm]
    rfl
  · refine next_runCommand h hf.1 (lengthIs_of_length hf.2) ?_
    have none : f.newSchedule = none := by
      cases hs : f.newSchedule with
      | none => rfl
      | some v =>
        obtain ⟨read, all⟩ := newSchedule_some hs
        have code (i : Nat) (hi : i < 16) : f.byte (1 + i) = (v.get ⟨i, hi⟩).code := readSource_eq_some (read ⟨i, hi⟩)
        rcases hb with ⟨i, hi, hb⟩ | ⟨x, hx, hb⟩
        · rw [List.mem_range] at hi
          rw [code i hi] at hb
          cases hv : v.get ⟨i, hi⟩ <;> simp [hv, Source.code] at hb
        · obtain ⟨y, rfl⟩ : ∃ y : Source, x = y.code := by
            simp only [List.mem_cons, List.not_mem_nil, or_false] at hx
            rcases hx with rfl | rfl | rfl
            · exact ⟨.r, rfl⟩
            · exact ⟨.n, rfl⟩
            · exact ⟨.b, rfl⟩
          obtain ⟨i, hi⟩ := all y
          exact absurd ((code i.val i.isLt).trans (by rw [← hi])) (hb i.val (List.mem_range.mpr i.isLt))
    rw [laneScheduleBody, none]
    rfl
  · have letters : f.payload = 0x04#8 :: v.toList.map Source.letter := by
      rw [hp]
      rfl
    have len : f.payload.length = 17 := by simp [letters]
    refine next_runCommand h (by rw [hp]; rfl) (lengthIs_of_length len) ?_
    have byte (i : Fin 16) : f.byte (1 + i.val) = (v.get i).code := by
      have toNat (x : Source) : x.letter.toNat = x.code := by cases x <;> rfl
      rw [Command.byte, letters, Nat.add_comm, List.getD_cons_succ, ← toNat]
      simp [List.getD, Vector.get]
    have schedule : f.newSchedule = some v := newSchedule_eq (fun i => by rw [byte, readSource_code]) hv
    have data : f.payload.drop 1 = scheduleBytes v := by rw [letters, scheduleBytes_eq]; rfl
    rw [laneScheduleBody, schedule, data]
    rfl

/-- Settles O33. -/
theorem restartExecutes : Obligations.RestartExecutes := by
  unfold Obligations.RestartExecutes
  intro s f rest hq hp
  have run : exec .restart s = .next (if s.link.restart = .off then restartBody f s.popCommand else s) := by
    refine congrArg Host.Outcome.next ?_
    rw [hq]
    simp only []
    rw [if_pos hp]
  rw [run]
  refine ⟨fun h => by rw [if_neg h], fun h => ?_⟩
  rw [if_pos h, popCommand_eq hq]
  have code : f.code = 0x05#8 := by rw [Command.code, hp]; rfl
  have running (u : State) : onOff u.capturing = if u.cap.state = .capturing then [0x01#8] else [0x00#8] := by
    cases hc : u.cap.state <;> simp [State.capturing, hc, onOff]
  have chan (c : Chan) := State.chan_mapChans s c fun _ ch =>
    { ch with pendingSettings := PendingSettings.empty, pendingRoute := none }
  obtain ⟨ch, hm⟩ := mapChans_changes { s with link := { s.link with cmdQueue := rest } } fun _ ch =>
    { ch with pendingSettings := PendingSettings.empty, pendingRoute := none }
  refine ⟨ch, fun c => ?_, ?_⟩
  · have same := State.chan_mapChans { s with link := { s.link with cmdQueue := rest } } c fun _ ch =>
      { ch with pendingSettings := PendingSettings.empty, pendingRoute := none }
    rw [hm] at same
    exact same
  · simp only [restartBody, State.dropPending]
    rw [hm, code, running]

end Sys2Proof.Machine
end

section
/-! SUPPORT. The bytes of a payload and the numbers they hold, and the commands that act at once: store policy, stream,
floor, trim, feed, custody, markers and converters (R42, R53 to R58, R105, R109, R136 to R139, R161, R181). -/

namespace Sys2Proof.Machine

/-! ## Numbers and their bytes (R181) -/

theorem be_succ (k n : Nat) : be (k + 1) n = BitVec.ofNat 8 (n / 256 ^ k) :: be k n := rfl

@[simp] theorem length_be (k n : Nat) : (be k n).length = k := by
  induction k with
  | zero => rfl
  | succ k ih => rw [be_succ, List.length_cons, ih]

/-- The bytes of a number do not read what is above them. -/
theorem be_add_mul (k n a : Nat) : be k (n + a * 256 ^ k) = be k n := by
  induction k generalizing a with
  | zero => rfl
  | succ k ih =>
    have split : n + a * 256 ^ (k + 1) = n + a * 256 * 256 ^ k := by ring
    rw [be_succ, be_succ, split, ih, Nat.add_mul_div_right _ _ (Nat.pow_pos (by decide))]
    congr 1
    refine BitVec.eq_of_toNat_eq ?_
    rw [BitVec.toNat_ofNat, BitVec.toNat_ofNat]
    omega

theorem foldl_bytes (bs : List Byte) (n : Nat) :
    bs.foldl (fun n b => n * 256 + b.toNat) n = n * 256 ^ bs.length + ofBytes bs := by
  induction bs generalizing n with
  | nil => simp [ofBytes]
  | cons b rest ih =>
    have head : ofBytes (b :: rest) = (0 * 256 + b.toNat) * 256 ^ rest.length + ofBytes rest := ih (0 * 256 + b.toNat)
    rw [List.foldl_cons, ih, head, List.length_cons]
    ring

theorem ofBytes_cons (b : Byte) (bs : List Byte) : ofBytes (b :: bs) = b.toNat * 256 ^ bs.length + ofBytes bs := by
  rw [ofBytes, List.foldl_cons, foldl_bytes, Nat.zero_mul, Nat.zero_add]

/-- The bytes of the number some bytes hold are those bytes. -/
theorem be_ofBytes (bs : List Byte) : be bs.length (ofBytes bs) = bs := by
  induction bs with
  | nil => rfl
  | cons b rest ih =>
    have lt := ofBytes_lt rest
    rw [List.length_cons, be_succ, ofBytes_cons, Nat.add_comm, be_add_mul, ih,
      Nat.add_mul_div_right _ _ (Nat.pow_pos (by decide)), Nat.div_eq_of_lt lt, Nat.zero_add]
    simp

/-- The number the bytes of a number hold is that number, when it fits. -/
theorem ofBytes_be {k n : Nat} (h : n < 256 ^ k) : ofBytes (be k n) = n := by
  induction k generalizing n with
  | zero =>
    have : n = 0 := by simpa using h
    rw [this]
    rfl
  | succ k ih =>
    have pos : 0 < 256 ^ k := Nat.pow_pos (by decide)
    have high : n / 256 ^ k < 256 := Nat.div_lt_of_lt_mul (by rw [pow_succ] at h; omega)
    have low : be k n = be k (n % 256 ^ k) := by
      conv_lhs => rw [← Nat.mod_add_div n (256 ^ k), Nat.mul_comm (256 ^ k), be_add_mul]
    rw [be_succ, ofBytes_cons, length_be, low, ih (Nat.mod_lt _ pos), BitVec.toNat_ofNat, Nat.mod_eq_of_lt high]
    exact Nat.div_add_mod' n (256 ^ k)

/-! ## The bytes of a payload -/

theorem Command.byte_lt (f : Command) (i : Nat) : f.byte i < 256 := (f.payload.getD i 0#8).isLt

/-- The bytes a number was read from. -/
theorem be_num {f : Command} {i k : Nat} (h : i + k ≤ f.payload.length) :
    be k (f.num i k) = (f.payload.drop i).take k := by
  have len : ((f.payload.drop i).take k).length = k := by
    rw [List.length_take, List.length_drop]
    omega
  have read := be_ofBytes ((f.payload.drop i).take k)
  rwa [len] at read

theorem be_byte {f : Command} {i : Nat} (h : i < f.payload.length) :
    be 1 (f.byte i) = (f.payload.drop i).take 1 := by
  have read : be 1 (f.byte i) = [f.payload[i]] := by
    rw [Command.byte, List.getD_eq_getElem _ _ h]
    simp [be]
  rw [read, List.drop_eq_getElem_cons h, List.take_succ_cons, List.take_zero]

theorem drop_eq_be_num {f : Command} {i k : Nat} (h : i + k ≤ f.payload.length) :
    f.payload.drop i = be k (f.num i k) ++ f.payload.drop (i + k) := by
  rw [be_num h, ← List.drop_drop, List.take_append_drop]

theorem drop_eq_be_byte {f : Command} {i : Nat} (h : i < f.payload.length) :
    f.payload.drop i = be 1 (f.byte i) ++ f.payload.drop (i + 1) := by
  rw [be_byte h, ← List.drop_drop, List.take_append_drop]

/-- A number of two bytes. -/
theorem Command.num_two {f : Command} {i : Nat} (h : i + 1 < f.payload.length) :
    f.num i 2 = f.byte i * 256 + f.byte (i + 1) := by
  rw [Command.num, List.drop_eq_getElem_cons (by omega), List.drop_eq_getElem_cons h]
  simp only [List.take_succ_cons, List.take_zero, Command.byte]
  rw [List.getD_eq_getElem _ _ (show i < f.payload.length by omega), List.getD_eq_getElem _ _ h]
  simp [ofBytes]

theorem onOff_eq_be (b : Bool) : onOff b = be 1 (if b = true then 1 else 0) := by cases b <;> rfl

/-! ## Settings that act at once -/

/-- The free count formed again, with STORE raised by a change of the level state (R37, R40). -/
theorem setFree_eq (s : State) (n : Nat) : s.setFree n = { s with
    store := { s.store with free := n }
    link := { s.link with
      raised := if levelOf n s.store.shed s.store.keep = s.store.level then s.link.raised
        else s.link.raised ||| 0x40#8 } } := by
  have level : ({ s.store with free := n } : Store).level = levelOf n s.store.shed s.store.keep := rfl
  simp only [State.setFree, level]
  split_ifs
  · rfl
  · simp only [State.raise, flag_store]

/-- The levels and the reclaim setting put in place, with STORE raised by a change of the level state (R37, R40, R42). -/
theorem setPolicy_eq (s : State) (shed keep : Nat) (on : Bool) : s.setPolicy shed keep on = { s with
    store := { s.store with shed := shed, keep := keep, reclaim := on }
    link := { s.link with
      raised := if levelOf s.store.free shed keep = s.store.level then s.link.raised else s.link.raised ||| 0x40#8 } } := by
  have level : ({ s.store with shed := shed, keep := keep, reclaim := on } : Store).level = levelOf s.store.free shed keep :=
    rfl
  simp only [State.setPolicy, level]
  split_ifs
  · rfl
  · simp only [State.raise, flag_store]

/-- Settles O41. -/
theorem immediateSettingCommands : Obligations.ImmediateSettingCommands := by
  unfold Obligations.ImmediateSettingCommands
  intro s f rest h
  have run {code : Byte} {len : Nat} {body : Command → State → State} {t : State} (hf : f.Is code len)
      (hb : body f { s with link := { s.link with cmdQueue := rest } } = t) :
      (.next (runCommand code ownReply (lengthIs len) body s) : Host.Outcome State Fault Refusal) = .next t :=
    next_runCommand h hf.1 (lengthIs_of_length hf.2) hb
  refine ⟨fun hf hr => run hf ?_, fun on hf hl hb => run hf ?_, fun hf hr => run hf ?_,
    fun on hf hb h1 h2 h3 => run hf ?_, fun hf hr => run hf (if_pos hr), fun hf h1 h2 h3 h4 => run hf ?_,
    fun hf hr => run hf (if_pos hr), fun r hf h1 h2 hr => run hf ?_, fun hf h1 h2 => run hf ?_, fun k hf hk hb => run hf ?_⟩
  · unfold storePolicyBody
    rcases hr with hr | hr
    · split
      · rfl
      · rw [if_pos hr]
        rfl
    · rw [readOnOff_none hr]
      rfl
  · have data : f.payload.drop 1 = be 2 (f.num 1 2) ++ be 2 (f.num 3 2) ++ onOff on := by
      rw [drop_eq_be_num (k := 2) (by simp [hf.2]), drop_eq_be_num (k := 2) (by simp [hf.2]),
        drop_eq_be_byte (by simp [hf.2]), List.drop_of_length_le (by rw [hf.2]), hb, onOff_eq_be]
      simp
    have read : readOnOff (f.byte 5) = some on := by rw [hb]; cases on <;> rfl
    rw [data, storePolicyBody, read]
    simp only []
    rw [if_neg (Nat.not_lt.mpr hl)]
    rw [setPolicy_eq]
    rfl
  · unfold streamControlBody
    rcases hr with hr | hr
    · rw [readOnOff_none hr]
      rfl
    · split
      · rfl
      · rw [if_pos hr]
        rfl
  · have data : f.payload.drop 1 = onOff on ++ be 2 (f.num 2 2) ++ be 2 (f.num 4 2) := by
      rw [drop_eq_be_byte (by simp [hf.2]), drop_eq_be_num (k := 2) (by simp [hf.2]),
        drop_eq_be_num (k := 2) (by simp [hf.2]), List.drop_of_length_le (by rw [hf.2]), hb, onOff_eq_be,
        List.append_nil, List.append_assoc]
    have read : readOnOff (f.byte 1) = some on := by rw [hb]; cases on <;> rfl
    rw [data, streamControlBody, read]
    simp only []
    rw [if_neg (by omega)]
    cases hs : s.store.sending <;> simp [State.streamData, hs, optional, State.reply, State.enqueue, State.answered, Command.code]
  · have data : f.payload.drop 1 = be 1 (f.byte 1) ++ be 1 (f.byte 2) := by
      rw [drop_eq_be_byte (by simp [hf.2]), drop_eq_be_byte (by simp [hf.2]),
        List.drop_of_length_le (by rw [hf.2])]
      simp
    rw [data, floorConfigBody, if_neg (by omega)]
    cases hc : s.floor.challenger <;>
      simp [Floor.challengerBytes, hc, optional, State.reply, State.enqueue, State.answered, Command.code]
  · have data : f.payload.drop 1 = be 2 (f.num 1 2) ++ be 2 (f.num 3 2) := by
      rw [drop_eq_be_num (k := 2) (by simp [hf.2]), drop_eq_be_num (k := 2) (by simp [hf.2]),
        List.drop_of_length_le (by rw [hf.2])]
      simp
    rw [data, trimConfigBody, if_neg (by omega), hr]
    rfl
  · have masking : readMasking (f.byte 3) = none := by
      unfold readMasking
      rw [if_neg (by omega), if_neg h2]
    rw [feedConfigBody, masking]
    rfl
  · have data : f.payload.drop 1 = be 2 (f.num 1 2) ++ be 1 (f.byte 3) := by
      rw [drop_eq_be_num (k := 2) (by simp [hf.2]), drop_eq_be_byte (by simp [hf.2]),
        List.drop_of_length_le (by rw [hf.2])]
      simp
    have masking : readMasking (f.byte 3) = some k := by
      cases k with
      | none => rw [hb]; rfl
      | some n => rw [hb]; exact if_pos (Nat.lt_succ_of_le (hk n rfl))
    rw [data, feedConfigBody, masking, hb]
    rfl

/-! ## Custody commands -/

/-- Settles O42. -/
theorem releaseRule : Obligations.ReleaseRule := by
  unfold Obligations.ReleaseRule
  intro s f rest k gone kept h hf hk hgone hkept
  have released : HeldSlot.releasedBy k = gone := by
    funext x
    rw [Bool.eq_iff_iff, hgone]
    simp [HeldSlot.releasedBy, HeldSlot.eligible]
  have deferred : HeldSlot.deferredBy k = kept := by
    funext x
    rw [Bool.eq_iff_iff, hkept]
    simp [HeldSlot.deferredBy, and_assoc]
  have after : HeldSlot.afterRelease k = fun x => if kept x = true then { x with releasePending := true } else x := by
    funext x
    simp only [HeldSlot.afterRelease, deferred]
  refine ⟨fun hl => ?_, fun hl n hn => ?_⟩ <;> refine next_runCommand h hf.1 (lengthIs_of_length hf.2) ?_ <;>
    simp only [releaseBody, ← hk]
  · rw [if_pos hl]
    rfl
  · rw [if_neg (Nat.not_lt.mpr hl)]
    simp only [State.releaseTo, setFree_eq, released, deferred, after, hn]
    rfl

/-- In custody a number stands once (R31). -/
theorem custody_nodup {s : State} (law : s.CustodyLaw) : (s.store.custody.map fun x => x.record.custody).Nodup := by
  obtain ⟨ordered, -⟩ := law
  rw [Store.records, List.map_append, List.map_append, List.append_assoc, List.pairwise_append, List.map_map] at ordered
  exact ordered.1.imp fun lt => Nat.ne_of_lt lt

theorem custody_eq_of_number {s : State} (law : s.CustodyLaw) {g h : HeldSlot} (hg : g ∈ s.store.custody)
    (hh : h ∈ s.store.custody) (e : g.record.custody = h.record.custody) : g = h :=
  List.inj_on_of_nodup_map (custody_nodup law) hg hh e

/-- Settles O43. -/
theorem readHeldRule : Obligations.ReadHeldRule := by
  unfold Obligations.ReadHeldRule
  refine ⟨fun s hq => ?_, fun s f rest k h hf hk => ⟨fun hn => ?_, fun x hx law hc => ?_⟩⟩
  · refine congrArg Host.Outcome.next (runCommand_waits fun f rest _ => .inr (.inr ?_))
    exact decide_eq_false (show ¬ s.link.replyQueue.length + 2 ≤ 8 by omega)
  all_goals
    refine next_runCommand (need := readHeldNeed) h hf.1 (lengthIs_of_length hf.2) ?_
    simp only [readHeldBody, ← hk, Store.held]
  · have none : s.store.custody.find? (fun g => g.record.custody == k) = none := by simpa using hn
    rw [none]
    rfl
  · obtain ⟨g, hg⟩ : ∃ g, s.store.custody.find? (fun g => g.record.custody == k) = some g := by
      rw [← Option.isSome_iff_exists, List.find?_isSome]
      exact ⟨x, hx, by simpa using hc⟩
    have num : g.record.custody = k := by simpa using List.find?_some hg
    obtain rfl : g = x := custody_eq_of_number law (List.mem_of_find?_eq_some hg) hx (num.trans hc.symm)
    rw [hg]
    rfl

end Sys2Proof.Machine
end

section
/-! SUPPORT. The commands of the markers, the converters, the close of a capture, the pattern pages and the proceeding
(R12, R17, R18, R66 to R68, R109, R138, R139). -/

namespace Sys2Proof.Machine

/-! ## Markers -/

/-- A predicate that gains one element of a list without repetitions counts one more. -/
theorem countP_gain {α : Type} [DecidableEq α] {l : List α} (nodup : l.Nodup) {i : α} (hi : i ∈ l) {p q : α → Bool}
    (hp : p i = false) (hq : q i = true) (same : ∀ j, j ≠ i → q j = p j) : l.countP q = 1 + l.countP p := by
  have perm := List.perm_cons_erase hi
  have rest : (l.erase i).countP q = (l.erase i).countP p :=
    List.countP_congr fun j hj => by rw [same j (nodup.mem_erase_iff.mp hj).1]
  rw [perm.countP_eq q, perm.countP_eq p, List.countP_cons_of_pos hq, List.countP_cons_of_neg (by simp [hp]), rest,
    Nat.add_comm]

/-- The FULL slots, counted. -/
theorem fullEntries_length (m : Markers) :
    m.fullEntries.length = (List.finRange 8).countP fun i => (m.slots.get i).isSome := by
  rw [Markers.fullEntries, List.length_filterMap_eq_countP]
  refine List.countP_congr fun i _ => ?_
  simp

theorem readMarkerKind_code (k : MarkerKind) : readMarkerKind k.code = some k := by cases k <;> rfl

theorem readMarkerKind_some {n : Nat} {k : MarkerKind} (h : readMarkerKind n = some k) : 1 ≤ n ∧ n ≤ 6 := by
  unfold readMarkerKind at h
  split at h
  case h_7 => cases h
  all_goals decide

theorem readMarkerChannel_some {n : Nat} {c : Option Chan} (h : readMarkerChannel n = some c) : n = 255 ∨ n < 24 := by
  unfold readMarkerChannel at h
  split at h
  · exact .inl ‹_›
  · by_cases lt : n < 24
    · exact .inr lt
    · rw [readChan_none (Nat.not_lt.mp lt)] at h
      cases h

theorem readMarkerChannel_code (c : Option Chan) : readMarkerChannel (c.elim 255 Fin.val) = some c := by
  cases c with
  | none => rfl
  | some c =>
    have ne : c.val ≠ 255 := by omega
    simp [readMarkerChannel, ne, readChan_val]

/-- What a PUT_MARKER that passes its range tests holds (R109). -/
theorem checkedMarker_some {f : Command} {x : Fin 8 × Marker} (h : f.checkedMarker = some x) :
    f.byte 1 ≤ 7 ∧ (1 ≤ f.byte 2 ∧ f.byte 2 ≤ 6) ∧ (f.byte 3 = 255 ∨ f.byte 3 < 24) ∧ f.byte 4 ≤ 48 ∧
      ∀ b ∈ f.payload.drop 5, textByte b = true := by
  unfold Command.checkedMarker at h
  split at h
  · next slot =>
    split at h
    · next kind ch hk hc =>
      split at h
      · next text =>
        exact ⟨Nat.lt_succ_iff.mp slot, readMarkerKind_some hk, readMarkerChannel_some hc, text.1,
          List.all_eq_true.mp text.2⟩
      · cases h
    · cases h
  · cases h

/-- The bytes of a PUT_MARKER pass the range tests (R109). -/
theorem checkedMarker_eq {f : Command} {i : Fin 8} {m : Marker} (len : m.text.length ≤ 48)
    (text : ∀ b ∈ m.text, 0x20 ≤ b.toNat ∧ b.toNat ≤ 0x7E)
    (h : f.payload = 0x40#8 :: (be 1 i.val ++ be 1 m.kind.code ++ chanOr255 m.channel ++ be 1 m.text.length ++ m.text)) :
    f.checkedMarker = some (i, m) := by
  have bytes : f.byte 1 = i.val ∧ f.byte 2 = m.kind.code ∧ f.byte 3 = m.channel.elim 255 Fin.val ∧
      f.byte 4 = m.text.length ∧ f.payload.drop 5 = m.text := by
    have kind : m.kind.code < 256 := by cases m.kind <;> decide
    have chan : m.channel.elim 255 Fin.val < 256 := by
      cases m.channel with
      | none => decide
      | some c => exact Nat.lt_trans c.isLt (by decide)
    refine ⟨?_, ?_, ?_, ?_, ?_⟩ <;> simp [Command.byte, h, be, chanOr255] <;> omega
  obtain ⟨slot, kind, chan, size, tail⟩ := bytes
  have all : m.text.all textByte = true :=
    List.all_eq_true.mpr fun b hb => by simpa [textByte] using text b hb
  unfold Command.checkedMarker
  rw [dif_pos (by rw [slot]; exact i.isLt), kind, chan, size, tail, readMarkerKind_code, readMarkerChannel_code]
  simp only [slot]
  rw [if_pos ⟨len, all⟩]

/-- Settles O44. -/
theorem putMarkerRule : Obligations.PutMarkerRule := by
  unfold Obligations.PutMarkerRule
  intro s f rest h hc hlen h5
  have fits : markerLength f = true := by
    simp only [markerLength, Bool.and_eq_true, decide_eq_true_eq]
    exact ⟨h5, hlen⟩
  have run {t : State} (hb : putMarkerBody f { s with link := { s.link with cmdQueue := rest } } = t) :
      exec .putMarker s = .next t := next_runCommand (need := ownReply) h hc fits hb
  refine ⟨fun bad => run ?_, fun i m len text payload => ?_⟩
  · have refused : f.checkedMarker = none := by
      rw [Option.eq_none_iff_forall_ne_some]
      intro x hx
      obtain ⟨slot, kind, chan, size, texts⟩ := checkedMarker_some hx
      rcases bad with h | h | h | h | h | ⟨b, hb, h⟩
      case inr.inr.inr.inr.inr =>
        have := texts b hb
        simp only [textByte, Bool.and_eq_true, decide_eq_true_eq] at this
        omega
      all_goals omega
    rw [putMarkerBody, refused]
    rfl
  · have checked := checkedMarker_eq len text payload
    refine ⟨fun hs => run ?_, fun hs full => run ?_, fun hs empty => run ?_⟩ <;>
      simp only [putMarkerBody, checked, State.capturing, hs]
    · rfl
    · rw [if_neg (by decide), if_pos (Option.isSome_iff_ne_none.mpr full)]
      rfl
    · have count := countP_gain (List.nodup_finRange 8) (List.mem_finRange i)
        (p := fun j => (s.marks.slots.get j).isSome) (q := fun j => ((s.marks.slots.set i (some m)).get j).isSome)
        (by simp [empty]) (by simp [vector_get_set]) (fun j hj => by simp [vector_get_set, hj])
      rw [if_neg (by decide), if_neg (by simp [empty]), fullEntries_length, ← List.countP_eq_length_filter, ← count]
      rfl

/-! ## Converters -/

theorem readConv_none {n : Nat} (h : 25 < n) : readConv n = none := dif_neg (Nat.not_lt.mpr h)

theorem readConv_val (v : Conv) : readConv v.val = some v := dif_pos v.isLt

/-- A converter is assigned to a channel exactly when the map is built and names it (R118). -/
theorem channelOf_isSome {s : State} {v : Conv} :
    (s.channelOf v).isSome = true ↔ s.trim.mapBuilt = true ∧ ∃ c, s.convOf c = v := by
  unfold State.channelOf
  by_cases built : s.trim.mapBuilt = true
  · rw [if_pos built, List.find?_isSome]
    simp [built, allChans]
  · rw [if_neg built]
    simp [built]

/-- The engine is unavailable while a trim runs and while a rotation is SHADOWING (R120). -/
theorem engineBusy_iff {s : State} :
    s.engineBusy = true ↔ s.trim.engine ≠ none ∨ s.trim.rotation = .shadowing := by
  simp [State.engineBusy, State.engineReserved, Option.isSome_iff_ne_none]

/-- Settles O45. -/
theorem trimCommandRules : Obligations.TrimCommandRules := by
  unfold Obligations.TrimCommandRules
  intro s f rest h
  have now {t : State} (hf : f.Is 0x62#8 2) (hb : trimNowBody f { s with link := { s.link with cmdQueue := rest } } = t) :
      exec .trimNow s = .next t := next_runCommand (need := ownReply) h hf.1 (lengthIs_of_length hf.2) hb
  have restore {t : State} (hf : f.Is 0x63#8 2)
      (hb : converterRestoreBody f { s with link := { s.link with cmdQueue := rest } } = t) :
      exec .converterRestore s = .next t := next_runCommand (need := ownReply) h hf.1 (lengthIs_of_length hf.2) hb
  refine ⟨fun hf hr => now hf ?_, fun hf hr => restore hf ?_, fun v started hv hst =>
    ⟨fun hf => ⟨fun hs => now hf ?_, fun hs hc => now hf ?_, fun hs hc hr => now hf ?_, fun hs hc hr => now hf ?_,
      fun hs hb => now hf ?_, fun hs he hr => now hf ?_⟩,
    fun hf => ⟨fun hb => restore hf ?_, fun hc hs => ⟨fun hb => restore hf ?_, fun he hr => restore hf ?_⟩⟩⟩⟩
  · rw [trimNowBody, readConv_none hr]
    rfl
  · rw [converterRestoreBody, readConv_none hr]
    rfl
  all_goals
    have conv : State.conv { s with link := { s.link with cmdQueue := rest } } v = s.conv v := rfl
    have chan : State.channelOf { s with link := { s.link with cmdQueue := rest } } v = s.channelOf v := rfl
    have busy : State.engineBusy { s with link := { s.link with cmdQueue := rest } } = s.engineBusy := rfl
    simp only [trimNowBody, converterRestoreBody, hv, readConv_val, conv, chan, busy, State.capturing]
  · rcases hs with hs | hs | hs | hs <;> rw [hs] <;> rfl
  · rw [hs, hc]
    rfl
  · rw [hs, hc]
    simp only []
    rw [if_neg (by decide), if_pos hr]
    rfl
  · have due : (if s.trim.rotation = .idle then RotationState.due else s.trim.rotation) = .due := by
      cases e : s.trim.rotation with
      | idle | due => rfl
      | shadowing => exact absurd e hr
    rw [hs, hc]
    simp only [State.nameTarget]
    rw [if_neg (by decide), if_neg hr, due]
    rfl
  · rw [hs]
    simp only []
    rw [if_pos (engineBusy_iff.mpr hb)]
    rfl
  · rw [hs, hst]
    simp only []
    rw [if_neg fun hb => (engineBusy_iff.mp hb).elim (absurd he) hr]
    rfl
  · rw [if_pos (hb.imp channelOf_isSome.mpr id)]
    rfl
  all_goals
    have free : ¬ ((s.channelOf v).isSome = true ∨ (s.conv v).state ≠ .faulted) := by
      rintro (hb | hb)
      · obtain ⟨built, c, hv⟩ := channelOf_isSome.mp hb
        exact hc.elim (fun h => absurd (h ▸ built) (by decide)) (fun h => h c hv)
      · exact hb hs
    rw [if_neg free]
  · rw [if_pos (engineBusy_iff.mpr hb)]
    rfl
  · rw [hst, if_neg fun hb => (engineBusy_iff.mp hb).elim (absurd he) hr]
    rfl

end Sys2Proof.Machine
end

section
/-! SUPPORT. The commands whose answers supersede deferred ones: the close of a capture, the pattern pages and routes, and the
proceeding in force (R12, R17, R18, R66 to R68). -/

namespace Sys2Proof.Machine

variable {s : State} {f : Command} {rest : List Command} {option : Bool}

/-- The answers of a command that supersedes deferred ones, once its head has left the queue. -/
theorem State.Executes.supersede_popped {n : Nat} (h : s.Executes f rest n) (pick : Deferred → Bool)
    (data : Deferred → List Byte) :
    State.supersede { s with link := { s.link with cmdQueue := rest } } pick data = { s with link := { s.link with
      cmdQueue := rest
      replyQueue := s.link.replyQueue
        ++ (s.link.deferred.filter pick).map fun e => .reply (e.reply .superseded (data e))
      deferred := s.link.deferred.filter fun e => !(s.link.deferred.filter pick).contains e } } :=
  congrArg (fun t : State => { t with link := { t.link with cmdQueue := rest } }) (h.supersede_eq pick data)

theorem capturing_iff : s.capturing = true ↔ s.cap.state = .capturing := by simp [State.capturing]

theorem capturing_false_iff : s.capturing = false ↔ s.cap.state = .standby := by
  rw [← Bool.not_eq_true, capturing_iff]
  cases s.cap.state <;> decide

/-- What is done to every channel leaves the link alone. -/
theorem mapChans_withLink (s : State) (k : Link) (g : Chan → Channel → Channel) :
    State.mapChans { s with link := k } g = { s.mapChans g with link := k } := by
  simp only [State.mapChans, State.chan]

/-! ## The close of a capture -/

/-- Settles O36. -/
theorem closeCaptureRule : Obligations.CloseCaptureRule := by
  unfold Obligations.CloseCaptureRule
  intro s f rest old hold h hf
  have closes : old = s.link.deferred.filter Deferred.isClose := by
    rw [hold]
    exact List.filter_congr fun e _ => (isClose_eq e).symm
  have need : closeNeed f s = 1 + old.length := by rw [closeNeed, h.waiting, closes]
  have run {t : State} (hb : closeCaptureBody f { s with link := { s.link with cmdQueue := rest } } = t) :
      exec .closeCapture s = .next t :=
    next_runCommand (need := closeNeed) (need ▸ h) hf.1 (lengthIs_of_length hf.2) hb
  refine ⟨fun hr => run ?_, fun hr hs => run ?_, fun option payload hs => run ?_⟩
  · rw [closeCaptureBody, readOnOff_none hr]
    rfl
  · have read : ∃ b, readOnOff (f.byte 1) = some b := by
      rcases Nat.le_one_iff_eq_zero_or_eq_one.mp hr with e | e <;> rw [e] <;> exact ⟨_, rfl⟩
    obtain ⟨b, read⟩ := read
    simp only [closeCaptureBody, read, State.capturing, hs]
    rfl
  · have read : readOnOff (f.byte 1) = some option := by
      rw [Command.byte, payload]
      cases option <;> rfl
    have stay : (s.link.deferred.filter fun e => !(s.link.deferred.filter Deferred.isClose).contains e) =
        s.link.deferred.filter fun e => e.request ≠ .close :=
      List.filter_congr fun e he => by simp [isClose_eq, he]
    have capturing : State.capturing { s with link := { s.link with cmdQueue := rest } } = true :=
      capturing_iff.mpr hs
    simp only [closeCaptureBody, read, capturing]
    rw [if_neg (by decide), h.supersede_popped, answerTaken_eq_taken (rest := rest) rfl, stay, closes]
    unfold State.taken
    rfl

/-! ## Pattern pages and routes -/

theorem readRoute_none {n : Nat} (h : 3 < n) (hm : n ≠ 255) : readRoute n = none := by
  rw [readRoute, dif_neg (Nat.not_lt.mpr h), if_neg hm]

theorem readRoute_code (r : Route) : readRoute (match r with | .page p => p.val | .mic => 255) = some r := by
  cases r with
  | page p => exact dif_pos p.isLt
  | mic => rfl

theorem checkedRoute_none (h : f.num 1 3 = 0 ∨ (3 < f.byte 4 ∧ f.byte 4 ≠ 255) ∨ 1 < f.byte 5) :
    f.checkedRoute = none := by
  unfold Command.checkedRoute
  split
  · rfl
  · next sel =>
    rcases h with h | ⟨h, hm⟩ | h
    · exact absurd h sel
    · rw [readRoute_none h hm]
    · rw [readOnOff_none h]
      cases readRoute (f.byte 4) <;> rfl

/-- A ROUTE_PATTERN that passes its own tests (R18). -/
structure RoutesTo (f : Command) (r : Route) (option : Bool) : Prop where
  fits : f.Is 0x15#8 6
  checked : f.checkedRoute = some (r, option)

theorem routesTo {r : Route} (fits : f.Is 0x15#8 6) (sel : f.num 1 3 ≠ 0)
    (target : f.byte 4 = match r with | .page p => p.val | .mic => 255)
    (opt : f.byte 5 = if option = true then 1 else 0) : RoutesTo f r option := by
  refine ⟨fits, ?_⟩
  have read : readRoute (f.byte 4) = some r := by
    rw [target]
    cases r with
    | page p => exact readRoute_code (.page p)
    | mic => rfl
  rw [Command.checkedRoute, if_neg sel, read, opt, readOnOff_bit]

/-- Only the channels and the number of the next request change. -/
theorem placeRoutes_eq (s : State) (f : Command) (r : Route) : s.placeRoutes f r =
    { s with chans := (s.placeRoutes f r).chans, cap := { s.cap with nextRequest := s.cap.nextRequest + 1 } } := by
  obtain ⟨ch, placed⟩ := mapChans_changes s fun c ch =>
    if f.selects c then { ch with pendingRoute := some ⟨r, s.cap.nextRequest⟩ } else ch
  simp only [State.placeRoutes, placed]

@[simp] theorem placeRoutes_link (s : State) (f : Command) (r : Route) : (s.placeRoutes f r).link = s.link := by
  rw [placeRoutes_eq]

theorem chan_placeRoutes (s : State) (f : Command) (r : Route) (c : Chan) : (s.placeRoutes f r).chan c =
    if f.selects c = true then { s.chan c with pendingRoute := some ⟨r, s.cap.nextRequest⟩ } else s.chan c := by
  rw [State.chan_congr (s := s.mapChans fun c ch =>
    if f.selects c then { ch with pendingRoute := some ⟨r, s.cap.nextRequest⟩ } else ch) (by simp only [State.placeRoutes]) c,
    State.chan_mapChans]

theorem routeGone_withLink (s : State) (k : Link) : State.routeGone { s with link := k } = s.routeGone := rfl

theorem placeRoutes_popped (s : State) (f : Command) (r : Route) (rest : List Command) :
    State.placeRoutes { s with link := { s.link with cmdQueue := rest } } f r =
      { s.placeRoutes f r with link := { (s.placeRoutes f r).link with cmdQueue := rest } } := by
  rw [placeRoutes_link]
  simp only [State.placeRoutes, mapChans_withLink]

/-- A request that may not be placed needs one entry of the reply queue. -/
theorem routeNeed_one {r : Route} (h : RoutesTo f r option) (hs : s.capturing = false ∨ s.recordState = true) :
    routeNeed f s = 1 := by
  simp only [routeNeed, lengthIs_of_length h.fits.2, h.checked]
  rcases hs with hs | hs <;> simp [hs]

/-- The room of a request that may be placed (R168). -/
theorem routeNeed_placed {r : Route} (h : RoutesTo f r option) (hc : s.capturing = true) (hs : s.recordState = false) :
    routeNeed f s = 1 + (s.link.deferred.filter fun e => e.waiting && (s.placeRoutes f r).routeGone e).length := by
  simp [routeNeed, lengthIs_of_length h.fits.2, h.checked, hc, hs]

/-- What a LOAD_PATTERN carries at each place (R17). -/
theorem get_page (h : f.payload.length = 642) (j : Fin 320) :
    f.page.get j = BitVec.ofNat 16 (f.byte (2 + 2 * j.val) * 256 + f.byte (3 + 2 * j.val)) := by
  have next : 2 + 2 * j.val + 1 = 3 + 2 * j.val := by omega
  rw [Command.page, vector_get_ofFn, Command.sample, Command.num_two (by rw [h]; omega), next]

theorem loadPattern_taken (s : State) {p : Fin 4} (hp : f.byte 1 = p.val) : loadPatternBody f s =
    State.reply { s with cap := { s.cap with pages := s.cap.pages.set p.val f.page p.isLt } } f .ok := by
  unfold loadPatternBody
  simp only [hp, p.isLt, dite_true]

/-- Settles O38. -/
theorem patternCommandRules : Obligations.PatternCommandRules := by
  unfold Obligations.PatternCommandRules
  refine ⟨fun s f rest h hf => ?_, fun s f rest hf => ⟨fun h hr => ?_, fun r option sel target opt => ?_⟩⟩
  · have run {t : State} (hb : loadPatternBody f { s with link := { s.link with cmdQueue := rest } } = t) :
        exec .loadPattern s = .next t := next_runCommand (need := ownReply) h hf.1 (lengthIs_of_length hf.2) hb
    refine ⟨fun hr => run (dif_neg (Nat.not_lt.mpr hr)), fun p hp =>
      ⟨s.cap.pages.set p.val f.page p.isLt, fun q hq => ?_, fun j => ?_, run ?_⟩⟩
    · rw [vector_get_set, if_neg hq]
    · rw [vector_get_set, if_pos rfl, get_page hf.2]
    · rw [loadPattern_taken _ hp]
      rfl
  · have need : routeNeed f s = 1 := by simp [routeNeed, checkedRoute_none hr]
    refine next_runCommand (need := routeNeed) (need ▸ h) hf.1 (lengthIs_of_length hf.2) ?_
    rw [routePatternBody, checkedRoute_none hr]
    rfl
  · have routes : RoutesTo f r option := routesTo hf sel target opt
    have run {n : Nat} {t : State} (need : routeNeed f s = n) (h : s.Executes f rest n)
        (hb : routePatternBody f { s with link := { s.link with cmdQueue := rest } } = t) :
        exec .routePattern s = .next t :=
      next_runCommand (need := routeNeed) (need ▸ h) hf.1 (lengthIs_of_length hf.2) hb
    have running : State.capturing { s with link := { s.link with cmdQueue := rest } } = s.capturing := rfl
    have record : State.recordState { s with link := { s.link with cmdQueue := rest } } = s.recordState := rfl
    refine ⟨fun h hs => ?_, fun h hs hrec => ?_, fun hs hrec => ?_⟩
    · obtain ⟨v, hv⟩ := mapChans_changes s fun c ch => if f.selects c then { ch with route := r } else ch
      refine ⟨v, fun c => ?_, run (routeNeed_one routes (.inl (capturing_false_iff.mpr hs))) h ?_⟩
      · have same := State.chan_mapChans s c fun c ch => if f.selects c then { ch with route := r } else ch
        rw [hv] at same
        exact same
      · simp only [routePatternBody, routes.checked, running, capturing_false_iff.mpr hs, mapChans_withLink, hv]
        rfl
    · refine run (routeNeed_one routes (.inr hrec)) h ?_
      simp only [routePatternBody, routes.checked, running, capturing_iff.mpr hs, record, hrec]
      rfl
    · have capturing := capturing_iff.mpr hs
      refine ⟨(s.placeRoutes f r).chans, chan_placeRoutes s f r, fun old hold => ?_⟩
      have gone : old = s.link.deferred.filter (s.placeRoutes f r).routeGone := by
        rw [hold]
        refine List.filter_congr fun e _ => ?_
        obtain ⟨tag, code, request, answer⟩ := e
        cases request with
        | route n => exact (not_routeStands _ n).symm
        | settings | close | proceeding => rfl
      have need {n : Nat} (h : s.Executes f rest n) : routeNeed f s = 1 + old.length := by
        rw [routeNeed_placed routes capturing hrec, h.waiting, gone]
      refine ⟨fun hq full => congrArg Host.Outcome.next (runCommand_of_not_executes hq fun runs => ?_),
        fun h => run (need h) h ?_⟩
      · obtain ⟨-, -, -, room⟩ := id runs
        rw [need runs] at room
        omega
      · have placed : (s.placeRoutes f r).Executes f rest (1 + old.length) := by
          simpa only [State.Executes, placeRoutes_link] using h
        have popped := placed.supersede_popped (s.placeRoutes f r).routeGone fun _ => []
        rw [placeRoutes_link, ← gone] at popped
        simp only [routePatternBody, routes.checked, running, capturing, record, hrec]
        rw [if_neg (by decide), if_neg (by decide), placeRoutes_popped, placeRoutes_link]
        rw [routeGone_withLink, popped, answerTaken_eq_taken (rest := rest) rfl, placeRoutes_eq]
        generalize (s.placeRoutes f r).chans = v
        unfold State.taken
        rfl

/-! ## The proceeding -/

/-- A request for the state in force discards the pending proceeding (R68). -/
theorem proceedingNeed_held {p : Proceeding} (fits : f.Is 0x20#8 3) (checked : f.checkedProceeding = some (p, option))
    (hc : s.capturing = true) (hp : p = s.cap.proceeding) : proceedingNeed f s =
    1 + (s.link.deferred.filter fun e => e.waiting && e.isProceeding).length := by
  simp [proceedingNeed, lengthIs_of_length fits.2, checked, hc, hp]

/-- A SET_PROCEEDING that is refused needs one entry of the reply queue. -/
theorem proceedingNeed_refused {p : Proceeding} (checked : f.checkedProceeding = some (p, option))
    (h : s.capturing = false ∨ (p ≠ s.cap.proceeding ∧ transitionAllowed s.cap.proceeding p = false)) :
    proceedingNeed f s = 1 := by
  rcases h with h | ⟨h1, h2⟩
  · simp [proceedingNeed, checked, h]
  · simp [proceedingNeed, checked, h1, h2]

theorem readRequested_none {n : Nat} (h : n < 1 ∨ 4 < n) : readRequested n = none := by
  match n, h with
  | 0, _ => rfl
  | n + 5, _ => rfl

theorem checkedProceeding_none (h : f.byte 1 < 1 ∨ 4 < f.byte 1 ∨ 1 < f.byte 2) : f.checkedProceeding = none := by
  unfold Command.checkedProceeding
  rcases h with h | h | h
  · rw [readRequested_none (.inl h)]
  · rw [readRequested_none (.inr h)]
  · rw [readOnOff_none h]
    cases readRequested (f.byte 1) <;> rfl

/-- A SET_PROCEEDING whose values are in range passes its range tests. -/
theorem checkedProceeding_some {p : Proceeding} (requestable : 1 ≤ p.code) (state : f.byte 1 = p.code)
    (opt : f.byte 2 ≤ 1) : ∃ option, f.checkedProceeding = some (p, option) := by
  have bit : ∃ b : Bool, f.byte 2 = if b = true then 1 else 0 := by
    rcases Nat.le_one_iff_eq_zero_or_eq_one.mp opt with e | e
    · exact ⟨false, e⟩
    · exact ⟨true, e⟩
  obtain ⟨b, hb⟩ := bit
  exact ⟨b, checkedProceeding_eq requestable state hb⟩

/-- The data of an answer once nothing is pending (4.2). -/
theorem cancelProceeding_data {p : Proceeding} (hp : p = s.cap.proceeding) (q : Proceeding) :
    s.cancelProceeding.proceedingData q = be 1 q.code ++ be 1 p.code ++ [0x00#8] ++ be 4 s.cap.period := by
  rw [hp]
  rfl

/-- Settles O39. -/
theorem setProceedingRefusedOrHeld : Obligations.SetProceedingRefusedOrHeld := by
  unfold Obligations.SetProceedingRefusedOrHeld
  intro s f rest hf
  have run {n : Nat} {t : State} (need : proceedingNeed f s = n) (h : s.Executes f rest n)
      (hb : setProceedingBody f { s with link := { s.link with cmdQueue := rest } } = t) :
      exec .setProceeding s = .next t :=
    next_runCommand (need := proceedingNeed) (need ▸ h) hf.1 (lengthIs_of_length hf.2) hb
  have running : State.capturing { s with link := { s.link with cmdQueue := rest } } = s.capturing := rfl
  refine ⟨fun h hr => ?_, fun h h1 h4 ho hs => ?_, fun p h h1 hb ho hs hp ht => ?_,
    fun p old data h1 hb ho hs hp hold hdata => ?_⟩
  · refine run (by simp [proceedingNeed, checkedProceeding_none hr]) h ?_
    rw [setProceedingBody, checkedProceeding_none hr]
    rfl
  · obtain ⟨p, requestable, state⟩ : ∃ p : Proceeding, 1 ≤ p.code ∧ f.byte 1 = p.code := by
      generalize f.byte 1 = n at h1 h4
      match n, h1, h4 with
      | 1, _, _ => exact ⟨.recess, by decide, rfl⟩
      | 2, _, _ => exact ⟨.session, by decide, rfl⟩
      | 3, _, _ => exact ⟨.sidebar, by decide, rfl⟩
      | 4, _, _ => exact ⟨.inCamera, by decide, rfl⟩
    obtain ⟨option, checked⟩ := checkedProceeding_some requestable state ho
    refine run (proceedingNeed_refused checked (.inl (capturing_false_iff.mpr hs))) h ?_
    simp only [setProceedingBody, checked, running, capturing_false_iff.mpr hs]
    rfl
  · obtain ⟨option, checked⟩ := checkedProceeding_some h1 hb ho
    refine run (proceedingNeed_refused checked (.inr ⟨hp, ht⟩)) h ?_
    simp only [setProceedingBody, checked, running, capturing_iff.mpr hs, if_neg hp, ht]
    rfl
  · obtain ⟨option, checked⟩ := checkedProceeding_some h1 hb ho
    have held : old = s.link.deferred.filter Deferred.isProceeding := by
      rw [hold]
      exact List.filter_congr fun e _ => by cases hr : e.request <;> simp [Deferred.isProceeding, hr]
    have need {n : Nat} (h : s.Executes f rest n) : proceedingNeed f s = 1 + old.length := by
      rw [proceedingNeed_held hf checked (capturing_iff.mpr hs) hp, h.waiting, held]
    refine ⟨fun hq full => congrArg Host.Outcome.next (runCommand_of_not_executes hq fun runs => ?_),
      fun h => run (need h) h ?_⟩
    · obtain ⟨-, -, -, room⟩ := id runs
      rw [need runs] at room
      omega
    · have superseded : s.cancelProceeding.supersededData = fun e =>
          match e.request with | .proceeding q => data q | _ => [] := by
        funext ⟨tag, code, request, answer⟩
        cases request with
        | proceeding q => exact (cancelProceeding_data hp q).trans (hdata q).symm
        | settings | route | close => rfl
      have popped := State.Executes.supersede_popped (s := s.cancelProceeding) h Deferred.isProceeding
        s.cancelProceeding.supersededData
      simp only [setProceedingBody, checked, running, capturing_iff.mpr hs, if_pos hp]
      refine Eq.trans (congrArg (fun t : State => t.reply f .ok (t.proceedingData p)) popped) ?_
      rw [reply_eq_answered (rest := rest) rfl, superseded, hdata, ← cancelProceeding_data hp, held]
      rfl

end Sys2Proof.Machine
end

section
/-! SUPPORT. SET_CHANNEL: the check of a request as a whole, and the settings it writes or makes pending (R10, R15, R93). -/

namespace Sys2Proof.Machine

variable {s : State} {f : Command}

/-! ## The check -/

theorem readClass_none {n : Nat} (h : 2 < n) : readClass n = none := by
  match n, h with
  | n + 3, _ => rfl

theorem readOnOff_some {n : Nat} {b : Bool} (h : readOnOff n = some b) : n ≤ 1 :=
  Nat.le_of_not_lt fun lt => by rw [readOnOff_none lt] at h; cases h

theorem readClass_some {n : Nat} {k : Class} (h : readClass n = some k) : n ≤ 2 :=
  Nat.le_of_not_lt fun lt => by rw [readClass_none lt] at h; cases h

/-- The open and the close code that would result for a channel (R15). -/
theorem resulting_codes (ch : Channel) (sel : PendingSettings) :
    (ch.resulting sel).openCode = sel.openCode.getD (ch.pendingSettings.openCode.getD ch.settings.openCode) ∧
      (ch.resulting sel).closeCode = sel.closeCode.getD (ch.pendingSettings.closeCode.getD ch.settings.closeCode) := by
  refine ⟨?_, ?_⟩
  · cases h : sel.openCode <;> simp [Channel.resulting, Settings.over, PendingSettings.merge, h]
  · cases h : sel.closeCode <;> simp [Channel.resulting, Settings.over, PendingSettings.merge, h]

/-- A selected field passes its own range test. -/
structure SelectedInRange (f : Command) : Prop where
  enable : f.fieldSelected 0 = true → f.byte 6 ≤ 1
  cls : f.fieldSelected 2 = true → f.byte 9 ≤ 2
  bench : f.fieldSelected 3 = true → f.byte 10 ≤ 1
  floorEligible : f.fieldSelected 4 = true → f.byte 11 ≤ 1
  feedInclude : f.fieldSelected 5 = true → f.byte 12 ≤ 1
  openCode : f.fieldSelected 6 = true → f.byte 13 ≤ 61
  closeCode : f.fieldSelected 7 = true → f.byte 14 ≤ 61
  hang : f.fieldSelected 8 = true → f.byte 15 ≤ 250

theorem le_of_read {α : Type} {r : Option α} {n k : Nat} {b : Bool} (h : (b && r.isNone) = false)
    (read : ∀ x, r = some x → n ≤ k) (sel : b = true) : n ≤ k := by
  cases hr : r with
  | none => rw [sel, hr] at h; cases h
  | some x => exact read x hr

theorem le_of_range {n k : Nat} {b : Bool} (h : (b && decide (k < n)) = false) (sel : b = true) : n ≤ k := by
  rw [sel, Bool.true_and, decide_eq_false_iff_not] at h
  exact Nat.le_of_not_lt h

theorem selectedSettings_some {sel : PendingSettings} (h : f.selectedSettings = some sel) :
    SelectedInRange f ∧ sel.openCode = f.field 6 (f.byte 13) ∧ sel.closeCode = f.field 7 (f.byte 14) := by
  unfold Command.selectedSettings at h
  simp only [] at h
  split at h
  · cases h
  · next pass =>
    simp only [Bool.or_eq_true, not_or, Bool.not_eq_true] at pass
    obtain ⟨⟨⟨⟨⟨⟨⟨p0, p2⟩, p3⟩, p4⟩, p5⟩, p6⟩, p7⟩, p8⟩ := pass
    cases h
    exact ⟨⟨le_of_read p0 fun _ => readOnOff_some, le_of_read p2 fun _ => readClass_some,
      le_of_read p3 fun _ => readOnOff_some, le_of_read p4 fun _ => readOnOff_some,
      le_of_read p5 fun _ => readOnOff_some, le_of_range p6, le_of_range p7, le_of_range p8⟩, rfl, rfl⟩

theorem field_getD (f : Command) (i v d : Nat) :
    (f.field i v).getD d = if (f.num 4 2).testBit i = true then v else d := by
  unfold Command.field Command.fieldSelected
  split <;> rfl

/-- A request that passes has sound masks, a sound option, its values in range, and no close code above its open code. -/
theorem checkedSettings_some {x : PendingSettings × Bool} (h : f.checkedSettings s = some x) :
    (f.num 1 3 ≠ 0 ∧ f.num 4 2 ≠ 0 ∧ f.num 4 2 < 512) ∧ f.byte 16 ≤ 1 ∧ SelectedInRange f ∧
      ∀ c : Chan, (f.num 1 3).testBit c.val = true →
        (if (f.num 4 2).testBit 7 = true then f.byte 14 else
            (s.chan c).pendingSettings.closeCode.getD (s.chan c).settings.closeCode) ≤
          (if (f.num 4 2).testBit 6 = true then f.byte 13 else
            (s.chan c).pendingSettings.openCode.getD (s.chan c).settings.openCode) := by
  unfold Command.checkedSettings at h
  split at h
  · cases h
  · next masks =>
    simp only [not_or, Nat.not_le] at masks
    split at h
    · next option sel ho hsel =>
      split at h
      · next codes =>
        obtain ⟨range, openCode, closeCode⟩ := selectedSettings_some hsel
        refine ⟨masks, readOnOff_some ho, range, fun c hc => ?_⟩
        have ordered := List.all_eq_true.mp codes c (List.mem_finRange c)
        obtain ⟨opens, closes⟩ := resulting_codes (s.chan c) sel
        rw [opens, closes, openCode, closeCode, field_getD, field_getD] at ordered
        simpa [Command.selects, hc] using ordered
      · cases h
    · cases h

/-! ## A request that passes -/

/-- The mask, bit by bit (R182). -/
theorem mask_eq_bits (p : PendingSettings) : p.mask =
    Nat.bit p.enable.isSome (Nat.bit p.gain.isSome (Nat.bit p.cls.isSome (Nat.bit p.bench.isSome
      (Nat.bit p.floorEligible.isSome (Nat.bit p.feedInclude.isSome (Nat.bit p.openCode.isSome
        (Nat.bit p.closeCode.isSome (Nat.bit p.hang.isSome 0)))))))) := by
  simp only [PendingSettings.mask, Nat.bit_val]
  ring

theorem mask_lt (p : PendingSettings) : p.mask < 512 := by
  have le (b : Bool) : b.toNat ≤ 1 := b.toNat_le
  have := le p.enable.isSome; have := le p.gain.isSome; have := le p.cls.isSome
  have := le p.bench.isSome; have := le p.floorEligible.isSome; have := le p.feedInclude.isSome
  have := le p.openCode.isSome; have := le p.closeCode.isSome; have := le p.hang.isSome
  rw [PendingSettings.mask]
  omega

/-- A field selected with the value it holds. -/
theorem selected_eq {α : Type} {o r : Option α} (h : ∀ x ∈ o, r = some x) :
    (o.isSome && r.isNone) = false ∧ (if o.isSome = true then r else none) = o := by
  cases o with
  | none => exact ⟨rfl, rfl⟩
  | some x => rw [h x rfl]; exact ⟨rfl, rfl⟩

theorem selected_range {o : Option Nat} {v k : Nat} (h : ∀ x ∈ o, x ≤ k ∧ v = x) :
    (o.isSome && decide (k < v)) = false ∧ (if o.isSome = true then some v else none) = o := by
  cases o with
  | none => exact ⟨rfl, rfl⟩
  | some x =>
    obtain ⟨le, rfl⟩ := h x rfl
    exact ⟨by simpa using le, rfl⟩

/-- The selected fields of a request are those its mask and its values spell. -/
theorem selectedSettings_eq {sel : PendingSettings} (mask : f.num 4 2 = sel.mask)
    (enable : ∀ x ∈ sel.enable, readOnOff (f.byte 6) = some x) (gain : ∀ x ∈ sel.gain, some (f.num 7 2) = some x)
    (cls : ∀ x ∈ sel.cls, readClass (f.byte 9) = some x) (bench : ∀ x ∈ sel.bench, readOnOff (f.byte 10) = some x)
    (floorEligible : ∀ x ∈ sel.floorEligible, readOnOff (f.byte 11) = some x)
    (feedInclude : ∀ x ∈ sel.feedInclude, readOnOff (f.byte 12) = some x)
    (openCode : ∀ x ∈ sel.openCode, x ≤ 61 ∧ f.byte 13 = x) (closeCode : ∀ x ∈ sel.closeCode, x ≤ 61 ∧ f.byte 14 = x)
    (hang : ∀ x ∈ sel.hang, x ≤ 250 ∧ f.byte 15 = x) : f.selectedSettings = some sel := by
  have bit (i : Nat) : f.fieldSelected i = sel.mask.testBit i := by rw [Command.fieldSelected, mask]
  have selected : f.fieldSelected 0 = sel.enable.isSome ∧ f.fieldSelected 1 = sel.gain.isSome ∧
      f.fieldSelected 2 = sel.cls.isSome ∧ f.fieldSelected 3 = sel.bench.isSome ∧
      f.fieldSelected 4 = sel.floorEligible.isSome ∧ f.fieldSelected 5 = sel.feedInclude.isSome ∧
      f.fieldSelected 6 = sel.openCode.isSome ∧ f.fieldSelected 7 = sel.closeCode.isSome ∧
      f.fieldSelected 8 = sel.hang.isSome := by
    simp only [bit, mask_eq_bits, Nat.testBit_bit_succ, Nat.testBit_bit_zero, and_self]
  obtain ⟨sel0, sel1, sel2, sel3, sel4, sel5, sel6, sel7, sel8⟩ := selected
  obtain ⟨t0, e0⟩ := selected_eq enable
  obtain ⟨-, e1⟩ := selected_eq gain
  obtain ⟨t2, e2⟩ := selected_eq cls
  obtain ⟨t3, e3⟩ := selected_eq bench
  obtain ⟨t4, e4⟩ := selected_eq floorEligible
  obtain ⟨t5, e5⟩ := selected_eq feedInclude
  obtain ⟨t6, e6⟩ := selected_range openCode
  obtain ⟨t7, e7⟩ := selected_range closeCode
  obtain ⟨t8, e8⟩ := selected_range hang
  simp only [Command.selectedSettings, Command.field, sel0, sel1, sel2, sel3, sel4, sel5, sel6, sel7, sel8,
    t0, t2, t3, t4, t5, t6, t7, t8, e0, e1, e2, e3, e4, e5, e6, e7, e8]
  rfl

/-- The number some bytes of a payload hold, at the place where they stand. -/
theorem num_be {l tail : List Byte} {i k n : Nat} (h : f.payload = l ++ (be k n ++ tail)) (hl : l.length = i)
    (hn : n < 256 ^ k) : f.num i k = n := by
  rw [Command.num, h, List.drop_left' hl, List.take_left' (length_be k n), ofBytes_be hn]

theorem readOnOff_byte {b : Byte} {x : Bool} (h : b = if x = true then 0x01#8 else 0x00#8) :
    readOnOff b.toNat = some x := by
  rw [h]
  cases x <;> rfl

/-- A request that passes: its channel set, its fields and its option (R15). -/
theorem checkedSettings_eq {m : Nat} {sel : PendingSettings} {option : Bool} (sets : f.num 1 3 = m) (hm : 0 < m)
    (mask : f.num 4 2 = sel.mask) (some_field : sel ≠ PendingSettings.empty) (opt : readOnOff (f.byte 16) = some option)
    (fields : f.selectedSettings = some sel)
    (codes : ∀ c : Chan, m.testBit c.val = true →
      ((s.chan c).resulting sel).closeCode ≤ ((s.chan c).resulting sel).openCode) :
    f.checkedSettings s = some (sel, option) := by
  have all : (allChans.all fun c => !f.selects c
      || decide (((s.chan c).resulting sel).closeCode ≤ ((s.chan c).resulting sel).openCode)) = true := by
    rw [List.all_eq_true]
    intro c _
    cases hc : f.selects c with
    | false => rfl
    | true => simpa using codes c (by rw [← sets]; exact hc)
  have masks : ¬ (m = 0 ∨ sel.mask = 0 ∨ 512 ≤ sel.mask) := by
    rintro (h | h | h)
    · exact absurd h (Nat.pos_iff_ne_zero.mp hm)
    · exact some_field ((mask_eq_zero_iff sel).mp h)
    · exact absurd (mask_lt sel) (Nat.not_lt.mpr h)
  simp only [Command.checkedSettings, sets, mask, opt, fields]
  rw [if_neg masks, if_pos all]

/-- A write at once in STANDBY: a channel disabled becomes QUIET (R15, R93). -/
theorem writeSettings_eq (sel : PendingSettings) (ch : Channel) : ch.writeSettings sel =
    if (ch.settings.over sel).enable = true then { ch with settings := ch.settings.over sel }
    else { ch with settings := ch.settings.over sel, activity := .quiet, hangCounter := 0 } := by
  simp only [Channel.writeSettings]
  split <;> rfl

theorem checkedSettings_withLink (f : Command) (s : State) (k : Link) :
    f.checkedSettings { s with link := k } = f.checkedSettings s := rfl

/-- Settles O37. -/
theorem setChannelRule : Obligations.SetChannelRule := by
  unfold Obligations.SetChannelRule
  refine ⟨fun s f rest h hf bad => ?_, fun s f rest m sel option enable g0 g1 cls bench floorEligible feedInclude openCode
    closeCode hang h payload hm hlt hsel henable hgain hcls hbench hfloor hfeed hopen hclose hhang hcodes => ?_⟩
  · have refused : f.checkedSettings s = none := by
      rw [Option.eq_none_iff_forall_ne_some]
      intro x hx
      obtain ⟨⟨set, fields, nine⟩, opt, range, codes⟩ := checkedSettings_some hx
      rcases bad with h | h | h | h | ⟨b, h⟩ | ⟨b, h⟩ | ⟨b, h⟩ | ⟨b, h⟩ | ⟨b, h⟩ | ⟨b, h⟩ | ⟨b, h⟩ | ⟨b, h⟩ | ⟨c, b, h⟩
      · exact set h
      · exact fields h
      · exact absurd nine (Nat.not_lt.mpr h)
      · exact absurd opt (Nat.not_le.mpr h)
      · exact absurd (range.enable b) (Nat.not_le.mpr h)
      · exact absurd (range.cls b) (Nat.not_le.mpr h)
      · exact absurd (range.bench b) (Nat.not_le.mpr h)
      · exact absurd (range.floorEligible b) (Nat.not_le.mpr h)
      · exact absurd (range.feedInclude b) (Nat.not_le.mpr h)
      · exact absurd (range.openCode b) (Nat.not_le.mpr h)
      · exact absurd (range.closeCode b) (Nat.not_le.mpr h)
      · exact absurd (range.hang b) (Nat.not_le.mpr h)
      · exact absurd (codes c b) (Nat.not_le.mpr h)
    refine next_runCommand (need := ownReply) h hf.1 (lengthIs_of_length hf.2) ?_
    rw [setChannelBody, checkedSettings_withLink, refused]
    rfl
  · have sets : f.num 1 3 = m := num_be (l := [0x12#8]) payload rfl hlt
    have mask : f.num 4 2 = sel.mask := num_be (l := 0x12#8 :: be 3 m) payload rfl (Nat.lt_trans (mask_lt sel) (by decide))
    have len : f.payload.length = 17 := by rw [payload]; rfl
    have bytes : f.byte 6 = enable.toNat ∧ f.byte 9 = cls.toNat ∧ f.byte 10 = bench.toNat ∧
        f.byte 11 = floorEligible.toNat ∧ f.byte 12 = feedInclude.toNat ∧ f.byte 13 = openCode.toNat ∧
        f.byte 14 = closeCode.toNat ∧ f.byte 15 = hang.toNat ∧
        f.byte 16 = (if option = true then 0x01#8 else 0x00#8).toNat ∧ f.num 7 2 = ofBytes [g0, g1] := by
      simp only [Command.byte, Command.num, payload]
      exact ⟨rfl, rfl, rfl, rfl, rfl, rfl, rfl, rfl, rfl, rfl⟩
    obtain ⟨b6, b9, b10, b11, b12, b13, b14, b15, b16, b7⟩ := bytes
    have fields : f.selectedSettings = some sel := by
      refine selectedSettings_eq mask (fun x hx => ?_) (fun x hx => ?_) (fun x hx => ?_) (fun x hx => ?_) (fun x hx => ?_)
        (fun x hx => ?_) (fun x hx => ?_) (fun x hx => ?_) (fun x hx => ?_)
      · rw [b6, readOnOff_byte (henable x hx)]
      · rw [b7, (hgain x hx).2, ofBytes_be (hgain x hx).1]
      · rw [b9, hcls x hx]
        cases x <;> rfl
      · rw [b10, readOnOff_byte (hbench x hx)]
      · rw [b11, readOnOff_byte (hfloor x hx)]
      · rw [b12, readOnOff_byte (hfeed x hx)]
      · rw [b13]
        exact hopen x hx
      · rw [b14]
        exact hclose x hx
      · rw [b15]
        exact hhang x hx
    have checked : f.checkedSettings s = some (sel, option) :=
      checkedSettings_eq sets hm mask hsel (b16 ▸ readOnOff_byte rfl) fields hcodes
    have selects (c : Chan) : f.selects c = m.testBit c.val := by rw [Command.selects, sets]
    have run {t : State} (hb : setChannelBody f { s with link := { s.link with cmdQueue := rest } } = t) :
        exec .setChannel s = .next t :=
      next_runCommand (need := ownReply) h (by rw [payload]; rfl) (lengthIs_of_length len) hb
    have running : State.capturing { s with link := { s.link with cmdQueue := rest } } = s.capturing := rfl
    cases hs : s.cap.state with
    | standby =>
      obtain ⟨v, hv⟩ := mapChans_changes s fun c ch => if f.selects c then ch.writeSettings sel else ch
      refine ⟨v, fun _ => ⟨run ?_, fun c => ?_⟩, fun h => nomatch h⟩
      · simp only [setChannelBody, checkedSettings_withLink, checked, running, capturing_false_iff.mpr hs,
          mapChans_withLink, hv]
        rfl
      · have written := State.chan_mapChans s c fun c ch => if f.selects c then ch.writeSettings sel else ch
        rw [hv, selects, writeSettings_eq] at written
        exact written
    | capturing =>
      obtain ⟨v, hv⟩ := mapChans_changes s fun c ch =>
        if f.selects c then { ch with pendingSettings := ch.pendingSettings.merge sel } else ch
      refine ⟨v, fun h => (nomatch h), fun _ => ⟨run ?_, fun c => ?_⟩⟩
      · simp only [setChannelBody, checkedSettings_withLink, checked, running, capturing_iff.mpr hs,
          mapChans_withLink, hv]
        rw [if_pos trivial, answerTaken_eq_taken (rest := rest) rfl]
        unfold State.taken
        rfl
      · have placed := State.chan_mapChans s c fun c ch =>
          if f.selects c then { ch with pendingSettings := ch.pendingSettings.merge sel } else ch
        rw [hv, selects] at placed
        exact placed

end Sys2Proof.Machine
end

section
/-! SUPPORT. The lane: the scan by the schedule, the notices and their sending, HOLD and the ends of frames (R48, R50, R51,
R58, R60, R169, R171, R173, R174, R179). -/

namespace Sys2Proof.Machine

variable {s : State}

/-! ## The stream source -/

theorem streamReady_iff : s.streamReady = true ↔ s.stream.enable = true ∧ ∃ p rest, s.store.posted = p :: rest ∧
    (s.stream.threshold ≤ s.store.posted.length ∨ s.stream.wait ≤ (s.ticks - p.postedAt) / 16 ∨
      s.cap.state ≠ .capturing) := by
  cases hp : s.store.posted with
  | nil => simp [State.streamReady, hp]
  | cons p rest =>
    simp [State.streamReady, State.waitReached, State.headAge, State.capturing, hp, or_assoc]

/-- Settles O26. -/
theorem streamReadiness : Obligations.StreamReadiness := fun _ =>
  ⟨streamReady_iff, fun _ _ enabled head reached =>
    ⟨rfl, streamReady_iff.mpr ⟨enabled, _, _, head, .inr (.inl reached)⟩⟩⟩

/-! ## HOLD and the ends of frames -/

/-- No scan starts a frame while HOLD is asserted or a frame is in progress (R173, R174). -/
theorem scan_barred (h : s.link.hold = true ∨ s.link.lane ≠ none) : s.scan = s :=
  if_pos (h.imp id Option.isSome_iff_ne_none.mpr)

/-- With HOLD released and the lane idle the restarting phase decides (R173, R179). -/
theorem scan_idle (hh : s.link.hold = false) (hl : s.link.lane = none) : s.scan =
    match s.link.restart with
    | .off => s.scanSchedule
    | .replyDue r =>
      let t := s.startFrame .restartReply 0x81#8 r.tag r.payload
      { t with link := { t.link with restart := .replyGoing } }
    | .replyGoing | .resetDue => s :=
  if_neg (by simp [hh, hl])

/-- Settles O24. -/
theorem holdRestartingAndFrameEnds : Obligations.HoldRestartingAndFrameEnds := by
  unfold Obligations.HoldRestartingAndFrameEnds
  intro s
  refine ⟨rfl, ⟨_, rfl, rfl⟩, fun hl => congrArg Host.Outcome.next (scan_barred (.inr hl)), fun h => congrArg Host.Outcome.next (scan_barred h),
    fun h => congrArg Host.Outcome.next ?_, fun r hh hl hr => congrArg Host.Outcome.next ?_, fun r hu hs => ⟨_, rfl, congrArg Host.Outcome.next ?_⟩,
    fun r rest hu hq => ⟨_, rfl, congrArg Host.Outcome.next ?_⟩, fun hu => congrArg Host.Outcome.next ?_, fun hu => ⟨_, rfl, congrArg Host.Outcome.next ?_⟩⟩
  · by_cases barred : s.link.hold = true ∨ s.link.lane ≠ none
    · exact scan_barred barred
    · rw [not_or, Bool.not_eq_true, not_not] at barred
      rw [scan_idle barred.1 barred.2]
      rcases h with h | h <;> rw [h]
  · rw [scan_idle hh hl, hr]
    rfl
  · rw [if_pos hu]
    simp only [State.enterCustody, hs]
    rfl
  · rw [hu, hq]
    simp only [State.popReply, hq]
    rfl
  · rw [hu]
    rfl
  · rw [if_pos hu]
    rfl

/-! ## Notices -/

/-- The FULL slots in ascending order. -/
theorem fullEntries_slots (m : Markers) :
    m.fullEntries.map Prod.fst = (List.finRange 8).filter fun i => (m.slots.get i).isSome := by
  rw [Markers.fullEntries, List.map_filterMap, ← List.filterMap_eq_filter]
  refine List.filterMap_congr fun i _ => ?_
  cases h : m.slots.get i <;> simp [Option.guard, h]

/-- The map in the order of the channels, 255 for each before it is built (R135, R181). -/
theorem mapBytes_eq (s : State) : s.mapBytes = (List.finRange 24).flatMap fun c =>
    be 1 (if s.trim.mapBuilt = true then (s.convOf c).val else 255) := by
  refine congrArg (fun g => (List.finRange 24).flatMap g) (funext fun c => ?_)
  rw [State.servingConv]
  split <;> rfl

/-- Settles O22. -/
theorem noticeContents : Obligations.NoticeContents := by
  unfold Obligations.NoticeContents
  intro s
  have assoc (a : List Byte) {α : Type} (enc : α → List Byte) (l : List α) :
      a ++ counted enc l = a ++ be 1 l.length ++ l.flatMap enc := (List.append_assoc a _ _).symm
  refine ⟨fun k hk => ?_, ?_, ?_, ?_, ?_, ?_, ?_, ?_⟩ <;>
    refine congrArg₂ List.cons rfl ?_ <;> simp only [State.noticeContents]
  · rw [hk]
    cases hr : k.reason <;> simp only [Option.map_some, Option.getD_some, CaptureContents.bytes, hr] <;> rfl
  · rw [State.storeContents, assoc]
  · rw [State.converterContents, mapBytes_eq]
    rfl
  · rfl
  · rw [State.proceedingContents, assoc]
    rfl
  · rw [State.markerContents, fullEntries_slots, assoc]
    rfl
  · have left : s.floor.log.length - min 8 s.floor.log.length = s.floor.log.length - 8 := by omega
    rw [State.floorContents, assoc, Floor.taken, List.length_take, Config.noticeListMax, left]
    rfl
  · simp [State.linkContents, Counters.bytes]

/-- Raising a flag that has just been lowered raises it. -/
theorem lower_raise (x f : BitVec 8) : x &&& ~~~f ||| f = x ||| f := by
  ext i hi
  cases h : f[i] <;> simp [h]

/-- Settles O23. -/
theorem noticeSendingClearsItsLists : Obligations.NoticeSendingClearsItsLists := by
  unfold Obligations.NoticeSendingClearsItsLists
  intro s
  have lower (k : NoticeKind) : s.lower k = { s with link := { s.link with raised := s.link.raised &&& ~~~k.flag } } := rfl
  refine ⟨?_, ?_, ?_, ?_, ?_, ?_, ?_, ?_⟩
  · rw [State.noticeSent, lower, flag_capture]
    rfl
  · obtain ⟨v, hv⟩ := mapChans_changes s fun _ ch => { ch with newlyStarved := false }
    refine ⟨v, fun c => ?_, ?_⟩
    · have cleared := State.chan_mapChans s c fun _ ch => { ch with newlyStarved := false }
      rw [hv] at cleared
      exact cleared
    · rw [State.noticeSent, lower, flag_store]
      simp only [mapChans_withLink, hv]
      rfl
  · rw [State.noticeSent, lower, flag_converter]
    rfl
  · rw [State.noticeSent, lower, flag_time]
    rfl
  · rw [State.noticeSent, lower, flag_proceeding]
    rfl
  · rw [State.noticeSent, lower, flag_marker]
    rfl
  · rw [State.noticeSent, lower]
    simp only [List.isEmpty_iff, List.drop_eq_nil_iff, Config.noticeListMax, State.raise]
    split_ifs
    · rw [flag_floor]
      rfl
    · rw [lower_raise, flag_floor]
  · rw [State.noticeSent, lower, flag_link]
    rfl

/-! ## The scan -/

/-- The first index whose entry passes. -/
theorem find?_finRange_eq_some {n : Nat} {p : Fin n → Bool} {k : Fin n} :
    (List.finRange n).find? p = some k ↔ p k = true ∧ ∀ j < k, p j = false := by
  rw [List.find?_eq_some_iff_getElem]
  simp only [List.getElem_finRange, List.length_finRange]
  constructor
  · rintro ⟨pass, i, hi, rfl, before⟩
    exact ⟨pass, fun j hj => by simpa using before j.val hj⟩
  · rintro ⟨pass, before⟩
    exact ⟨pass, k.val, k.isLt, rfl, fun j hj => by simpa using before ⟨j, by omega⟩ hj⟩

/-- The winner of a scan is the first ready entry from the one after the position (R173). -/
theorem scanWinner_eq_some {s : State} {k : Fin 16}
    (ready : s.sourceReady (s.link.schedule.get (s.link.position + 1 + k)) = true)
    (first : ∀ j < k, s.sourceReady (s.link.schedule.get (s.link.position + 1 + j)) = false) :
    s.scanWinner = some (s.link.position + 1 + k) := by
  rw [State.scanWinner, scanOrder, List.find?_map]
  exact congrArg (Option.map fun i => s.link.position + 1 + i) (find?_finRange_eq_some.mpr ⟨ready, first⟩)

theorem scanWinner_eq_none {s : State}
    (none_ready : ∀ k, s.sourceReady (s.link.schedule.get (s.link.position + 1 + k)) = false) : s.scanWinner = none := by
  rw [State.scanWinner, scanOrder, List.find?_map, List.find?_eq_none.mpr fun k _ => by simp [none_ready]]
  rfl

theorem mem_noticeKinds (k : NoticeKind) : k ∈ noticeKinds := by cases k <;> decide

/-- The next notice is the pending, enabled one of highest priority (R171). -/
theorem nextNotice_some {l : Link} {x : NoticeKind} (h : l.nextNotice = some x) :
    flagSet l.raised x = true ∧ flagSet l.enabled x = true ∧
      ∀ y, flagSet l.raised y = true → flagSet l.enabled y = true → x.code ≤ y.code := by
  obtain ⟨pass, before, behind, split, fails⟩ := List.find?_eq_some_iff_append.mp h
  simp only [Bool.and_eq_true] at pass
  refine ⟨pass.1, pass.2, fun y hr he => ?_⟩
  have sorted : noticeKinds.Pairwise fun a b => a.code ≤ b.code := by decide
  have mem := mem_noticeKinds y
  rw [split] at sorted mem
  rcases List.mem_append.mp mem with hy | hy
  · have := fails y hy
    simp [hr, he] at this
  · rcases List.mem_cons.mp hy with rfl | hy
    · exact le_rfl
    · exact (List.pairwise_cons.mp (List.pairwise_append.mp sorted).2.1).1 y hy

theorem nextNotice_isSome {l : Link} :
    l.nextNotice.isSome = true ↔ ∃ k, flagSet l.raised k = true ∧ flagSet l.enabled k = true := by
  rw [Link.nextNotice, List.find?_isSome]
  simp [mem_noticeKinds]

/-- The record of a slot in custody, read by its number (R58). -/
theorem heldRecord_eq {s : State} (law : s.CustodyLaw) {h : HeldSlot} (hm : h ∈ s.store.custody) :
    s.store.heldRecord h.record.custody = some h.record := by
  obtain ⟨g, hg⟩ : ∃ g, s.store.custody.find? (fun g => g.record.custody == h.record.custody) = some g := by
    rw [← Option.isSome_iff_exists, List.find?_isSome]
    exact ⟨h, hm, by simp⟩
  have num : g.record.custody = h.record.custody := by simpa using List.find?_some hg
  obtain rfl := custody_eq_of_number law (List.mem_of_find?_eq_some hg) hm num
  rw [Store.heldRecord, hg]
  rfl

/-- Settles O21. -/
theorem laneScanFollowsTheSchedule : Obligations.LaneScanFollowsTheSchedule := by
  unfold Obligations.LaneScanFollowsTheSchedule
  intro s ready entry hh hl hr hready hentry
  have source (x : Source) : ready x ↔ s.sourceReady x = true := by
    rw [hready]
    cases x with
    | r => simp [State.sourceReady]
    | n => exact nextNotice_isSome.symm
    | b => rfl
  have idle : s.scan = s.scanSchedule := by rw [scan_idle hh hl, hr]
  refine ⟨fun none_ready => congrArg Host.Outcome.next ?_, fun k hk first => ?_⟩
  · rw [idle, State.scanSchedule, scanWinner_eq_none fun k => ?_]
    rw [← hentry, ← Bool.not_eq_true, ← source]
    exact none_ready k
  · have winner : s.scanWinner = some (entry k) := by
      rw [hentry]
      refine scanWinner_eq_some ?_ fun j hj => ?_
      · rw [← hentry, ← source]
        exact hk
      · rw [← hentry, ← Bool.not_eq_true, ← source]
        exact first j hj
    have scanned (t : State) (h : s.sendSource (s.link.schedule.get (entry k)) = t) :
        exec .laneScan s = .next { t with link := { t.link with position := entry k } } := by
      refine congrArg Host.Outcome.next ?_
      rw [idle, State.scanSchedule, winner]
      simp only [h]
    rw [source] at hk
    cases hx : s.link.schedule.get (entry k) with
    | r =>
      rw [hx] at hk scanned
      cases hq : s.link.replyQueue with
      | nil => simp [State.sourceReady, hq] at hk
      | cons e rest =>
        have sent := scanned _ rfl
        simp only [State.sendSource, State.sendReply, hq] at sent
        refine ⟨e, rest, rfl, ?_, fun n h he law hm hn => ?_⟩
        · cases e <;> exact sent
        · subst he hn
          simp only [heldRecord_eq law hm] at sent
          exact sent
    | n =>
      rw [hx] at hk scanned
      obtain ⟨x, next⟩ := Option.isSome_iff_exists.mp hk
      obtain ⟨raised, enabled, highest⟩ := nextNotice_some next
      refine ⟨x, raised, enabled, highest, ?_⟩
      have sent := scanned _ rfl
      simp only [State.sendSource, State.sendNotice, next] at sent
      exact sent
    | b =>
      rw [hx] at hk scanned
      obtain ⟨-, p, rest, head, -⟩ := streamReady_iff.mp hk
      refine ⟨p, rest, head, ?_⟩
      have sent := scanned _ rfl
      simp only [State.sendSource, State.sendBlock, head] at sent
      exact sent

/-! ## The end of a REREAD frame -/

/-- The free count formed again without a change (R37). -/
theorem setFree_same (s : State) : s.setFree s.store.free = s := by
  rw [setFree_eq, if_pos (show levelOf s.store.free s.store.shed s.store.keep = s.store.level from rfl)]

/-- A slot that stays in custody when a pin of it ends (R60). -/
theorem endPin_kept (law : s.CustodyLaw) {h : HeldSlot} (hm : h ∈ s.store.custody)
    (stays : (h.unpin h.record.custody).freed = false) : s.endPin h.record.custody = { s with
      store := { s.store with custody := s.store.custody.map (HeldSlot.unpin h.record.custody) } } := by
  have kept (g : HeldSlot) (hg : g ∈ s.store.custody.map (HeldSlot.unpin h.record.custody)) :
      (g.record.custody == h.record.custody && g.freed) = false := by
    obtain ⟨x, hx, rfl⟩ := List.mem_map.mp hg
    rw [HeldSlot.unpin_record]
    by_cases number : x.record.custody = h.record.custody
    · rw [custody_eq_of_number law hx hm number, stays, Bool.and_false]
    · simp [number]
  have gone := List.filter_eq_nil_iff.mpr fun g hg => Bool.eq_false_iff.mp (kept g hg)
  have rest : ((s.store.custody.map (HeldSlot.unpin h.record.custody)).filter
      fun g => !(g.record.custody == h.record.custody && g.freed)) =
        s.store.custody.map (HeldSlot.unpin h.record.custody) :=
    List.filter_eq_self.mpr fun g hg => by rw [kept g hg]; rfl
  simp only [State.endPin, gone, rest]
  exact setFree_same { s with store := { s.store with custody := s.store.custody.map (HeldSlot.unpin h.record.custody) } }

/-- A release-pending slot whose last pin ends is FREE (R60). -/
theorem endPin_freed (law : s.CustodyLaw) {h : HeldSlot} (hm : h ∈ s.store.custody)
    (frees : (h.unpin h.record.custody).freed = true) : s.endPin h.record.custody = State.setFree { s with
      store := { s.store with custody := s.store.custody.filter fun g => g.record.custody ≠ h.record.custody } }
      (s.store.free + 1) := by
  have gone (x : HeldSlot) (hx : x ∈ s.store.custody) :
      ((x.unpin h.record.custody).record.custody == h.record.custody && (x.unpin h.record.custody).freed) =
        (x.record.custody == h.record.custody) := by
    rw [HeldSlot.unpin_record]
    by_cases number : x.record.custody = h.record.custody
    · rw [custody_eq_of_number law hx hm number, frees, Bool.and_true]
    · simp [number]
  have rest : (s.store.custody.map (HeldSlot.unpin h.record.custody)).filter
      (fun g => !(g.record.custody == h.record.custody && g.freed)) =
        s.store.custody.filter fun g => g.record.custody ≠ h.record.custody := by
    have same : s.store.custody.filter ((fun g : HeldSlot => !(g.record.custody == h.record.custody && g.freed)) ∘
        HeldSlot.unpin h.record.custody) = s.store.custody.filter fun g => g.record.custody ≠ h.record.custody :=
      List.filter_congr fun x hx => by
        rw [Function.comp_apply, gone x hx]
        simp [beq_eq_decide]
    rw [List.filter_map, same]
    refine (List.map_congr_left fun x hx => ?_).trans (List.map_id _)
    have number : x.record.custody ≠ h.record.custody := by simpa using (List.mem_filter.mp hx).2
    exact if_neg number
  have one : ((s.store.custody.map (HeldSlot.unpin h.record.custody)).filter
      fun g => g.record.custody == h.record.custody && g.freed).length = 1 := by
    have count := List.count_eq_one_of_mem (custody_nodup law) (List.mem_map_of_mem hm)
    rw [List.count, List.countP_map] at count
    rw [← List.countP_eq_length_filter, List.countP_map, ← count]
    exact List.countP_congr fun x hx => by rw [Function.comp_apply, gone x hx, Function.comp_apply]
  simp only [State.endPin, rest, one]

/-- Settles O25. -/
theorem rereadFrameEndOutcomes : Obligations.RereadFrameEndOutcomes := by
  unfold Obligations.RereadFrameEndOutcomes
  intro s k rest h law pins hu hq hm hk
  subst hk
  have popped : s.popReply = { s with link := { s.link with replyQueue := rest } } := by
    rw [State.popReply, hq]
    rfl
  have ended : exec .rereadFrameEnd s =
      .next ((State.endPin { s with link := { s.link with replyQueue := rest } } h.record.custody).endFrame.scan) := by
    refine congrArg Host.Outcome.next ?_
    rw [hu, hq, ← popped]
  have law' : State.CustodyLaw { s with link := { s.link with replyQueue := rest } } := law
  refine ⟨fun stays => ⟨_, rfl, ?_⟩, fun last pending => ⟨_, rfl, ?_⟩⟩
  · have kept : (h.unpin h.record.custody).freed = false := by
      rw [Bool.eq_false_iff, ne_eq, HeldSlot.freed_iff, HeldSlot.unpin_pins, if_pos rfl, HeldSlot.unpin_releasePending]
      rintro ⟨zero, pending⟩
      rcases stays with more | free
      · omega
      · rw [free] at pending
        cases pending
    rw [ended, endPin_kept law' hm kept]
    rfl
  · have frees : (h.unpin h.record.custody).freed = true := by
      rw [HeldSlot.freed_iff, HeldSlot.unpin_pins, if_pos rfl, HeldSlot.unpin_releasePending, last]
      exact ⟨rfl, pending⟩
    rw [ended, endPin_freed law' hm frees, setFree_eq]
    rfl

end Sys2Proof.Machine
end

section
/-! SUPPORT. Field coding, sets, the two checks, and the layouts of records (R83 to R85, R164, R181, R184, R185). -/

namespace Sys2Proof.Machine

/-! ## Records (R184, R185) -/

theorem length_samples (l : List Sample) : (l.flatMap sampleBytes).length = 2 * l.length := by
  induction l with
  | nil => rfl
  | cons x l ih => simp only [List.flatMap_cons, List.length_append, ih, sampleBytes, length_be, List.length_cons]; omega

theorem drop_samples (l : List Sample) (i : Nat) :
    (l.flatMap sampleBytes).drop (2 * i) = (l.drop i).flatMap sampleBytes := by
  induction i generalizing l with
  | zero => rfl
  | succ i ih =>
    cases l with
    | nil => simp
    | cons x l => exact ih l

/-- The 43 bytes before the samples. -/
def AudioRecord.head (r : AudioRecord) : List Byte := r.lead ++ be 4 r.custody ++ r.middle ++ be 4 r.check.toNat

theorem AudioRecord.length_head (r : AudioRecord) : r.head.length = 43 := by
  simp [AudioRecord.head, AudioRecord.lead, AudioRecord.middle, chanOr255]

theorem AudioRecord.bytes_eq (r : AudioRecord) : r.bytes = r.head ++ r.samples.flatMap sampleBytes := rfl

theorem length_frameBytes (kind tag : Byte) (p : List Byte) : (frameBytes kind tag p).length = p.length + 6 := by
  simp only [frameBytes, frameCovered, List.length_cons, List.length_append, length_be, List.length_nil]
  omega

theorem audioLayout (r : AudioRecord) (h : r.samples.length = 320) :
    r.bytes.length = 683 ∧ (frameBytes 0x83#8 0x00#8 (blockPayload 0x01#8 (.audio r))).length = 690 ∧
    (∀ x ∈ [(0, [0x01#8]), (1, be 1 r.channel.val), (2, be 2 r.capture), (4, be 4 r.custody), (8, be 4 r.sequence),
        (12, be 4 r.period), (16, be 4 r.gap), (20, be 2 r.day), (22, be 4 r.instant), (26, be 1 r.quality.code),
        (27, be 1 r.tag.code),
        (28, be 1 (r.flags.pattern.toNat + 2 * r.flags.handover.toNat + 4 * r.flags.convFault.toNat +
          8 * r.flags.stepped.toNat)),
        (29, be 1 r.converter.val), (30, be 2 r.gain), (32, be 1 r.level), (33, be 1 r.activity.code),
        (34, chanOr255 r.holder), (35, be 2 r.peak), (37, be 2 r.clipped), (39, be 4 r.check.toNat)],
      (r.bytes.drop x.1).take x.2.length = x.2) ∧
    (∀ (i : Nat) (h : i < r.samples.length), (r.bytes.drop (43 + 2 * i)).take 2 = be 2 (r.samples[i]).toNat) ∧
    r.covered = r.bytes.take 4 ++ (r.bytes.drop 8).take 31 ++ r.bytes.drop 43 ∧ r.covered.length = 675 := by
  have size : r.bytes.length = 683 := by
    rw [r.bytes_eq, List.length_append, r.length_head, length_samples, h]
  refine ⟨size, ?_, ?_, fun i hi => ?_, ?_, ?_⟩
  · rw [length_frameBytes, blockPayload, List.length_cons, Record.bytes, size]
  · simp only [AudioRecord.bytes, AudioRecord.lead, AudioRecord.middle, chanOr255, be, List.cons_append, List.nil_append,
      List.forall_mem_cons]
    exact ⟨rfl, rfl, rfl, rfl, rfl, rfl, rfl, rfl, rfl, rfl, rfl, rfl, rfl, rfl, rfl, rfl, rfl, rfl, rfl, rfl,
      fun _ h => nomatch h⟩
  · have place : r.bytes.drop (43 + 2 * i) = (r.samples.flatMap sampleBytes).drop (2 * i) := by
      rw [r.bytes_eq, ← List.drop_drop, List.drop_left' r.length_head]
    rw [place, drop_samples, List.drop_eq_getElem_cons hi, List.flatMap_cons, sampleBytes, List.take_left' (length_be 2 _)]
  · simp only [AudioRecord.covered, AudioRecord.bytes, AudioRecord.lead, AudioRecord.middle, chanOr255, be, List.cons_append,
      List.nil_append]
    rfl
  · rw [AudioRecord.covered, List.length_append, length_samples, h]
    simp [AudioRecord.lead, AudioRecord.middle, chanOr255]

/-- The 29 bytes before the entries. -/
def MarkerRecord.head (r : MarkerRecord) : List Byte :=
  r.lead ++ be 4 r.custody ++ (be 4 r.sequence ++ be 4 r.period ++ be 4 0 ++ be 2 r.day ++ be 4 r.instant
    ++ be 1 r.quality.code ++ be 1 r.tag.code ++ be 1 r.entries.length)

theorem MarkerRecord.length_head (r : MarkerRecord) : r.head.length = 29 := by
  simp [MarkerRecord.head, MarkerRecord.lead]

theorem MarkerRecord.bytes_eq (r : MarkerRecord) :
    r.bytes = r.head ++ (r.entries.flatMap markerEntry ++ be 4 r.check.toNat) := by
  simp [MarkerRecord.bytes, MarkerRecord.head, MarkerRecord.middle, counted]

theorem length_entries (l : List (Fin 8 × Marker)) :
    (l.flatMap markerEntry).length = 4 * l.length + (l.map fun e => e.2.text.length).sum := by
  induction l with
  | nil => rfl
  | cons e l ih =>
    simp only [List.flatMap_cons, List.length_append, ih, markerEntry, chanOr255, length_be, List.length_cons,
      List.map_cons, List.sum_cons]
    omega

theorem markerLayout (r : MarkerRecord) (texts : Nat) (h : texts = (r.entries.map fun e => e.2.text.length).sum) :
    r.bytes.length = 33 + 4 * r.entries.length + texts ∧ r.covered.length = 25 + 4 * r.entries.length + texts ∧
    (∀ x ∈ [(0, [0x02#8, 0xFF#8]), (2, be 2 r.capture), (4, be 4 r.custody), (8, be 4 r.sequence), (12, be 4 r.period),
        (16, [0x00#8, 0x00#8, 0x00#8, 0x00#8]), (20, be 2 r.day), (22, be 4 r.instant), (26, be 1 r.quality.code),
        (27, be 1 r.tag.code), (28, be 1 r.entries.length),
        (29, r.entries.flatMap fun e => be 1 e.1.val ++ be 1 e.2.kind.code ++ chanOr255 e.2.channel ++
          be 1 e.2.text.length ++ e.2.text), (29 + 4 * r.entries.length + texts, be 4 r.check.toNat)],
      (r.bytes.drop x.1).take x.2.length = x.2) ∧
    r.covered = r.bytes.take 4 ++ (r.bytes.drop 8).take (21 + 4 * r.entries.length + texts) := by
  have entries : (r.entries.flatMap markerEntry).length = 4 * r.entries.length + texts := by rw [length_entries, h]
  have middle : r.middle.length = 21 + 4 * r.entries.length + texts := by
    simp only [MarkerRecord.middle, counted, List.length_append, length_be, entries]
    omega
  refine ⟨?_, ?_, ?_, ?_⟩
  · rw [r.bytes_eq, List.length_append, r.length_head, List.length_append, entries, length_be]
    omega
  · rw [MarkerRecord.covered, List.length_append, middle]
    simp only [MarkerRecord.lead, List.length_cons, length_be]
    omega
  · have body : r.bytes.drop 29 = r.entries.flatMap markerEntry ++ be 4 r.check.toNat := by
      rw [r.bytes_eq, List.drop_left' r.length_head]
    have check : r.bytes.drop (29 + 4 * r.entries.length + texts) = be 4 r.check.toNat := by
      rw [Nat.add_assoc, ← entries, ← List.drop_drop, body, List.drop_left]
    simp only [List.forall_mem_cons]
    refine ⟨?_, ?_, ?_, ?_, ?_, ?_, ?_, ?_, ?_, ?_, ?_, ?_, ?_, fun _ h => nomatch h⟩
    case refine_12 => rw [body]; exact List.take_left
    case refine_13 => rw [check]; exact List.take_length
    all_goals
      simp only [r.bytes_eq, MarkerRecord.head, MarkerRecord.lead, be, List.cons_append, List.nil_append]
      rfl
  · have lead : r.lead.length = 4 := by simp [MarkerRecord.lead]
    have front : r.bytes = r.lead ++ (be 4 r.custody ++ (r.middle ++ be 4 r.check.toNat)) := by
      simp [MarkerRecord.bytes]
    have body : r.bytes.drop 8 = r.middle ++ be 4 r.check.toNat := by
      rw [front, ← List.append_assoc, List.drop_left' (by simp [lead])]
    rw [body, ← middle, List.take_left, front, List.take_left' lead, MarkerRecord.covered]

/-- Settles O52. -/
theorem recordLayouts : Obligations.RecordLayouts := ⟨audioLayout, markerLayout⟩

/-! ## Sets (R181) -/

theorem testBit_setValue (l : List Nat) (i : Nat) : (setValue l).testBit i = decide (i ∈ l) := by
  have fold (v : Nat) : (l.foldl (fun v n => v ||| 2 ^ n) v).testBit i = (v.testBit i || decide (i ∈ l)) := by
    induction l generalizing v with
    | nil => simp
    | cons n l ih =>
      rw [List.foldl_cons, ih, Nat.testBit_or, Nat.testBit_two_pow, Bool.or_assoc]
      congr 1
      simp only [List.mem_cons, Bool.decide_or, eq_comm (a := n)]
  rw [setValue, fold, Nat.zero_testBit, Bool.false_or]

theorem testBit_set {n : Nat} (l : List (Fin n)) (i : Nat) :
    (setValue (l.map Fin.val)).testBit i = if h : i < n then decide (⟨i, h⟩ ∈ l) else false := by
  rw [testBit_setValue]
  split
  · next h =>
    rw [decide_eq_decide, List.mem_map]
    exact ⟨fun ⟨x, hx, e⟩ => by subst e; exact hx, fun hx => ⟨_, hx, rfl⟩⟩
  · next h =>
    rw [decide_eq_false_iff_not, List.mem_map]
    rintro ⟨x, -, rfl⟩
    exact h x.isLt

/-- The bits of a mask built from the top down. -/
theorem testBit_bits (l : List Bool) (i : Nat) : (l.foldr Nat.bit 0).testBit i = l.getD i false := by
  induction l generalizing i with
  | nil => simp
  | cons b l ih =>
    cases i with
    | zero => exact Nat.testBit_bit_zero b _
    | succ i => rw [List.foldr_cons, Nat.testBit_bit_succ, ih, List.getD_cons_succ]

/-! ## The checks (R83, R164) -/

/-- A check taken over itself leaves 0. -/
theorem crc8_self (bs : List Byte) : crc8 (bs ++ [crc8 bs]) = 0#8 := by
  have zero (r : BitVec 8) : crc8Byte r r = 0#8 := by
    simp only [crc8Byte, BitVec.xor_self]
    decide
  rw [crc8, List.foldl_append]
  exact zero _

theorem crc32Shift_toNat {r : BitVec 32} (h : r.toNat < 2147483648) : (crc32Shift r).toNat = 2 * r.toNat := by
  have low : r.msb = false := by rw [BitVec.msb_eq_decide]; simpa using h
  rw [crc32Shift, low, if_neg (by decide), BitVec.toNat_shiftLeft, Nat.shiftLeft_eq]
  omega

/-- While nothing reaches the top bit, the shifts of the chain register are those of a number. -/
theorem crc32Shift_iterate {k : Nat} {r : BitVec 32} (h : 2 ^ k * r.toNat < 4294967296) :
    (crc32Shift^[k] r).toNat = 2 ^ k * r.toNat := by
  induction k with
  | zero => simp
  | succ k ih =>
    have double : 2 ^ (k + 1) * r.toNat = 2 * (2 ^ k * r.toNat) := by ring
    rw [double] at h ⊢
    have value := ih (by omega)
    rw [Function.iterate_succ_apply', crc32Shift_toNat (by rw [value]; omega), value]

/-- The byte on top of the register cancels. -/
theorem toNat_xor_top {r : BitVec 32} {b : Byte} (h : b.toNat = r.toNat / 16777216) :
    (r ^^^ (b.zeroExtend 32 <<< 24)).toNat = r.toNat % 2 ^ 24 := by
  have byte : (b.zeroExtend 32 <<< 24).toNat = b.toNat <<< 24 := by
    have lt := b.isLt
    rw [BitVec.toNat_shiftLeft, BitVec.zeroExtend, BitVec.toNat_setWidth, Nat.shiftLeft_eq, Nat.shiftLeft_eq]
    omega
  rw [BitVec.toNat_xor, byte, h]
  refine Nat.eq_of_testBit_eq fun i => ?_
  rw [Nat.testBit_xor, Nat.testBit_shiftLeft, Nat.testBit_mod_two_pow, show 16777216 = 2 ^ 24 from rfl, Nat.testBit_div_two_pow]
  by_cases low : i < 24
  · simp [low, Nat.not_le.mpr low]
  · have place : i - 24 + 24 = i := by omega
    simp [low, Nat.le_of_not_lt low, place]

/-- The byte that stands on top of the register moves out, and the rest moves up. -/
theorem crc32Byte_top {r : BitVec 32} {b : Byte} (h : b.toNat = r.toNat / 16777216) :
    (crc32Byte r b).toNat = 256 * (r.toNat % 16777216) := by
  have rest := toNat_xor_top h
  have shifts : crc32Byte r b = crc32Shift^[8] (r ^^^ (b.zeroExtend 32 <<< 24)) := rfl
  rw [shifts, crc32Shift_iterate (by rw [rest]; omega), rest, show 2 ^ 8 = 256 from rfl,
    show 2 ^ 24 = 16777216 from rfl]

/-- The chain check of the bytes of the chain value itself is 0. -/
theorem crc32_value (c : BitVec 32) : crc32 c (be 4 c.toNat) = 0#32 := by
  have top (n : Nat) : (BitVec.ofNat 8 n).toNat = n % 256 := BitVec.toNat_ofNat n 8
  have lt := c.isLt
  have step1 := crc32Byte_top (r := c) (b := BitVec.ofNat 8 (c.toNat / 256 ^ 3)) (by rw [top]; omega)
  have step2 := crc32Byte_top (r := crc32Byte c (BitVec.ofNat 8 (c.toNat / 256 ^ 3)))
    (b := BitVec.ofNat 8 (c.toNat / 256 ^ 2)) (by rw [top, step1]; omega)
  have step3 := crc32Byte_top (r := crc32Byte (crc32Byte c (BitVec.ofNat 8 (c.toNat / 256 ^ 3)))
    (BitVec.ofNat 8 (c.toNat / 256 ^ 2))) (b := BitVec.ofNat 8 (c.toNat / 256 ^ 1)) (by rw [top, step2, step1]; omega)
  have step4 := crc32Byte_top (r := crc32Byte (crc32Byte (crc32Byte c (BitVec.ofNat 8 (c.toNat / 256 ^ 3)))
    (BitVec.ofNat 8 (c.toNat / 256 ^ 2))) (BitVec.ofNat 8 (c.toNat / 256 ^ 1))) (b := BitVec.ofNat 8 (c.toNat / 256 ^ 0))
    (by rw [top, step3, step2, step1]; omega)
  refine BitVec.eq_of_toNat_eq ?_
  refine Eq.trans step4 ?_
  rw [step3, step2, step1]
  have : (0#32).toNat = 0 := rfl
  omega

theorem crc32_self (start : BitVec 32) (bs : List Byte) : crc32 start (bs ++ be 4 (crc32 start bs).toNat) = 0#32 := by
  rw [crc32, List.foldl_append]
  exact crc32_value _

/-! ## Coding -/

/-- The bytes of a number, high byte first. -/
theorem getElem?_be (k n i : Nat) :
    (be k n)[i]? = if i < k then some (BitVec.ofNat 8 (n / 256 ^ (k - 1 - i))) else none := by
  induction k generalizing i with
  | zero => simp [be]
  | succ k ih =>
    cases i with
    | zero => simp [be_succ]
    | succ i =>
      have place : k + 1 - 1 - (i + 1) = k - 1 - i := by omega
      rw [be_succ, List.getElem?_cons_succ, ih, place]
      simp only [Nat.add_lt_add_iff_right]

theorem chanSet_bits (p : Chan → Bool) :
    ∃ n : Nat, chanSet p = be 3 n ∧ ∀ i : Nat, n.testBit i = if h : i < 24 then p ⟨i, h⟩ else false := by
  refine ⟨_, rfl, fun i => ?_⟩
  rw [testBit_set]
  simp

theorem mask_testBit (p : PendingSettings) (i : Nat) : p.mask.testBit i = ([p.enable.isSome, p.gain.isSome, p.cls.isSome,
    p.bench.isSome, p.floorEligible.isSome, p.feedInclude.isSome, p.openCode.isSome, p.closeCode.isSome,
    p.hang.isSome].getD i false) := by
  rw [mask_eq_bits, ← testBit_bits]
  rfl

theorem channelOf_eq_none {s : State} {v : Conv} :
    s.channelOf v = none ↔ s.trim.mapBuilt = false ∨ ∀ d, s.convOf d ≠ v := by
  rw [← Option.not_isSome_iff_eq_none, channelOf_isSome, not_and_or, Bool.not_eq_true, not_exists]

/-- Settles O51. -/
theorem codingAndChecks : Obligations.CodingAndChecks := by
  unfold Obligations.CodingAndChecks
  refine ⟨fun f i k => ⟨rfl, f.num_lt i k, fun h => (be_num h).symm⟩, getElem?_be, fun k x => ?_, fun b => ?_,
    fun _ _ _ => ⟨rfl, rfl⟩, fun c v => ⟨rfl, by simp [chanOr255, be], rfl, by simp [convOr255, be]⟩, fun _ _ _ => rfl, chanSet_bits,
    fun l => ⟨_, rfl, testBit_set l⟩, rfl, rfl, rfl, rfl, rfl, rfl, rfl, rfl, rfl, rfl, rfl, rfl, rfl, rfl, rfl, rfl, rfl,
    rfl, rfl, rfl, rfl, rfl, fun _ _ => rfl, fun _ => rfl, mask_testBit, fun _ => rfl, fun _ _ _ => rfl, crc8_self,
    crc32_self, ?_, ?_, fun s c v => ⟨rfl, rfl, rfl, capturing_iff, rfl, rfl, rfl, rfl, channelOf_eq_none, fun h => ?_⟩,
    fun _ => rfl⟩
  · rw [beInt]
    push_cast
    rfl
  · cases b <;> rfl
  · decide +kernel
  · decide +kernel
  · exact channelOf_some h

end Sys2Proof.Machine
end

section
/-! SUPPORT. Slot requests, reclaim and the marker step (R33, R35, R37, R111 to R115), and the end of a trim (R121). -/

namespace Sys2Proof.Machine

variable {s t : State}

/-! ## Slot requests -/

/-- What a granted request leaves of the store. -/
theorem slotRequest_store {k : Class} (h : s.slotRequest k = some t) : t.store = { s.store with
    free := t.store.free, custody := t.store.custody, reclaimCount := t.store.reclaimCount
    reclaimList := t.store.reclaimList, notListed := t.store.notListed } := by
  rcases slotRequest_some h with ⟨-, rfl⟩ | ⟨-, -, h⟩
  · rw [setFree_eq]
  · obtain ⟨a, x, b, -, -, -, -, rfl⟩ := reclaimSlot_some h
    rfl

/-- The level state by its table (R37). -/
theorem levelOf_iff {free shed keep : Nat} (h : keep ≤ shed) :
    (levelOf free shed keep = .normal ↔ shed < free) ∧
    (levelOf free shed keep = .shedding ↔ keep < free ∧ free ≤ shed) ∧
    (levelOf free shed keep = .keepOnly ↔ 0 < free ∧ free ≤ keep) ∧
    (levelOf free shed keep = .exhausted ↔ free = 0) := by
  unfold levelOf
  split_ifs <;> simp only [true_iff, false_iff] <;> omega

theorem eligible_iff (h : HeldSlot) : h.eligible = true ↔ h.pins = 0 ∧ h.releasePending = false := by
  simp [HeldSlot.eligible]

/-- The first eligible slot of a custody list is the one with the lowest number (R35). -/
theorem takeEligible_lowest (law : s.CustodyLaw) {h : HeldSlot} (hm : h ∈ s.store.custody) (he : h.eligible = true)
    (lowest : ∀ g ∈ s.store.custody, g.eligible = true → h.record.custody ≤ g.record.custody) :
    takeEligible s.store.custody =
      some (h, s.store.custody.filter fun g => g.record.custody ≠ h.record.custody) := by
  cases hx : takeEligible s.store.custody with
  | none => exact absurd he (Bool.eq_false_iff.mp (takeEligible_none hx h hm))
  | some p =>
    obtain ⟨x, rest⟩ := p
    obtain ⟨a, b, split, before, eligible, rfl⟩ := takeEligible_some hx
    have nodup := custody_nodup law
    have ordered : (s.store.custody.map fun g => g.record.custody).Pairwise (· < ·) := by
      obtain ⟨ordered, -⟩ := law
      rw [Store.records, List.map_append, List.map_append, List.append_assoc, List.pairwise_append,
        List.map_map] at ordered
      exact ordered.1
    have same : h = x := by
      have le := lowest x (by simp [split]) eligible
      rw [split] at hm ordered
      rcases List.mem_append.mp hm with hm | hm
      · exact absurd he (Bool.eq_false_iff.mp (before h hm))
      · rcases List.mem_cons.mp hm with rfl | hm
        · rfl
        · rw [List.map_append, List.map_cons, List.pairwise_append] at ordered
          have lt := (List.pairwise_cons.mp ordered.2.1).1 _ (List.mem_map_of_mem hm)
          exact absurd le (Nat.not_le.mpr lt)
    subst same
    have others (g : HeldSlot) (hg : g ∈ a ++ b) : g.record.custody ≠ h.record.custody := by
      rw [split, List.map_append, List.map_cons] at nodup
      have apart := (List.nodup_middle.mp nodup).notMem
      rw [← List.map_append] at apart
      exact fun e => apart (e ▸ List.mem_map_of_mem hg)
    have left : (a ++ h :: b).filter (fun g => decide (g.record.custody ≠ h.record.custody)) = a ++ b := by
      rw [List.filter_append, List.filter_cons_of_neg (by simp), ← List.filter_append]
      exact List.filter_eq_self.mpr fun g hg => by simpa using others g hg
    rw [split, left]

/-- Settles O16. -/
theorem slotRequestsReclaimAndLevelState : Obligations.SlotRequestsReclaimAndLevelState := by
  unfold Obligations.SlotRequestsReclaimAndLevelState
  refine ⟨fun s => ⟨?_, ?_, fun free => ?_, fun none_free => ?_, fun k t free h => ?_⟩, fun free shed keep => levelOf_iff,
    fun s n => setFree_eq s n, fun s law => ⟨fun refused => ?_, fun on h hm hp hr lowest => ?_⟩⟩
  · simp only [State.slotRequest]
    split <;> simp [*]
  · simp only [State.slotRequest]
    split <;> simp [*]
  · simp only [State.slotRequest, if_pos free]
    rfl
  · simp [State.slotRequest, none_free]
  · rcases slotRequest_some h with ⟨-, rfl⟩ | ⟨-, zero, -⟩
    · rfl
    · exact absurd free (by omega)
  · rcases refused with off | none_eligible
    · simp [State.reclaimSlot, off]
    · have none_taken : takeEligible s.store.custody = none := by
        cases hx : takeEligible s.store.custody with
        | none => rfl
        | some p =>
          obtain ⟨x, rest⟩ := p
          obtain ⟨a, b, split, -, eligible, -⟩ := takeEligible_some hx
          exact absurd ((eligible_iff x).mp eligible) (none_eligible x (by simp [split]))
      simp [State.reclaimSlot, none_taken]
  · have taken := takeEligible_lowest law hm ((eligible_iff h).mpr ⟨hp, hr⟩) fun g hg he =>
      lowest g hg ((eligible_iff g).mp he).1 ((eligible_iff g).mp he).2
    rw [State.reclaimSlot, if_pos on, taken]
    simp only [Option.map_some, State.raise, flag_store]

/-! ## The marker step -/

/-- Settles O17. -/
theorem markerTakingRule : Obligations.MarkerTakingRule := by
  unfold Obligations.MarkerTakingRule
  intro s period tag st full hfull
  have full_eq : s.marks.fullEntries = full := hfull.symm
  refine ⟨fun none_full => ?_, fun some_full refused => ?_, fun some_full g granted => ?_⟩
  · rw [State.takeMarkers, full_eq, none_full]
    rfl
  · rw [State.takeMarkers, full_eq, if_neg (by simpa using some_full), refused]
  · obtain ⟨store, r, -, hg⟩ := slotRequest_frame granted
    have last : store.lastCustody = s.store.lastCustody := by
      have h := congrArg Store.lastCustody (slotRequest_store granted)
      rw [hg] at h
      exact h
    refine ⟨(g.markerRecord period tag st).chained g.marks.chain, ?_, ?_⟩
    · subst hg
      simp only [MarkerRecord.chained, State.markerRecord, State.nextCustody, last, full_eq]
      rfl
    · rw [State.takeMarkers, full_eq, if_neg (by simpa using some_full), granted]
      subst hg
      simp only [State.postMarkers, State.addTaking, State.raise, State.post, State.nextCustody, flag_marker, last,
        MarkerRecord.chained, State.markerRecord, full_eq]

/-! ## The end of a trim -/

/-- The mean of a trim's samples, halves upward (R121). -/
theorem trimResult_eq (k : TrimKind) (sum : Int) :
    trimResult k sum = match k with | .long => (sum + 1280) / 2560 | .short => (sum + 320) / 640 := by
  cases k <;> rfl

theorem trimDue_of_engine {e : Engine} (h : s.trim.engine = some e) (ended : e.remaining = 0) : s.trimDue = true := by
  simp [State.trimDue, h, ended]

theorem afterTrim_built (h : s.trim.mapBuilt = true) (p : Nat) (v : Conv) : s.afterTrim p v = s := by
  rw [State.afterTrim, if_pos h]

/-- Settles O19. -/
theorem trimEndResult : Obligations.TrimEndResult := by
  unfold Obligations.TrimEndResult
  intro s e m he ended built hm
  have result : trimResult e.kind e.sum = m := (trimResult_eq e.kind e.sum).trans hm.symm
  have done : exec .trimEnd s = .next (s.completeTrim s.cap.period) :=
    congrArg Host.Outcome.next (if_pos (trimDue_of_engine he ended))
  rw [done]
  rcases completeTrim_cases s s.cap.period with ⟨none_running, -⟩ | ⟨e', he', ⟨lo, hi, h⟩ | ⟨out, h⟩⟩
  · rw [he] at none_running
    cases none_running
  · obtain rfl : e = e' := Option.some.inj (he.symm.trans he')
    rw [result] at lo hi h
    refine ⟨fun _ _ => ?_, fun out => by omega⟩
    rw [h, afterTrim_built (by exact built)]
    rfl
  · obtain rfl : e = e' := Option.some.inj (he.symm.trans he')
    rw [result] at out
    refine ⟨fun lo hi => by omega, fun _ => ?_⟩
    rw [h, afterTrim_built (by exact built)]
    simp only [State.addConverter, State.raise, flag_converter]
    rfl

end Sys2Proof.Machine
end

section
/-! SUPPORT. What commands and events do to the link controller: the queues grow within their room, the lane and the
restarting phase stay (R167 to R170, R178). -/

namespace Sys2Proof.Machine

/-! ## The link controller's own law -/

/-- The part of the link's law that reads the link controller alone (R167, R169, R170, R178, R179). -/
def Link.Law (l : Link) : Prop :=
  l.cmdQueue.length ≤ 4 ∧ l.replyQueue.length ≤ 8 ∧ l.deferred.length ≤ 4 ∧
  (∀ x : Source, ∃ i : Fin 16, l.schedule.get i = x) ∧
  (l.lane.map LaneFrame.use = some .reply → ∃ r, l.replyQueue.head? = some (.reply r)) ∧
  (l.lane.map LaneFrame.use = some .reread → ∃ k, l.replyQueue.head? = some (.copy k)) ∧
  (l.lane.map LaneFrame.use = some .restartReply ↔ l.restart = .replyGoing) ∧
  (l.restart = .resetDue → l.lane = none)

/-- What leads from one link controller to another without a frame's start or end: at most `n` entries join the reply
queue, the other queues keep their sizes, and FLOOR's flag stands. -/
structure LinkStep (n : Nat) (a b : Link) : Prop where
  cmdQueue : a.cmdQueue.length ≤ 4 → b.cmdQueue.length ≤ 4
  replyQueue : ∃ l, l.length ≤ n ∧ b.replyQueue = a.replyQueue ++ l
  deferred : a.deferred.length ≤ 4 → b.deferred.length ≤ 4
  schedule : (∀ x : Source, ∃ i : Fin 16, a.schedule.get i = x) → ∀ x : Source, ∃ i : Fin 16, b.schedule.get i = x
  lane : b.lane = a.lane
  restart : b.restart = a.restart
  floor : flagSet b.raised .floor = flagSet a.raised .floor

theorem Link.Law.step {n : Nat} {a b : Link} (h : a.Law) (g : LinkStep n a b)
    (room : n = 0 ∨ a.replyQueue.length + n ≤ 8) : b.Law := by
  obtain ⟨cmd, reply, deferred, schedule, head, copy, going, due⟩ := h
  obtain ⟨l, hl, joined⟩ := g.replyQueue
  have kept {e : ReplyEntry} (he : a.replyQueue.head? = some e) : b.replyQueue.head? = some e := by
    rw [joined, List.head?_append, he]
    rfl
  refine ⟨g.cmdQueue cmd, ?_, g.deferred deferred, g.schedule schedule, ?_, ?_, ?_, ?_⟩
  · rw [joined, List.length_append]
    omega
  · rw [g.lane]
    exact fun hx => (head hx).imp fun _ => kept
  · rw [g.lane]
    exact fun hx => (copy hx).imp fun _ => kept
  · rw [g.lane, g.restart]
    exact going
  · rw [g.lane, g.restart]
    exact due

namespace LinkStep

variable {m n : Nat} {a b c : Link}

theorem refl (a : Link) : LinkStep 0 a a where
  cmdQueue := id
  replyQueue := ⟨[], le_rfl, (List.append_nil _).symm⟩
  deferred := id
  schedule := id
  lane := rfl
  restart := rfl
  floor := rfl

theorem trans (h : LinkStep m a b) (g : LinkStep n b c) : LinkStep (m + n) a c where
  cmdQueue := g.cmdQueue ∘ h.cmdQueue
  replyQueue := by
    obtain ⟨l, hl, e⟩ := h.replyQueue
    obtain ⟨l', hl', e'⟩ := g.replyQueue
    exact ⟨l ++ l', by rw [List.length_append]; omega, by rw [e', e, List.append_assoc]⟩
  deferred := g.deferred ∘ h.deferred
  schedule := g.schedule ∘ h.schedule
  lane := g.lane.trans h.lane
  restart := g.restart.trans h.restart
  floor := g.floor.trans h.floor

/-- One step without an entry before another. -/
theorem after (h : LinkStep 0 a b) (g : LinkStep n b c) : LinkStep n a c := Nat.zero_add n ▸ h.trans g

theorem mono (h : LinkStep m a b) (le : m ≤ n) : LinkStep n a b :=
  { h with replyQueue := h.replyQueue.imp fun _ hl => ⟨hl.1.trans le, hl.2⟩ }

theorem same_queue (h : LinkStep 0 a b) : b.replyQueue = a.replyQueue := by
  obtain ⟨l, hl, e⟩ := h.replyQueue
  rw [e, List.length_eq_zero_iff.mp (Nat.le_zero.mp hl), List.append_nil]

variable {s t : State}

theorem raise (s : State) {k : NoticeKind} (hk : k ≠ .floor) : LinkStep 0 s.link (s.raise k).link :=
  { refl s.link with floor := by simp [hk.symm] }

theorem enqueue (s : State) (e : ReplyEntry) : LinkStep 1 s.link (s.enqueue e).link :=
  { refl s.link with replyQueue := ⟨[e], le_rfl, rfl⟩ }

theorem reply (s : State) (f : Command) (r : Result) (data : List Byte) : LinkStep 1 s.link (s.reply f r data).link :=
  enqueue s _

/-- A reply after a change that leaves the link controller alone. -/
theorem replied (h : t.link = s.link) (f : Command) (r : Result) (data : List Byte) :
    LinkStep 1 s.link (t.reply f r data).link := h ▸ reply t f r data

theorem answerTaken (s : State) (f : Command) (o : Bool) (q : Request) (data : List Byte) :
    LinkStep 1 s.link (s.answerTaken f o q data).link := by
  rcases answerTaken_cases s f o q data with ⟨-, free, h⟩ | ⟨-, h⟩ <;> rw [h]
  · exact { (refl s.link).mono zero_le_one with
      deferred := fun _ => by simpa [Config.deferredMax] using Nat.succ_le_of_lt free }
  · exact reply s f _ _

/-- The same after a change that leaves the link controller alone. -/
theorem answered (h : t.link = s.link) (f : Command) (o : Bool) (q : Request) (data : List Byte) :
    LinkStep 1 s.link (t.answerTaken f o q data).link := h ▸ answerTaken t f o q data

theorem supersede (s : State) (p : Deferred → Bool) (data : Deferred → List Byte) :
    LinkStep (s.link.deferred.filter fun e => e.waiting && p e).length s.link (s.supersede p data).link :=
  { refl s.link with
    replyQueue := ⟨_, (List.length_map _).le, rfl⟩
    deferred := fun h => (List.length_filter_le _ _).trans h }

theorem count (s : State) (k : CounterName) : LinkStep 0 s.link (s.count k).link := by
  unfold State.count
  split_ifs
  · exact { refl s.link with floor := (raise s (k := .link) (by decide)).floor }
  · exact refl s.link

theorem setFree (s : State) (n : Nat) : LinkStep 0 s.link (s.setFree n).link := by
  rcases setFree_cases s n with h | h <;> rw [h]
  · exact refl s.link
  · exact raise s (k := .store) (by decide)

theorem freed (h : t.link = s.link) (n : Nat) : LinkStep 0 s.link (t.setFree n).link := h ▸ setFree t n

end LinkStep

/-! ## The timebase's events -/

/-- What the timebase's events keep: the queues of the link, and the size of the TIME event list (R152). -/
structure TimeStep (s t : State) : Prop where
  link : LinkStep 0 s.link t.link
  events : s.time.events.length ≤ 8 → t.time.events.length ≤ 8

namespace TimeStep

variable {s t u : State}

theorem trans (h : TimeStep s t) (g : TimeStep t u) : TimeStep s u :=
  ⟨h.link.after g.link, g.events ∘ h.events⟩

theorem same (link : t.link = s.link) (events : t.time.events = s.time.events) : TimeStep s t :=
  ⟨link ▸ .refl _, fun h => by rwa [events]⟩

theorem listed (h : TimeStep s t) (e : TimeEntry) : TimeStep s (t.addTime e) :=
  h.trans ⟨.raise t (k := .time) (by decide), fun h => pushListed_length h _ _⟩

theorem timeState (h : TimeStep s t) (k : TimeCause) (b a : Discipline) : TimeStep s (t.timeState k b a) := h.listed _

theorem timeStep (h : TimeStep s t) (k : TimeCause) (size : Int) : TimeStep s (t.timeStep k size) := h.listed _

theorem openingPulse (s : State) (frac : BitVec 8) (m : HeldMessage) : TimeStep s (s.openingPulse frac m) := by
  simp only [State.openingPulse]
  split
  · exact .same rfl rfl
  · refine .timeState ?_ _ _ _; exact .same rfl rfl

theorem measuredPulse (s : State) (frac : BitVec 8) (m : HeldMessage) (n : Int) :
    TimeStep s (s.measuredPulse frac m n) := by
  simp only [State.measuredPulse]
  split
  · split
    · refine .timeStep ?_ _ _; exact .same rfl rfl
    · refine .timeStep (.timeState ?_ _ _ _) _ _; exact .same rfl rfl
  · split
    · exact .same rfl rfl
    · refine .timeState ?_ _ _ _; exact .same rfl rfl

theorem pulse (s : State) (frac : BitVec 8) : TimeStep s (s.pulse frac) := by
  simp only [State.pulse]
  have consumed : TimeStep s { s with time := { s.time with held := none } } := .same rfl rfl
  split
  · exact .same rfl rfl
  · exact consumed.trans (openingPulse _ frac _)
  · split
    · exact consumed.trans (measuredPulse _ frac _ _)
    · exact .same rfl rfl

end TimeStep

theorem setTime_step (s : State) (day instant : Nat) : TimeStep s (s.setTime day instant) := by
  refine .timeStep ?_ _ _
  exact .same rfl rfl

theorem losePulse_step (s : State) : TimeStep s s.losePulse := by
  refine .timeState ?_ _ _ _
  exact .same rfl rfl

theorem endHoldover_step (s : State) : TimeStep s s.endHoldover := by
  refine .timeState ?_ _ _ _
  exact .same rfl rfl

/-! ## The receiver and the deferred replies -/

/-- Entries join the reply queue within its room. -/
def Served (a b : Link) : Prop := ∃ n, LinkStep n a b ∧ (n = 0 ∨ a.replyQueue.length + n ≤ 8)

theorem LinkStep.served {a b : Link} (h : LinkStep 0 a b) : Served a b := ⟨0, h, .inl rfl⟩

theorem LinkStep.served_in {s : State} {n : Nat} {b : Link} (h : LinkStep n s.link b) (room : s.room n = true) :
    Served s.link b := ⟨n, h, .inr (by simpa [State.room] using room)⟩

theorem Served.after {a b c : Link} (h : LinkStep 0 a b) (g : Served b c) : Served a c := by
  obtain ⟨n, g, room⟩ := g
  exact ⟨n, h.after g, by rwa [h.same_queue] at room⟩

theorem Link.Law.served {a b : Link} (h : a.Law) (g : Served a b) : b.Law := by
  obtain ⟨n, g, room⟩ := g
  exact h.step g room

theorem Served.floor {a b : Link} (g : Served a b) : flagSet b.raised .floor = flagSet a.raised .floor := by
  obtain ⟨n, g, -⟩ := g
  exact g.floor

theorem moveDeferred_served (s : State) : Served s.link s.moveDeferred.link := by
  unfold State.moveDeferred
  split
  · exact (LinkStep.refl _).served
  · next p hp =>
    split
    · next room =>
      refine LinkStep.served_in (n := 1) ?_ room
      obtain ⟨a, e, b, split, -, -, rest⟩ := takeAnswered_some (show takeAnswered s.link.deferred = some (p.1, p.2) from hp)
      exact { LinkStep.enqueue s (.reply p.1) with
        deferred := fun h => by
          simp only [State.enqueue, rest]
          rw [split] at h
          simp only [List.length_append, List.length_cons] at h ⊢
          omega }
    · exact (LinkStep.refl _).served

theorem acceptFrame_served (s : State) (kind tag : Byte) (payload : List Byte) (check : Byte) :
    Served s.link (s.acceptFrame kind tag payload check).link := by
  unfold State.acceptFrame
  split
  · exact (LinkStep.count s _).served
  · split
    · exact (LinkStep.count s _).served
    · unfold State.offer
      split
      · next free =>
        exact LinkStep.served { LinkStep.refl s.link with
          cmdQueue := fun _ => by simpa [Config.cmdQueueMax] using Nat.succ_le_of_lt free }
      · simp only [State.busyReply]
        refine Served.after (LinkStep.count s .busy) ?_
        split
        · next room => exact LinkStep.served_in (LinkStep.reply _ _ _ _) room
        · exact (LinkStep.count _ _).served

/-! ## The command engine -/

theorem LinkStep.pop (s : State) : LinkStep 0 s.link s.popCommand.link :=
  { LinkStep.refl s.link with cmdQueue := fun h => (by simp [State.popCommand]; omega) }

/-- A body that keeps to the room it asks for keeps the queues in their sizes (R168). -/
theorem runCommand_served {need : Command → State → Nat} {fits : Command → Bool} {body : Command → State → State}
    (hb : ∀ f s, fits f = true → LinkStep (need f s) s.link (body f s).link)
    (popped : ∀ f s, need f s.popCommand = need f s) (own : ∀ f s, 1 ≤ need f s) (code : Byte) (s : State) :
    Served s.link (runCommand code need fits body s).link := by
  rcases runCommand_cases code need fits body s with e | ⟨f, rest, -, -, -, room, ⟨hf, e⟩ | ⟨-, e⟩⟩ <;> rw [e]
  · exact (LinkStep.refl _).served
  · refine LinkStep.served_in ((LinkStep.pop s).after ?_) room
    have h := hb f s.popCommand hf
    rwa [popped] at h
  · exact LinkStep.served_in ((LinkStep.pop s).after ((LinkStep.reply _ f _ _).mono (own f s))) room

/-- The same for a body that needs no more than its own reply's entry. -/
theorem runCommand_served_one {fits : Command → Bool} {body : Command → State → State}
    (hb : ∀ f s, LinkStep 1 s.link (body f s).link) (code : Byte) (s : State) :
    Served s.link (runCommand code ownReply fits body s).link :=
  runCommand_served (fun f s _ => hb f s) (fun _ _ => rfl) (fun _ _ => le_rfl) code s

section
variable (f : Command) (s : State)

theorem linkStatusBody_link : LinkStep 1 s.link (linkStatusBody f s).link := by
  unfold linkStatusBody
  split
  · exact .reply s f _ _
  · simp only []
    split
    · exact { LinkStep.reply s f .ok s.linkStatus with }
    · exact .reply s f _ _

theorem noticeMaskBody_link : LinkStep 1 s.link (noticeMaskBody f s).link :=
  { LinkStep.reply s f .ok [] with replyQueue := ⟨[_], le_rfl, rfl⟩ }

theorem laneScheduleBody_link : LinkStep 1 s.link (laneScheduleBody f s).link := by
  unfold laneScheduleBody
  split
  · exact .reply s f _ _
  · next v hv =>
    exact { LinkStep.reply s f .ok [] with
      replyQueue := ⟨[_], le_rfl, rfl⟩
      schedule := fun _ => (newSchedule_some hv).2 }

theorem getChannelBody_link : LinkStep 1 s.link (getChannelBody f s).link := by
  unfold getChannelBody
  split <;> exact .reply s f _ _

theorem loadPatternBody_link : LinkStep 1 s.link (loadPatternBody f s).link := by
  unfold loadPatternBody
  split
  · exact .replied rfl f _ _
  · exact .reply s f _ _

theorem storePolicyBody_link : LinkStep 1 s.link (storePolicyBody f s).link := by
  unfold storePolicyBody
  split
  · exact .reply s f _ _
  · split
    · exact .reply s f _ _
    · refine LinkStep.after (b := (s.setPolicy _ _ _).link) ?_ (.reply _ f _ _)
      simp only [State.setPolicy]
      split
      · exact .refl _
      · exact .raise _ (k := .store) (by decide)

theorem streamControlBody_link : LinkStep 1 s.link (streamControlBody f s).link := by
  unfold streamControlBody
  split
  · exact .reply s f _ _
  · split
    · exact .reply s f _ _
    · exact .replied rfl f _ _

theorem releaseBody_link : LinkStep 1 s.link (releaseBody f s).link := by
  simp only [releaseBody]
  split
  · exact .reply s f _ _
  · refine LinkStep.after (b := (s.releaseTo (f.num 1 4)).link) ?_ (.reply _ f _ _)
    rw [State.releaseTo]
    refine .freed ?_ _
    rfl

theorem readHeldBody_link : LinkStep 2 s.link (readHeldBody f s).link := by
  unfold readHeldBody
  split
  · exact LinkStep.trans (b := (s.enqueue _).link) (.enqueue s _) (.reply (s.enqueue _) f _ _)
  · exact (LinkStep.reply s f _ _).mono (by decide)

theorem putMarkerBody_link : LinkStep 1 s.link (putMarkerBody f s).link := by
  unfold putMarkerBody
  split
  · exact .reply s f _ _
  · split
    · exact .reply s f _ _
    · split
      · exact .reply s f _ _
      · exact .replied rfl f _ _

theorem floorConfigBody_link : LinkStep 1 s.link (floorConfigBody f s).link := by
  unfold floorConfigBody
  split
  · exact .reply s f _ _
  · exact .replied rfl f _ _

theorem trimConfigBody_link : LinkStep 1 s.link (trimConfigBody f s).link := by
  unfold trimConfigBody
  split
  · exact .reply s f _ _
  · exact .replied rfl f _ _

theorem trimNowBody_link : LinkStep 1 s.link (trimNowBody f s).link := by
  unfold trimNowBody
  split
  · exact .reply s f _ _
  · split
    · split
      · exact .reply s f _ _
      · split
        · exact .reply s f _ _
        · exact .replied rfl f _ _
    · split
      · exact .reply s f _ _
      · exact .replied rfl f _ _
    all_goals exact .reply s f _ _

theorem converterRestoreBody_link : LinkStep 1 s.link (converterRestoreBody f s).link := by
  unfold converterRestoreBody
  split
  · exact .reply s f _ _
  · split
    · exact .reply s f _ _
    · split
      · exact .reply s f _ _
      · exact .replied rfl f _ _

theorem feedConfigBody_link : LinkStep 1 s.link (feedConfigBody f s).link := by
  unfold feedConfigBody
  split
  · exact .reply s f _ _
  · exact .replied rfl f _ _

theorem setTimeBody_link : LinkStep 1 s.link (setTimeBody f s).link := by
  simp only [setTimeBody]
  split
  · exact .reply s f _ _
  · split
    · exact .reply s f _ _
    · exact .reply s f _ _
    · exact (setTime_step s _ _).link.after (.reply _ f _ _)
    · exact (setTime_step s _ _).link.after (.reply _ f _ _)

theorem setChannelBody_link : LinkStep 1 s.link (setChannelBody f s).link := by
  unfold setChannelBody
  split
  · exact .reply s f _ _
  · split <;> rw [(mapChans_changes s _).choose_spec]
    · refine .answered ?_ f _ _ _
      rfl
    · exact .replied rfl f _ _

theorem closeCaptureBody_link : LinkStep (closeNeed f s) s.link (closeCaptureBody f s).link := by
  have own : 1 ≤ closeNeed f s := Nat.le_add_right _ _
  unfold closeCaptureBody
  split
  · exact (LinkStep.reply s f _ _).mono own
  · split
    · exact (LinkStep.reply s f _ _).mono own
    · refine LinkStep.mono (LinkStep.trans (.supersede s Deferred.isClose fun _ => []) ?_) (Nat.add_comm _ _).le
      refine .answered ?_ f _ _ _
      rfl

theorem routePatternBody_link (fits : lengthIs 6 f = true) :
    LinkStep (routeNeed f s) s.link (routePatternBody f s).link := by
  have own := one_le_routeNeed s f
  unfold routePatternBody
  split
  · exact (LinkStep.reply s f _ _).mono own
  · next r o checked =>
    split
    · rw [(mapChans_changes s _).choose_spec]
      exact (LinkStep.replied rfl f _ _).mono own
    · next running =>
      have running : s.capturing = true := by simpa using running
      split
      · exact (LinkStep.reply s f _ _).mono own
      · next record =>
        have need : routeNeed f s =
            1 + (s.link.deferred.filter fun e => e.waiting && (s.placeRoutes f r).routeGone e).length := by
          simp [routeNeed, fits, checked, running, record]
        have superseded := LinkStep.supersede (s.placeRoutes f r) (s.placeRoutes f r).routeGone fun _ => []
        rw [placeRoutes_link] at superseded
        rw [need]
        exact (superseded.trans (.answerTaken _ f _ _ _)).mono (Nat.add_comm _ _).le

theorem setProceedingBody_link (fits : lengthIs 3 f = true) :
    LinkStep (proceedingNeed f s) s.link (setProceedingBody f s).link := by
  have own := one_le_proceedingNeed s f
  unfold setProceedingBody
  split
  · exact (LinkStep.reply s f _ _).mono own
  · next p o checked =>
    split
    · exact (LinkStep.reply s f _ _).mono own
    · next running =>
      have running : s.capturing = true := by simpa using running
      split
      · next held =>
        have need : proceedingNeed f s =
            1 + (s.link.deferred.filter fun e => e.waiting && e.isProceeding).length := by
          simp [proceedingNeed, fits, checked, running, held]
        rw [need]
        exact ((LinkStep.supersede s.cancelProceeding _ _).trans (.reply _ f _ _)).mono (Nat.add_comm _ _).le
      · next other =>
        split
        · next allowed =>
          have need : proceedingNeed f s = 1 + (s.link.deferred.filter fun e =>
              e.waiting && (s.placeProceeding p).overtaken e).length := by
            simp [proceedingNeed, fits, checked, running, other, allowed]
          have superseded := LinkStep.supersede (s.placeProceeding p) (s.placeProceeding p).overtaken
            (s.placeProceeding p).supersededData
          rw [placeProceeding_link] at superseded
          rw [need]
          exact (superseded.trans (.answerTaken _ f _ _ _)).mono (Nat.add_comm _ _).le
        · exact (LinkStep.reply s f _ _).mono own

theorem openCaptureBody_link : LinkStep 1 s.link (openCaptureBody f s).link := by
  unfold openCaptureBody
  split_ifs
  · exact .reply s f _ _
  · exact .reply s f _ _
  · exact .reply s f _ _
  · have g := open_frame s
    generalize s.openCapture = t at g ⊢
    have opened : LinkStep 0 s.link t.link := by
      have flag := g.flags.same (k := .floor) (by decide)
      rw [g.link]
      exact { LinkStep.refl s.link with floor := flag }
    exact opened.after (.reply t f _ _)

end

theorem routeNeed_popped (f : Command) (s : State) : routeNeed f s.popCommand = routeNeed f s := by
  have gone (r : Route) : (s.popCommand.placeRoutes f r).routeGone = (s.placeRoutes f r).routeGone :=
    (congrArg State.routeGone (placeRoutes_popped s f r s.link.cmdQueue.tail)).trans (routeGone_withLink _ _)
  have running : s.popCommand.capturing = s.capturing := rfl
  have record : s.popCommand.recordState = s.recordState := rfl
  simp only [routeNeed, gone, running, record, State.popCommand_link_deferred]

theorem proceedingNeed_popped (f : Command) (s : State) : proceedingNeed f s.popCommand = proceedingNeed f s := by
  have overtaken (p : Proceeding) : (s.popCommand.placeProceeding p).overtaken = (s.placeProceeding p).overtaken := by
    rw [placeProceeding_popCommand]
    rfl
  have running : s.popCommand.capturing = s.capturing := rfl
  simp only [proceedingNeed, overtaken, running, State.popCommand_link_deferred, State.popCommand_cap]

end Sys2Proof.Machine
end

section
/-! SUPPORT. Every step keeps the link's law and the ranges of the settings (R32, R41, R46, R78, R115, R125, R134, R152,
R158, R167, R169, R170, R178, R179). -/

namespace Sys2Proof.Machine

/-! ## The blocks' bounds -/

/-- The sizes of the notice lists and the ranges of the settings, block by block. -/
def Capture.Bounded (k : Capture) : Prop := k.changes.length ≤ 8
def Store.Bounded (st : Store) : Prop := st.reclaimList.length ≤ 32 ∧ st.keep ≤ st.shed ∧ st.shed ≤ 65535
def Stream.Bounded (u : Stream) : Prop := 1 ≤ u.threshold ∧ u.threshold ≤ 256 ∧ u.wait ≤ 1000
def Markers.Bounded (m : Markers) : Prop := m.takings.length ≤ 8
def TrimUnit.Bounded (x : TrimUnit) : Prop :=
  x.events.length ≤ 8 ∧ x.interval ≤ 3600 ∧ 1 ≤ x.limit ∧ x.limit ≤ 65535
def Timebase.Bounded (t : Timebase) : Prop := t.events.length ≤ 8
def Feed.Bounded (f : Feed) : Prop := f.multiplier ≤ 65535 ∧ (∀ k ∈ f.masking, k ≤ 15) ∧ f.noise ≠ 0#16

/-- Every block within its bounds. -/
structure Bounded (s : State) : Prop where
  cap : s.cap.Bounded
  store : s.store.Bounded
  stream : s.stream.Bounded
  marks : s.marks.Bounded
  trim : s.trim.Bounded
  time : s.time.Bounded
  feed : s.feed.Bounded

theorem linkLaw_configLaw_iff (s : State) : s.LinkLaw ∧ s.ConfigLaw ↔ s.link.Law ∧ Bounded s := by
  constructor
  · rintro ⟨⟨cmd, reply, deferred, changes, takings, events, times, reclaimed, lane⟩, keep, shed, low, high, wait, interval,
      limit, limit', feed⟩
    exact ⟨⟨cmd, reply, deferred, lane⟩, changes, ⟨reclaimed, keep, shed⟩, ⟨low, high, wait⟩, takings,
      ⟨events, interval, limit, limit'⟩, times, feed⟩
  · rintro ⟨⟨cmd, reply, deferred, lane⟩, changes, ⟨reclaimed, keep, shed⟩, ⟨low, high, wait⟩, takings,
      ⟨events, interval, limit, limit'⟩, times, feed⟩
    exact ⟨⟨cmd, reply, deferred, changes, takings, events, times, reclaimed, lane⟩, keep, shed, low, high, wait, interval,
      limit, limit', feed⟩

/-- What leads from one state to another and keeps every block within its bounds. -/
structure BoundStep (s t : State) : Prop where
  cap : s.cap.Bounded → t.cap.Bounded
  store : s.store.Bounded → t.store.Bounded
  stream : s.stream.Bounded → t.stream.Bounded
  marks : s.marks.Bounded → t.marks.Bounded
  trim : s.trim.Bounded → t.trim.Bounded
  time : s.time.Bounded → t.time.Bounded
  feed : s.feed.Bounded → t.feed.Bounded

theorem Bounded.step {s t : State} (h : Bounded s) (g : BoundStep s t) : Bounded t :=
  ⟨g.cap h.cap, g.store h.store, g.stream h.stream, g.marks h.marks, g.trim h.trim, g.time h.time, g.feed h.feed⟩

theorem noiseNext_ne_zero {r : BitVec 16} (h : r ≠ 0#16) : noiseNext r ≠ 0#16 := by
  unfold noiseNext
  split_ifs with low
  · intro zero
    have top := congrArg (fun x : BitVec 16 => x.getLsbD 15) zero
    simp at top
  · intro zero
    refine h (BitVec.eq_of_toNat_eq ?_)
    have half := congrArg BitVec.toNat zero
    have bit : r.toNat % 2 ≠ 1 := by simpa [BitVec.getLsbD, Nat.testBit_zero] using low
    simp only [BitVec.toNat_ushiftRight, BitVec.toNat_ofNat, Nat.shiftRight_eq_div_pow] at half ⊢
    omega

theorem readMasking_le {n : Nat} {m : Option Nat} (h : readMasking n = some m) : ∀ k ∈ m, k ≤ 15 := by
  unfold readMasking at h
  split_ifs at h <;> cases h
  · rintro _ ⟨⟩
    omega
  · nofun

namespace BoundStep

variable {s t u : State}

theorem refl (s : State) : BoundStep s s := ⟨id, id, id, id, id, id, id⟩

theorem trans (h : BoundStep s t) (g : BoundStep t u) : BoundStep s u :=
  ⟨g.cap ∘ h.cap, g.store ∘ h.store, g.stream ∘ h.stream, g.marks ∘ h.marks, g.trim ∘ h.trim, g.time ∘ h.time,
    g.feed ∘ h.feed⟩

theorem foldl {α : Type} {f : State → α → State} (h : ∀ s x, BoundStep s (f s x)) (l : List α) (s : State) :
    BoundStep s (l.foldl f s) :=
  foldl_keeps (P := BoundStep s) (fun t x ht => ht.trans (h t x)) l (refl s)

/-- Only the channels, the floor unit and the link change. -/
theorem same (h : ∃ ch fl l, t = { s with chans := ch, floor := fl, link := l }) : BoundStep s t := by
  obtain ⟨ch, fl, l, rfl⟩ := h
  exact { refl s with }

theorem mapChans (s : State) (g : Chan → Channel → Channel) : BoundStep s (s.mapChans g) := by
  rw [(mapChans_changes s g).choose_spec]
  exact .same ⟨_, _, _, rfl⟩

theorem trimWork (g : TrimFrame s t) : BoundStep s t where
  cap := by rw [g.cap]; exact id
  store := by rw [g.store]; exact id
  stream := by rw [g.stream]; exact id
  marks := by rw [g.marks]; exact id
  trim := by
    have fixed := g.fixed
    simp only [TrimUnit.fixed, Prod.mk.injEq] at fixed
    rintro ⟨events, interval, limit, limit'⟩
    exact ⟨g.events events, fixed.1 ▸ interval, fixed.2.1 ▸ limit, fixed.2.1 ▸ limit'⟩
  time := by rw [g.time]; exact id
  feed := by rw [g.feed]; exact id

theorem setFree (s : State) (n : Nat) : BoundStep s (s.setFree n) := by
  rw [(setFree_changes s n).choose_spec]
  exact { refl s with }

theorem slotRequest {k : Class} (h : s.slotRequest k = some t) : BoundStep s t := by
  rcases slotRequest_some h with ⟨-, rfl⟩ | ⟨-, -, h⟩
  · exact setFree s _
  · obtain ⟨a, x, b, -, -, -, -, rfl⟩ := reclaimSlot_some h
    refine { refl s with store := ?_ }
    rintro ⟨list, policy⟩
    refine ⟨?_, policy⟩
    simp only [State.raise_store]
    split_ifs with short
    · simpa using short
    · exact list

theorem takeMarkers (s : State) (period : Nat) (tag : Tag) (st : Stamp) : BoundStep s (s.takeMarkers period tag st) := by
  unfold State.takeMarkers
  split
  · exact refl s
  · split
    · next t ht =>
      refine (slotRequest ht).trans { refl t with marks := fun h => ?_ }
      exact pushListed_length h _ _
    · exact { refl s with }

theorem requestSlot (s : State) (c : Chan) : BoundStep s (State.requestSlot s c) := by
  rcases requestSlot_cases s c with ⟨t, ht, h⟩ | ⟨-, h⟩ <;> rw [h]
  · exact (slotRequest ht).trans { refl t with }
  · split
    · exact { refl s with }
    · exact { refl s with }

theorem allocate (s : State) : BoundStep s s.allocate := foldl requestSlot _ s

theorem floorDecision (s : State) : BoundStep s s.floorDecision := by
  obtain ⟨fl, r, -, h⟩ := floorDecision_frame s
  exact .same ⟨_, _, _, h⟩

theorem postChannel (before s : State) (c : Chan) : BoundStep s (State.postChannel before s c) := by
  rcases postChannel_cases before s c with ⟨-, h⟩ | ⟨l, r, -, -, h⟩ <;> rw [h]
  · exact { refl s with }
  · exact { refl s with }

theorem postBlocks (before s : State) : BoundStep s (s.postBlocks before) := foldl (postChannel before) _ s

theorem commitSettings (s : State) : BoundStep s s.commitSettings := by
  rw [State.commitSettings]
  exact (trimWork (.mapConvs s _)).trans (mapChans _ _)

theorem commit (s : State) : BoundStep s s.commit := by
  have g := commit_result s
  have k := commitSettings s
  exact {
    cap := by
      rw [g.cap, commitProceeding_cap]
      intro h
      simp only [Capture.Bounded]
      split
      · exact h
      · exact pushListed_length h _ _
    store := by rw [g.store]; exact id
    stream := by rw [g.stream]; exact id
    marks := by rw [g.marks]; exact id
    trim := by rw [g.trim]; exact k.trim
    time := by rw [g.time]; exact id
    feed := by rw [g.feed]; exact id }

theorem ended (s : State) : BoundStep s s.ended := by
  rw [State.ended, State.clearMarks, State.completeBlocks]
  exact ((mapChans s _).trans (mapChans _ _)).trans ((trimWork (.trimBoundaryWork _ _ _)).trans (postBlocks s _))

/-- The lists and settings are the same, block by block. -/
theorem of_eq (cap : t.cap.changes = s.cap.changes) (store : t.store = s.store) (stream : t.stream = s.stream)
    (marks : t.marks = s.marks) (trim : t.trim.events = s.trim.events ∧ t.trim.fixed = s.trim.fixed)
    (time : t.time.events = s.time.events) (feed : t.feed = s.feed) : BoundStep s t where
  cap := by unfold Capture.Bounded; rw [cap]; exact id
  store := by rw [store]; exact id
  stream := by rw [stream]; exact id
  marks := by rw [marks]; exact id
  trim := by
    obtain ⟨events, fixed⟩ := trim
    simp only [TrimUnit.fixed, Prod.mk.injEq] at fixed
    obtain ⟨interval, limit, -⟩ := fixed
    unfold TrimUnit.Bounded
    rw [events, interval, limit]
    exact id
  time := by unfold Timebase.Bounded; rw [time]; exact id
  feed := by rw [feed]; exact id

theorem periodBoundary (s : State) : BoundStep s s.periodBoundary := by
  have ended := ended s
  have renumbered : BoundStep s s.renumbered := by
    simp only [State.renumbered]
    generalize s.ended = u at ended ⊢
    exact ended.trans { refl u with }
  have commits : s.committed = s.renumbered.commit := by simp only [State.committed, State.renumbered, State.ended]
  have committed : BoundStep s s.committed := commits ▸ renumbered.trans (commit s.renumbered)
  rw [periodBoundary_eq]
  generalize s.committed = u at committed ⊢
  have opened := ((takeMarkers u u.cap.period (markerTag u.cap.proceeding) u.stampNow).trans (allocate _)).trans
    (floorDecision _)
  simp only []
  generalize (u.takeMarkers u.cap.period (markerTag u.cap.proceeding) u.stampNow).allocate.floorDecision = v at opened ⊢
  exact (committed.trans opened).trans { refl v with }

theorem closed (s : State) : BoundStep s s.closed := by
  have ended : BoundStep s s.endedFinally := by
    rw [State.endedFinally, State.completeBlocks]
    exact (mapChans s _).trans ((trimWork (.trimFinalWork _)).trans (postBlocks s _))
  have g := closed_result s
  exact ended.trans (of_eq (by rw [g.cap]) g.store g.stream g.marks
    ⟨by rw [g.trim], by rw [g.trim]; simp only [TrimUnit.fixed]⟩ (by rw [g.time]) g.feed)

theorem finalBoundary (s : State) : BoundStep s s.finalBoundary := by
  have marked : BoundStep s s.closedMarked := (closed s).trans (takeMarkers _ _ _ _)
  rw [finalBoundary_eq, toStandby_eq]
  generalize s.closedMarked = u at marked ⊢
  generalize (u.toStandby s.endReason s.endCause).chans = ch
  exact marked.trans { refl u with cap := fun h => pushListed_length h _ _ }

theorem openState (s : State) : BoundStep s s.openState := by
  have cap := cap_openState s
  obtain ⟨k, ch, m, fl, x, h⟩ : ∃ k ch fl, ∃ m x, s.openState = { s with
      cap := k, chans := ch, marks := { s.marks with sequence := 0, chain := m }, floor := fl
      time := { s.time with stepMark := x }
      link := { s.link with raised := s.link.raised ||| NoticeKind.proceeding.flag } } := by
    simp only [State.openState]
    rw [(mapChans_changes _ _).choose_spec]
    exact ⟨_, _, _, _, _, rfl⟩
  have changes : s.cap.Bounded → s.openState.cap.Bounded := fun hs => by
    rw [cap]
    exact pushListed_length hs _ _
  rw [h] at changes ⊢
  exact { refl s with cap := changes }

theorem openCapture (s : State) : BoundStep s s.openCapture := by
  simp only [State.openCapture]
  exact (openState s).trans ((trimWork (.trimOpenWork _)).trans ((takeMarkers _ _ _ _).trans (allocate _)))

theorem tick (s : State) (raw : Vector Raw 26) : BoundStep s (s.tick raw) := by
  have cap : (s.tick raw).cap.changes = s.cap.changes := by rw [cap_tick]
  have events : (s.tick raw).time.events = s.time.events := by rw [time_tick]; rfl
  have converterEvents : (s.tick raw).trim.events = s.trim.events := by rw [trim_tick, tickTrim_trim]
  have interval : (s.tick raw).trim.interval = s.trim.interval := by rw [trim_tick, tickTrim_trim]
  have limit : (s.tick raw).trim.limit = s.trim.limit := by rw [trim_tick, tickTrim_trim]
  obtain ⟨k, ch, x, y, h⟩ := tick_eq s raw
  rw [h] at cap events converterEvents interval limit ⊢
  exact { refl s with
    cap := by unfold Capture.Bounded; rw [cap]; exact id
    trim := by unfold TrimUnit.Bounded; rw [converterEvents, interval, limit]; exact id
    time := by unfold Timebase.Bounded; rw [events]; exact id
    feed := fun ⟨multiplier, masking, noise⟩ => ⟨multiplier, masking, noiseNext_ne_zero noise⟩ }

theorem scanned (g : ScanFrame s t) : BoundStep s t where
  cap := g.changes.trans
  store := by
    rintro ⟨list, policy⟩
    refine ⟨g.reclaimList.trans list, ?_⟩
    rw [g.store]
    exact policy
  stream := by rw [g.stream]; exact id
  marks := g.takings.trans
  trim := by
    rintro ⟨events, settings⟩
    refine ⟨g.converterEvents.trans events, ?_⟩
    rw [g.trim]
    exact settings
  time := g.timeEvents.trans
  feed := by rw [g.feed]; exact id

theorem captureReset (s : State) : BoundStep s s.captureReset := by
  have trim := trim_trimRestarted s
  rw [captureReset_eq]
  generalize s.captureReset.chans = ch
  generalize s.trimRestarted.trim = x at trim ⊢
  have interval : x.interval = s.trim.interval := by rw [trim]
  have limit : x.limit = s.trim.limit := by rw [trim]
  have events : x.events = [] := by rw [trim]
  exact {
    cap := fun _ => Nat.zero_le _
    store := fun ⟨_, policy⟩ => ⟨Nat.zero_le _, policy⟩
    stream := id
    marks := fun _ => Nat.zero_le _
    trim := fun ⟨_, settings⟩ => ⟨by rw [events]; exact Nat.zero_le _, by rw [interval, limit]; exact settings⟩
    time := fun _ => Nat.zero_le _
    feed := id }

end BoundStep

theorem bounded_reset : Bounded State.reset where
  cap := Nat.zero_le _
  store := ⟨Nat.zero_le _, by decide, by decide⟩
  stream := by unfold Stream.Bounded; decide
  marks := Nat.zero_le _
  trim := ⟨Nat.zero_le _, by decide, by decide, by decide⟩
  time := Nat.zero_le _
  feed := ⟨by decide, fun _ hk => by cases hk; decide, by decide⟩

/-! ## The commands -/

namespace BoundStep

/-- The command engine keeps the bounds its body keeps. -/
theorem runCommand {body : Command → State → State} (hb : ∀ f s, BoundStep s (body f s)) (code : Byte)
    (need : Command → State → Nat) (fits : Command → Bool) (s : State) :
    BoundStep s (runCommand code need fits body s) :=
  runCommand_keeps (P := BoundStep s) code need fits (fun t _ h => h.trans { refl t with })
    (fun f t h => h.trans (hb f t)) (refl s)

variable (f : Command) (s : State)

theorem reply (r : Result) (data : List Byte) : BoundStep s (s.reply f r data) := { refl s with }

theorem storePolicyBody : BoundStep s (storePolicyBody f s) := by
  unfold Machine.storePolicyBody
  split
  · exact reply f s _ _
  · split
    · exact reply f s _ _
    · next ordered =>
      have shed := f.num_lt 1 2
      have set (l : List Nat) (h : l.length ≤ 32) : l.length ≤ 32 ∧ f.num 3 2 ≤ f.num 1 2 ∧ f.num 1 2 ≤ 65535 :=
        ⟨h, by omega, by omega⟩
      simp only [State.setPolicy]
      split
      · exact { refl s with store := fun h => set _ h.1 }
      · exact { refl s with store := fun h => set _ h.1 }

theorem streamControlBody : BoundStep s (streamControlBody f s) := by
  unfold Machine.streamControlBody
  split
  · exact reply f s _ _
  · split
    · exact reply f s _ _
    · next range => exact { refl s with stream := fun _ => by simp only [Stream.Bounded, State.reply, State.enqueue]; omega }

theorem releaseBody : BoundStep s (releaseBody f s) := by
  simp only [Machine.releaseBody]
  split
  · exact reply f s _ _
  · simp only [State.releaseTo]
    rw [(setFree_changes _ _).choose_spec]
    exact { refl s with }

theorem readHeldBody : BoundStep s (readHeldBody f s) := by
  unfold Machine.readHeldBody
  split
  · exact { refl s with }
  · exact reply f s _ _

theorem trimConfigBody : BoundStep s (trimConfigBody f s) := by
  unfold Machine.trimConfigBody
  split
  · exact reply f s _ _
  · next range =>
    have limit := f.num_lt 3 2
    exact { refl s with trim := fun h => ⟨h.1, by simp only [State.reply, State.enqueue, State.configureTrim]; omega⟩ }

theorem trimNowBody : BoundStep s (trimNowBody f s) := by
  unfold Machine.trimNowBody
  split
  · exact reply f s _ _
  · split
    · split
      · exact reply f s _ _
      · split
        · exact reply f s _ _
        · exact { refl s with }
    · split
      · exact reply f s _ _
      · exact { refl s with }
    all_goals exact reply f s _ _

theorem converterRestoreBody : BoundStep s (converterRestoreBody f s) := by
  unfold Machine.converterRestoreBody
  split
  · exact reply f s _ _
  · split
    · exact reply f s _ _
    · split
      · exact reply f s _ _
      · exact { refl s with }

theorem feedConfigBody : BoundStep s (feedConfigBody f s) := by
  unfold Machine.feedConfigBody
  split
  · exact reply f s _ _
  · next k hk =>
    have multiplier := f.num_lt 1 2
    exact { refl s with feed := fun h => ⟨by simp only [State.reply, State.enqueue]; omega, readMasking_le hk, h.2.2⟩ }

theorem openCaptureBody : BoundStep s (openCaptureBody f s) := by
  unfold Machine.openCaptureBody
  split_ifs
  · exact reply f s _ _
  · exact reply f s _ _
  · exact reply f s _ _
  · exact (openCapture s).trans (reply f _ _ _)

theorem setTimeBody : BoundStep s (setTimeBody f s) := by
  simp only [Machine.setTimeBody]
  split
  · exact reply f s _ _
  · split
    · exact reply f s _ _
    · exact reply f s _ _
    · exact { refl s with time := (setTime_step s _ _).events }
    · exact { refl s with time := (setTime_step s _ _).events }

end BoundStep

end Sys2Proof.Machine
end

section
/-! SUPPORT. Every step keeps the link's law and the ranges of the settings: each command and event in turn. -/

namespace Sys2Proof.Machine

/-! ## The link controller: commands and events but for the lane's, the resets, RESTART and PERIOD_BOUNDARY -/

/-- The commands and events that neither start nor end a frame, nor decide the floor, nor reset the part. -/
def serves : Instr → Bool
  | .fullReset | .captureReset | .periodBoundary | .restart | .laneScan | .holdRelease | .blockFrameEnd | .rereadFrameEnd
  | .replyFrameEnd | .noticeFrameEnd => false
  | _ => true

theorem length_answeredBy (l : List Deferred) (a : Request → Option (Result × List Byte)) :
    (answeredBy l a).length = l.length := List.length_map _

/-- The answers of a final boundary (R13). -/
def State.finalAnswers (s : State) (q : Request) : Option (Result × List Byte) :=
  (closingAnswers (fun p => be 1 p.code ++ be 1 s.cap.proceeding.code ++ [0x00#8] ++ be 4 s.cap.period) q).or
    (closeAnswer (be 4 s.cap.period) q)

theorem finalAnswers_eq (s : State) : s.finalAnswers = fun q =>
    (closingAnswers (fun p => be 1 p.code ++ be 1 s.cap.proceeding.code ++ [0x00#8] ++ be 4 s.cap.period) q).or
      (closeAnswer (be 4 s.cap.period) q) := rfl

/-- Of the link controller a final boundary changes the flags and the deferred replies (R13, R171). -/
theorem link_finalBoundary (s : State) : ∃ r,
    RaisedWithin [.converter, .store, .marker, .proceeding, .capture] s.link.raised r ∧
      flagSet r .capture = true ∧ flagSet r .proceeding = true ∧
      s.finalBoundary.link = { s.link with raised := r, deferred := answeredBy s.link.deferred s.finalAnswers } := by
  obtain ⟨st, m, r, flags, h⟩ := closedMarked_changes s
  have closed := (closed_result s).link
  have ended := endedFinally_frame s
  have cap := cap_closedMarked s
  have marked : s.closedMarked.link = { s.link with 
      raised := r
      deferred := answeredBy s.link.deferred
        (closingAnswers fun p => be 1 p.code ++ be 1 s.cap.proceeding.code ++ [0x00#8] ++ be 4 s.cap.period) } := by
    rw [h, closed, ended.link, ended.cap]
  have begun : RaisedWithin [.converter, .store, .marker, .proceeding, .capture] s.link.raised r := by
    have raised : s.closed.link.raised = s.endedFinally.link.raised := by rw [closed]
    rw [raised] at flags
    generalize s.endedFinally = u at ended flags
    exact (ended.flags.mono (by simp)).trans (flags.mono (by simp))
  refine ⟨r ||| NoticeKind.proceeding.flag ||| NoticeKind.capture.flag, ?_, by simp, by simp, ?_⟩
  · exact (begun.trans (.flag (k := .proceeding) (by simp) _)).trans (.flag (k := .capture) (by simp) _)
  · rw [finalBoundary_eq, toStandby_eq, cap, marked]
    simp only [answeredBy_answeredBy, finalAnswers_eq]

theorem finalBoundary_served (s : State) : Served s.link s.finalBoundary.link := by
  obtain ⟨r, flags, -, -, h⟩ := link_finalBoundary s
  rw [h]
  exact LinkStep.served { LinkStep.refl s.link with
    deferred := fun hd => by rwa [length_answeredBy]
    floor := flags.same (k := .floor) (by decide) }

theorem exec_served {c : Instr} {s t : State} (hc : serves c = true) (e : exec c s = .next t) : Served s.link t.link := by
  have none : Served s.link s.link := (LinkStep.refl _).served
  have step {u : State} (h : LinkStep 0 s.link u.link) : Served s.link u.link := h.served
  have hunting {u : State} (h : LinkStep 0 s.link u.link) (r : Receiver) : Served s.link (u.receive r).link :=
    LinkStep.served (h.after (c := (u.receive r).link) { LinkStep.refl u.link with })
  have status (data : State → List Byte) (f : Command) (s : State) : LinkStep 1 s.link (s.reply f .ok (data s)).link :=
    .reply s f _ _
  cases c <;> cases e
  case fullReset | captureReset | periodBoundary | restart | laneScan | holdRelease | blockFrameEnd | rereadFrameEnd
    | replyFrameEnd | noticeFrameEnd => exact absurd hc (by decide)
  case sampleInstant raw =>
    split_ifs
    · obtain ⟨k, ch, x, y, h⟩ := tick_eq s raw
      rw [h]
      exact none
    · exact none
  case finalBoundary =>
    split_ifs
    · exact finalBoundary_served s
    · exact none
  case trimEnd =>
    split_ifs
    · have g := TrimFrame.completeTrim s s.cap.period
      rw [g.link]
      exact LinkStep.served { LinkStep.refl s.link with floor := g.flags.same (k := .floor) (by decide) }
    · exact none
  case headAgeWait => exact none
  case holdAssert => exact LinkStep.served { LinkStep.refl s.link with }
  case deferredReplyMove => exact moveDeferred_served s
  -- the receiver
  case syncByte =>
    split_ifs
    · exact none
    · exact hunting (.refl _) _
  case strayByte b =>
    split_ifs
    · exact step (.count s _)
    · exact none
  case lineError => exact hunting (.count s _) _
  case oversizeLength len =>
    split_ifs
    · exact hunting (.count s _) _
    · exact none
  case frameGapTimeout =>
    split_ifs
    · exact hunting (.count s _) _
    · exact none
  case frameComplete kind tag payload check =>
    split_ifs
    · exact Served.after (b := (s.receive .hunting).link) { LinkStep.refl s.link with } (acceptFrame_served _ _ _ _ _)
    · exact none
  -- the timebase
  case timeMessage line =>
    split_ifs
    · exact none
    · exact none
  case trefPulse frac => exact step (TimeStep.pulse s frac).link
  case missingPulse =>
    split_ifs
    · exact step (losePulse_step s).link
    · exact none
  case holdoverLimit =>
    split_ifs
    · exact step (endHoldover_step s).link
    · exact none
  -- the command engine
  case unknownCommand =>
    split
    · exact none
    · split_ifs with h
      · exact LinkStep.served_in ((LinkStep.pop s).after (.reply _ _ _ _)) h.2.2
      · exact none
  case identify | proceedingStatus | storeStatus | markerStatus | floorStatus | converterStatus | timeStatus =>
    exact runCommand_served_one (status _) _ s
  case linkStatus => exact runCommand_served_one linkStatusBody_link _ s
  case noticeMask => exact runCommand_served_one noticeMaskBody_link _ s
  case laneSchedule => exact runCommand_served_one laneScheduleBody_link _ s
  case getChannel => exact runCommand_served_one getChannelBody_link _ s
  case openCapture => exact runCommand_served_one openCaptureBody_link _ s
  case loadPattern => exact runCommand_served_one loadPatternBody_link _ s
  case setChannel => exact runCommand_served_one setChannelBody_link _ s
  case storePolicy => exact runCommand_served_one storePolicyBody_link _ s
  case release => exact runCommand_served_one releaseBody_link _ s
  case streamControl => exact runCommand_served_one streamControlBody_link _ s
  case putMarker => exact runCommand_served_one putMarkerBody_link _ s
  case floorConfig => exact runCommand_served_one floorConfigBody_link _ s
  case trimConfig => exact runCommand_served_one trimConfigBody_link _ s
  case trimNow => exact runCommand_served_one trimNowBody_link _ s
  case converterRestore => exact runCommand_served_one converterRestoreBody_link _ s
  case feedConfig => exact runCommand_served_one feedConfigBody_link _ s
  case setTime => exact runCommand_served_one setTimeBody_link _ s
  case readHeld =>
    exact runCommand_served (fun f s _ => readHeldBody_link f s) (fun _ _ => rfl) (fun _ _ => one_le_two) _ s
  case closeCapture =>
    exact runCommand_served (fun f s _ => closeCaptureBody_link f s) (fun _ _ => rfl) (fun _ _ => Nat.le_add_right _ _) _ s
  case routePattern =>
    exact runCommand_served (fun f s h => routePatternBody_link f s h) routeNeed_popped (fun f s => one_le_routeNeed s f) _ s
  case setProceeding =>
    exact runCommand_served (fun f s h => setProceedingBody_link f s h) proceedingNeed_popped
      (fun f s => one_le_proceedingNeed s f) _ s

/-! ## The lane -/

variable {s t : State}

/-- The lane idle again, with what is left of the reply queue. -/
theorem Link.Law.idle {l : Link} (h : l.Law) (hr : l.restart ≠ .replyGoing) {q : List ReplyEntry} (hq : q.length ≤ 8) :
    Link.Law { l with lane := none, replyQueue := q } := by
  obtain ⟨cmd, -, deferred, schedule, -⟩ := h
  exact ⟨cmd, hq, deferred, schedule, nofun, nofun, ⟨nofun, fun hg => absurd hg hr⟩, fun _ => rfl⟩

/-- A frame starts on the idle lane. -/
theorem Link.Law.start {l k : Link} (h : l.Law) (hr : l.restart = .off) {fr : LaneFrame}
    (hk : k = { l with raised := k.raised, changes := k.changes, position := k.position, lane := some fr })
    (reply : fr.use = .reply → ∃ r, l.replyQueue.head? = some (.reply r))
    (copy : fr.use = .reread → ∃ c, l.replyQueue.head? = some (.copy c)) (other : fr.use ≠ .restartReply) : k.Law := by
  obtain ⟨cmd, queue, deferred, schedule, -⟩ := h
  rw [hk]
  refine ⟨cmd, queue, deferred, schedule, fun hx => reply (Option.some.inj hx), fun hx => copy (Option.some.inj hx),
    ⟨fun hx => absurd (Option.some.inj hx) other, fun hx => ?_⟩, fun hx => ?_⟩
  · exact absurd (hr.symm.trans hx) (by simp)
  · exact absurd (hr.symm.trans hx) (by simp)

theorem link_noticeSent (s : State) (k : NoticeKind) :
    ∃ r c, (s.noticeSent k).link = { s.link with raised := r, changes := c } := by
  cases k with
  | store =>
    refine ⟨(s.lower .store).link.raised, s.link.changes, ?_⟩
    simp only [State.noticeSent, State.mapChans_link]
    rfl
  | floor =>
    simp only [State.noticeSent]
    split
    · exact ⟨_, _, rfl⟩
    · exact ⟨_, _, rfl⟩
  | capture | converter | time | proceeding | marker | link => exact ⟨_, _, rfl⟩

theorem linkLaw_sendSource (h : s.link.Law) (hr : s.link.restart = .off) (x : Source) (i : Fin 16) :
    Link.Law { (s.sendSource x).link with position := i } := by
  have same : Link.Law { s.link with position := i } := h
  cases x with
  | r =>
    simp only [State.sendSource, State.sendReply]
    cases hq : s.link.replyQueue with
    | nil => exact same
    | cons e rest =>
      cases e with
      | reply r => exact h.start hr rfl (fun _ => ⟨r, by rw [hq]; rfl⟩) nofun nofun
      | copy k => exact h.start hr rfl nofun (fun _ => ⟨k, by rw [hq]; rfl⟩) nofun
  | n =>
    simp only [State.sendSource, State.sendNotice]
    cases hn : s.link.nextNotice with
    | none => exact same
    | some k =>
      refine h.start hr (fr := ⟨.notice, frameBytes 0x82#8 0x00#8 (s.noticePayload k)⟩) ?_ nofun nofun nofun
      obtain ⟨r, c, sent⟩ := link_noticeSent s k
      simp only [State.startFrame, sent]
  | b =>
    simp only [State.sendSource, State.sendBlock]
    cases hp : s.store.posted with
    | nil => exact same
    | cons p rest => exact h.start hr rfl nofun nofun nofun

theorem linkLaw_scan (h : s.link.Law) : s.scan.link.Law := by
  by_cases barred : s.link.hold = true ∨ s.link.lane ≠ none
  · rwa [scan_barred barred]
  · rw [not_or, Bool.not_eq_true, not_not] at barred
    obtain ⟨hold, idle⟩ := barred
    rw [scan_idle hold idle]
    cases hr : s.link.restart with
    | off =>
      simp only [State.scanSchedule]
      split
      · exact h
      · exact linkLaw_sendSource h hr _ _
    | replyDue r =>
      obtain ⟨cmd, queue, deferred, schedule, -⟩ := h
      exact ⟨cmd, queue, deferred, schedule, nofun, nofun, ⟨fun _ => rfl, fun _ => rfl⟩, nofun⟩
    | replyGoing => exact h
    | resetDue => exact h

/-- A reset link controller has nothing on the lane. -/
theorem linkLaw_reset (b : Bool) : Link.Law { State.reset.link with hold := b } := by
  have letters (x : Source) : ∃ i : Fin 16, State.reset.link.schedule.get i = x := by
    cases x with
    | r => exact ⟨0, by decide⟩
    | n => exact ⟨3, by decide⟩
    | b => exact ⟨1, by decide⟩
  exact ⟨Nat.zero_le _, Nat.zero_le _, Nat.zero_le _, letters, nofun, nofun, ⟨nofun, nofun⟩, nofun⟩

/-- Of the link controller a boundary that is not final changes the flags and the deferred replies (R7, R171). -/
theorem link_periodBoundary (s : State) : s.periodBoundary.link = { s.link with
    raised := s.periodBoundary.link.raised
    deferred := answeredBy s.link.deferred (commitAnswers s.committed.proceedingData) } := by
  obtain ⟨⟨st, ch, m, fl, r, -, e⟩, -⟩ := opening_frame s
  have opened : s.periodBoundary.link = { s.committed.link with raised := s.periodBoundary.link.raised } := by
    rw [e]
  have committed := (committed_result s).link
  have begun : s.renumbered.link = { s.link with raised := s.renumbered.link.raised } := by
    simp only [State.renumbered]
    exact (ended_frame s).link
  rw [begun] at committed
  rw [opened, committed]

theorem linkLaw_periodBoundary (h : s.link.Law) : s.periodBoundary.link.Law := by
  rw [link_periodBoundary]
  obtain ⟨cmd, queue, deferred, rest⟩ := h
  exact ⟨cmd, queue, by rwa [length_answeredBy], rest⟩

theorem exec_lane_keeps_linkLaw {c : Instr} (hs : serves c = false) (h : s.link.Law) (e : exec c s = .next t) :
    t.link.Law := by
  have scanned {u : State} (hu : u.link.Law) : u.scan.link.Law := linkLaw_scan hu
  have short : s.link.replyQueue.length ≤ 8 := h.2.1
  obtain ⟨cmd, queue, deferred, schedule, head, copy, going, due⟩ := id h
  have going_of {u : LaneUse} (hl : s.laneUse = some u) (hu : u ≠ .restartReply) : s.link.restart ≠ .replyGoing :=
    fun hg => hu (Option.some.inj (hl.symm.trans (going.mpr hg)))
  have tail : s.link.replyQueue.tail.length ≤ 8 := by
    rw [List.length_tail]
    omega
  cases c <;> cases e
  case fullReset => exact linkLaw_reset _
  case captureReset =>
    split_ifs
    · rw [captureReset_eq]
      exact ⟨cmd, Nat.zero_le _, deferred, schedule, nofun, nofun, ⟨nofun, nofun⟩, nofun⟩
    · exact h
  case periodBoundary =>
    split_ifs
    · exact linkLaw_periodBoundary h
    · exact h
  case restart =>
    split
    · exact h
    · split_ifs with _ hr
      · simp only [restartBody, State.dropPending]
        rw [(mapChans_changes _ _).choose_spec]
        refine ⟨Nat.zero_le _, queue, Nat.zero_le _, schedule, head, copy, ⟨fun hx => ?_, nofun⟩, nofun⟩
        exact absurd (hr.symm.trans (going.mp hx)) (by simp)
      · exact h
      · exact h.served (runCommand_served_one (fun f s => (LinkStep.refl s.link).mono zero_le_one) _ s)
  case laneScan => exact scanned h
  case holdRelease => exact scanned (u := { s with link := { s.link with hold := false } }) h
  case noticeFrameEnd =>
    split_ifs with hl
    · exact scanned (u := s.endFrame) (h.idle (going_of hl (by decide)) queue)
    · exact h
  case blockFrameEnd =>
    split_ifs with hl
    · refine scanned ?_
      have idle := h.idle (going_of hl (by decide)) queue
      unfold State.enterCustody
      split
      · exact idle
      · exact idle
    · exact h
  case rereadFrameEnd =>
    split
    · next k rest hl _ =>
      refine scanned ?_
      have idle := h.idle (going_of hl (by decide)) tail
      obtain ⟨r, freed⟩ : ∃ r, (s.popReply.endPin k).link = { s.popReply.link with raised := r } := by
        simp only [State.endPin, setFree_eq]
        exact ⟨_, rfl⟩
      simp only [State.endFrame, freed]
      exact idle
    · exact h
  case replyFrameEnd =>
    split
    · next hl _ => exact scanned (u := s.popReply.endFrame) (h.idle (going_of hl (by decide)) tail)
    · exact ⟨cmd, queue, deferred, schedule, nofun, nofun, ⟨nofun, nofun⟩, fun _ => rfl⟩
    · exact h
  all_goals exact absurd hs (by simp [serves])

theorem exec_keeps_linkLaw {c : Instr} (h : s.link.Law) (e : exec c s = .next t) : t.link.Law := by
  cases hs : serves c with
  | true => exact h.served (exec_served hs e)
  | false => exact exec_lane_keeps_linkLaw hs h e

/-! ## Every command -/

theorem BoundStep.linked {s t : State} (h : ∃ l, t = { s with link := l }) : BoundStep s t := by
  obtain ⟨l, rfl⟩ := h
  exact .same ⟨_, _, _, rfl⟩

theorem exec_boundStep {c : Instr} (hc : c ≠ .fullReset) (e : exec c s = .next t) : BoundStep s t := by
  have none : BoundStep s s := .refl s
  have scanned {u : State} (h : BoundStep s u) : BoundStep s u.scan := h.trans (.scanned (.scan u))
  have link {u : State} (h : ∃ l, u = { s with link := l }) : BoundStep s u := .linked h
  have body {b : Command → State → State} (code : Byte) (need : Command → State → Nat) (fits : Command → Bool)
      (hb : ∀ f s, BoundStep s (b f s)) : BoundStep s (runCommand code need fits b s) := .runCommand hb code need fits s
  cases c <;> cases e
  case fullReset => exact absurd rfl hc
  case captureReset =>
    split_ifs
    · exact .captureReset s
    · exact none
  case sampleInstant raw =>
    split_ifs
    · exact .tick s raw
    · exact none
  case periodBoundary =>
    split_ifs
    · exact .periodBoundary s
    · exact none
  case finalBoundary =>
    split_ifs
    · exact .finalBoundary s
    · exact none
  case trimEnd =>
    split_ifs
    · exact .trimWork (.completeTrim s _)
    · exact none
  -- the lane
  case laneScan => exact scanned none
  case holdRelease => exact scanned (link ⟨_, rfl⟩)
  case noticeFrameEnd =>
    split_ifs
    · exact scanned (link ⟨_, rfl⟩)
    · exact none
  case blockFrameEnd =>
    split_ifs
    · refine scanned ?_
      unfold State.enterCustody
      split
      · exact link ⟨_, rfl⟩
      · exact { BoundStep.refl s with }
    · exact none
  case rereadFrameEnd =>
    split
    · next k _ _ _ =>
      refine scanned ?_
      simp only [State.endPin]
      rw [(setFree_changes _ _).choose_spec]
      exact { BoundStep.refl s with }
    · exact none
  case replyFrameEnd =>
    split
    · exact scanned (link ⟨_, rfl⟩)
    · exact link ⟨_, rfl⟩
    · exact none
  case headAgeWait => exact none
  case holdAssert => exact link ⟨_, rfl⟩
  case deferredReplyMove => exact link (moveDeferred_changes s)
  -- the receiver
  case syncByte =>
    split_ifs
    · exact none
    · exact link ⟨_, rfl⟩
  case strayByte b =>
    split_ifs
    · exact link (count_changes s _)
    · exact none
  case lineError => exact (link (count_changes s .line)).trans (.same ⟨_, _, _, rfl⟩)
  case oversizeLength len =>
    split_ifs
    · exact (link (count_changes s .oversize)).trans (.same ⟨_, _, _, rfl⟩)
    · exact none
  case frameGapTimeout =>
    split_ifs
    · exact (link (count_changes s .gap)).trans (.same ⟨_, _, _, rfl⟩)
    · exact none
  case frameComplete kind tag payload check =>
    split_ifs
    · obtain ⟨l, h⟩ := acceptFrame_changes (s.receive .hunting) kind tag payload check
      rw [h]
      exact link ⟨_, rfl⟩
    · exact none
  -- the timebase
  case timeMessage line =>
    split_ifs
    · refine { none with time := ?_ }
      simp only [Timebase.Bounded, Timebase.takeLine]
      split_ifs
      · exact id
      · split <;> exact id
    · exact none
  case trefPulse frac =>
    obtain ⟨x, l, h⟩ := pulse_changes s frac
    have events := (TimeStep.pulse s frac).events
    rw [h] at events ⊢
    exact { none with time := events }
  case missingPulse =>
    split_ifs
    · exact { none with time := (losePulse_step s).events }
    · exact none
  case holdoverLimit =>
    split_ifs
    · exact { none with time := (endHoldover_step s).events }
    · exact none
  -- the command engine
  case unknownCommand =>
    obtain ⟨l, h⟩ := unknownCommand_changes s
    exact link ⟨l, Host.Outcome.next.inj h⟩
  case restart =>
    split
    · exact none
    · split_ifs
      · simp only [restartBody, State.dropPending]
        rw [(mapChans_changes _ _).choose_spec]
        exact { none with }
      · exact none
      · exact body _ _ _ fun f s => .refl s
  case identify | proceedingStatus | storeStatus | markerStatus | floorStatus | converterStatus | timeStatus =>
    exact body _ _ _ fun f s => .reply f s _ _
  case linkStatus => exact body _ _ _ fun f s => .linked (linkStatusBody_changes f s)
  case noticeMask => exact body _ _ _ fun f s => .linked (noticeMaskBody_changes f s)
  case laneSchedule => exact body _ _ _ fun f s => .linked (laneScheduleBody_changes f s)
  case getChannel => exact body _ _ _ fun f s => .linked (getChannelBody_changes f s)
  case closeCapture =>
    refine body _ _ _ fun f s => ?_
    obtain ⟨b, l, h⟩ := closeCaptureBody_changes f s
    rw [h]
    exact { BoundStep.refl s with }
  case loadPattern =>
    refine body _ _ _ fun f s => ?_
    obtain ⟨p, l, h⟩ := loadPatternBody_changes f s
    rw [h]
    exact { BoundStep.refl s with }
  case setChannel =>
    refine body _ _ _ fun f s => ?_
    obtain ⟨ch, l, h⟩ := setChannelBody_changes f s
    rw [h]
    exact { BoundStep.refl s with }
  case routePattern =>
    refine body _ _ _ fun f s => ?_
    obtain ⟨n, ch, l, h⟩ := routePatternBody_changes f s
    rw [h]
    exact { BoundStep.refl s with }
  case setProceeding =>
    refine body _ _ _ fun f s => ?_
    obtain ⟨p, ch, l, h⟩ := setProceedingBody_changes f s
    rw [h]
    exact { BoundStep.refl s with }
  case putMarker =>
    refine body _ _ _ fun f s => ?_
    unfold putMarkerBody
    split
    · exact .reply f s _ _
    · split
      · exact .reply f s _ _
      · split
        · exact .reply f s _ _
        · exact { BoundStep.refl s with }
  case floorConfig =>
    refine body _ _ _ fun f s => ?_
    obtain ⟨x, l, h⟩ := floorConfigBody_changes f s
    rw [h]
    exact { BoundStep.refl s with }
  case openCapture => exact body _ _ _ BoundStep.openCaptureBody
  case storePolicy => exact body _ _ _ BoundStep.storePolicyBody
  case streamControl => exact body _ _ _ BoundStep.streamControlBody
  case release => exact body _ _ _ BoundStep.releaseBody
  case readHeld => exact body _ _ _ BoundStep.readHeldBody
  case trimConfig => exact body _ _ _ BoundStep.trimConfigBody
  case trimNow => exact body _ _ _ BoundStep.trimNowBody
  case converterRestore => exact body _ _ _ BoundStep.converterRestoreBody
  case feedConfig => exact body _ _ _ BoundStep.feedConfigBody
  case setTime => exact body _ _ _ BoundStep.setTimeBody

/-- Settles O60: the link's law and the bounds of every block go through each command and event. -/
theorem stepKeepsLinkAndConfigLaw : Obligations.StepKeepsLinkAndConfigLaw := by
  unfold Obligations.StepKeepsLinkAndConfigLaw
  intro s t link config e
  rw [linkLaw_configLaw_iff]
  refine step_keeps (P := fun u => u.link.Law ∧ Bounded u) (fun u l h => ⟨h.1, h.2.step { BoundStep.refl u with }⟩)
    (fun {c u v} h e => ?_) ((linkLaw_configLaw_iff s).mp ⟨link, config⟩) e
  refine ⟨exec_keeps_linkLaw h.1 e, ?_⟩
  by_cases hc : c = .fullReset
  · subst hc
    cases e
    exact bounded_reset.step { BoundStep.refl _ with }
  · exact h.2.step (exec_boundStep hc e)

end Sys2Proof.Machine
end

section
/-! SUPPORT. What commands leave of a channel, and the floor's law (R94 to R105). -/

namespace Sys2Proof.Machine

section
variable (f : Command) (s : State) (c : Chan)

/-! ## A channel after a command -/

theorem chan_answerTaken (o : Bool) (q : Request) (data : List Byte) : (s.answerTaken f o q data).chan c = s.chan c := by
  obtain ⟨l, h⟩ := answerTaken_changes f s o q data
  rw [h]
  rfl

theorem chan_restartBody : (restartBody f s).chan c =
    { s.chan c with pendingSettings := PendingSettings.empty, pendingRoute := none } := by
  rw [← State.chan_mapChans s c fun _ ch => { ch with pendingSettings := PendingSettings.empty, pendingRoute := none }]
  exact State.chan_congr (by simp only [restartBody, State.dropPending]) c

/-- A ROUTE_PATTERN touches the two routes of a channel alone (R18). -/
theorem chan_routePatternBody : ∃ r p, (routePatternBody f s).chan c = { s.chan c with route := r, pendingRoute := p } := by
  unfold routePatternBody
  split
  · exact ⟨_, _, rfl⟩
  · next r o _ =>
    split
    · have mapped := State.chan_mapChans s c fun c ch => if f.selects c then { ch with route := r } else ch
      have replied (u : State) (d : List Byte) : (u.reply f .ok d).chan c = u.chan c := rfl
      rw [replied, mapped]
      split
      · exact ⟨_, _, rfl⟩
      · exact ⟨_, _, rfl⟩
    · split
      · exact ⟨_, _, rfl⟩
      · simp only []
        rw [chan_answerTaken]
        have superseded (u : State) (p : Deferred → Bool) (d : Deferred → List Byte) :
            (u.supersede p d).chan c = u.chan c := rfl
        rw [superseded, chan_placeRoutes]
        split
        · exact ⟨_, _, rfl⟩
        · exact ⟨_, _, rfl⟩

/-- A SET_PROCEEDING touches the pending route of a channel alone (R69). -/
theorem chan_setProceedingBody : ∃ p, (setProceedingBody f s).chan c = { s.chan c with pendingRoute := p } := by
  unfold setProceedingBody
  split
  · exact ⟨_, rfl⟩
  · next p o _ =>
    split
    · exact ⟨_, rfl⟩
    · split
      · exact ⟨_, rfl⟩
      · split
        · simp only []
          rw [chan_answerTaken]
          have superseded (u : State) (p : Deferred → Bool) (d : Deferred → List Byte) :
              (u.supersede p d).chan c = u.chan c := rfl
          rw [superseded, chan_placeProceeding]
          split
          · exact ⟨_, rfl⟩
          · exact ⟨_, rfl⟩
        · exact ⟨_, rfl⟩

/-- A SET_CHANNEL writes the settings at once in STANDBY and makes them pending while CAPTURING (R15). -/
theorem chan_setChannelBody : (setChannelBody f s).chan c = s.chan c ∨
    ∃ sel o, f.checkedSettings s = some (sel, o) ∧ f.selects c = true ∧
      (setChannelBody f s).chan c = if s.capturing = true then
        { s.chan c with pendingSettings := (s.chan c).pendingSettings.merge sel } else (s.chan c).writeSettings sel := by
  unfold setChannelBody
  split
  · exact .inl rfl
  · next sel o checked =>
    split
    · next running =>
      rw [chan_answerTaken, State.chan_mapChans]
      split
      · next selected => exact .inr ⟨sel, o, checked, selected, rfl⟩
      · exact .inl rfl
    · next standby =>
      have mapped := State.chan_mapChans s c fun c ch => if f.selects c then ch.writeSettings sel else ch
      have replied (u : State) (d : List Byte) : (u.reply f .ok d).chan c = u.chan c := rfl
      rw [replied, mapped]
      split
      · next selected => exact .inr ⟨sel, o, checked, selected, rfl⟩
      · exact .inl rfl

end

/-! ## What the floor's law reads -/

variable {s t : State}

/-- The law reads of a channel only what makes a candidate that is not QUIET, and that of the holder alone. -/
theorem State.FloorLaw.congr (h : s.FloorLaw) (state : t.cap.state = .standby → s.cap.state = .standby)
    (holder : t.floor = { s.floor with log := t.floor.log, overrun := t.floor.overrun })
    (log : t.floor.log.length ≤ s.floor.log.length) (flag : flagSet t.link.raised .floor = !t.floor.log.isEmpty)
    (chan : s.cap.state = .capturing → ∀ c,
      (t.chan c).settings = (s.chan c).settings ∧ (t.chan c).activity = (s.chan c).activity) : t.FloorLaw := by
  obtain ⟨standby, held, challenger, low, high, low', high', length, -⟩ := h
  have same : t.floor.holder = s.floor.holder := by rw [holder]
  refine ⟨fun hs => same.trans (standby (state hs)), fun c hc => ?_, ?_, ?_, ?_, ?_, ?_, log.trans length, flag⟩
  · rw [same] at hc
    have running : s.cap.state = .capturing := by
      cases hs : s.cap.state with
      | standby => rw [standby hs] at hc; exact nomatch hc
      | capturing => rfl
    obtain ⟨settings, activity⟩ := chan running c
    rw [settings, activity]
    exact held c hc
  all_goals rw [holder]
  · exact challenger
  · exact low
  · exact high
  · exact low'
  · exact high'

/-- Nobody holds the floor. -/
theorem floorLaw_free {fl : Floor} (h : s.FloorLaw) (hf : fl = { s.floor with
      holder := none, challenger := none, lastDecision := fl.lastDecision }) (ht : t.floor = fl)
    (flag : flagSet t.link.raised .floor = flagSet s.link.raised .floor) : t.FloorLaw := by
  obtain ⟨-, -, -, low, high, low', high', length, raised⟩ := h
  refine ⟨fun _ => ?_, fun c hc => ?_, fun p hp => ?_, ?_, ?_, ?_, ?_, ?_, ?_⟩
  · rw [ht, hf]
  · rw [ht, hf] at hc
    exact nomatch hc
  · rw [ht, hf] at hp
    exact nomatch hp
  all_goals rw [ht, hf]
  · exact low
  · exact high
  · exact low'
  · exact high'
  · exact length
  · exact flag.trans raised

/-! ## The floor decision -/

theorem loudest_concat (s : State) (cs : List Chan) (d : Chan) : s.loudest (cs ++ [d]) = match s.loudest cs with
    | none => some d
    | some b => if (s.chan b).lastLevel < (s.chan d).lastLevel then some d else some b := List.foldl_concat _ _ _ _

/-- Of channels in ascending order the loudest has the highest level code, the lowest number at equal codes (R96). -/
theorem loudest_spec {cs : List Chan} (sorted : cs.Pairwise (· < ·)) :
    (s.loudest cs = none → cs = []) ∧ ∀ c, s.loudest cs = some c → s.BestOf (· ∈ cs) c := by
  induction cs using List.reverseRecOn with
  | nil => exact ⟨fun _ => rfl, nofun⟩
  | append_singleton cs d ih =>
    rw [List.pairwise_append] at sorted
    obtain ⟨sorted, -, below⟩ := sorted
    obtain ⟨ih, best⟩ := ih sorted
    rw [loudest_concat]
    cases hb : s.loudest cs with
    | none =>
      refine ⟨nofun, fun c hc => ?_⟩
      cases hc
      refine ⟨by simp, fun e he => ?_⟩
      rw [ih hb, List.nil_append, List.mem_singleton] at he
      exact .inr ⟨by rw [he], he.ge⟩
    | some b =>
      obtain ⟨mem, loud⟩ := best b hb
      have before : b < d := below b mem d (List.mem_singleton_self d)
      simp only []
      split_ifs with hd
      · refine ⟨nofun, fun c hc => ?_⟩
        cases hc
        refine ⟨by simp, fun e he => ?_⟩
        rcases List.mem_append.mp he with he | he
        · rcases loud e he with lt | ⟨eq, -⟩ <;> exact .inl (by omega)
        · rw [List.mem_singleton] at he
          exact .inr ⟨by rw [he], he.ge⟩
      · refine ⟨nofun, fun c hc => ?_⟩
        cases hc
        refine ⟨List.mem_append_left _ mem, fun e he => ?_⟩
        rcases List.mem_append.mp he with he | he
        · exact loud e he
        · rw [List.mem_singleton] at he
          rw [he]
          rcases Nat.lt_or_ge (s.chan d).lastLevel (s.chan b).lastLevel with lt | ge
          · exact .inl lt
          · exact .inr ⟨by omega, before.le⟩

theorem mem_activeCandidates {c : Chan} : c ∈ s.activeCandidates ↔
    s.candidate c = true ∧ (s.chan c).activity = .active := by
  simp [State.activeCandidates, allChans]

theorem activeCandidates_sorted (s : State) : s.activeCandidates.Pairwise (· < ·) :=
  (List.pairwise_lt_finRange 24).filter _

/-- The ACTIVE candidates that qualify against a holder (R98). -/
def State.qualified (s : State) (h : Chan) : List Chan := s.activeCandidates.filter fun c =>
  c != h && decide ((s.chan h).lastLevel + s.floor.margin ≤ (s.chan c).lastLevel)

theorem mem_qualified {h c : Chan} : c ∈ s.qualified h ↔ (s.candidate c = true ∧ (s.chan c).activity = .active) ∧
    c ≠ h ∧ (s.chan h).lastLevel + s.floor.margin ≤ (s.chan c).lastLevel := by
  simp [State.qualified, mem_activeCandidates]

/-- The count of a challenger that qualifies (R98). -/
def Floor.countOf (f : Floor) (c : Chan) : Nat :=
  match f.challenger with
  | some (d, k) => if d = c then k + 1 else 1
  | none => 1

/-- The contest of a holder with its challengers (R98). -/
theorem contest_eq (s : State) (h : Chan) : s.contest h = match s.loudest (s.qualified h) with
    | none => { s with floor := { s.floor with challenger := none } }
    | some c => if s.floor.takeover ≤ s.floor.countOf c then s.changeHolder (some c) .takeover
      else { s with floor := { s.floor with challenger := some (c, s.floor.countOf c) } } := rfl

/-- A change of holder writes a floor record and raises FLOOR (R102, R103). -/
theorem changeHolder_eq (s : State) (h : Option Chan) (k : FloorCause) : s.changeHolder h k = { s with
    floor := { s.floor.recorded ⟨s.cap.number, s.cap.period, s.cap.proceeding, h, s.floor.holder, k,
      (h.map fun c => (s.chan c).lastLevel).getD 0⟩ with holder := h, challenger := none }
    link := { s.link with raised := s.link.raised ||| NoticeKind.floor.flag } } := by
  have level : (h.elim 0 fun c => (s.chan c).lastLevel) = (h.map fun c => (s.chan c).lastLevel).getD 0 := by cases h <;> rfl
  rw [State.changeHolder, level, addFloor_eq]
  simp only [Floor.recorded]
  split_ifs <;> rfl

theorem recorded_length {f : Floor} (h : f.log.length ≤ 32) (r : FloorRecord) :
    (f.recorded r).log.length ≤ 32 ∧ (f.recorded r).log.isEmpty = false := by
  unfold Floor.recorded
  split_ifs with full
  · exact ⟨by simp; omega, by simp⟩
  · exact ⟨by simp; omega, by simp⟩

/-- What the decision of a state with the floor's ranges leaves of the law (R94, R98, R102, R103). -/
structure FloorReady (s : State) : Prop where
  running : s.cap.state = .capturing
  margin : 1 ≤ s.floor.margin ∧ s.floor.margin ≤ 61
  takeover : 1 ≤ s.floor.takeover ∧ s.floor.takeover ≤ 50
  log : s.floor.log.length ≤ 32
  flag : flagSet s.link.raised .floor = !s.floor.log.isEmpty

/-- A channel that may hold the floor: a candidate that is not QUIET (R97). -/
def State.mayHold (s : State) (c : Chan) : Prop :=
  (s.chan c).settings.enable = true ∧ (s.chan c).settings.floorEligible = true ∧ (s.chan c).activity ≠ .quiet

theorem mayHold_of_active {c : Chan} (h : s.candidate c = true ∧ (s.chan c).activity = .active) : s.mayHold c := by
  simp only [State.candidate, Bool.and_eq_true] at h
  exact ⟨h.1.1, h.1.2, by rw [h.2]; decide⟩

theorem floorLaw_changeHolder (g : FloorReady s) {n : Option Chan} (hn : ∀ c ∈ n, s.mayHold c) (k : FloorCause) :
    (s.changeHolder n k).FloorLaw := by
  have recorded (r : FloorRecord) := recorded_length g.log r
  have settings (r : FloorRecord) : (s.floor.recorded r).margin = s.floor.margin ∧
      (s.floor.recorded r).takeover = s.floor.takeover := by
    unfold Floor.recorded
    split_ifs <;> exact ⟨rfl, rfl⟩
  rw [changeHolder_eq]
  refine ⟨fun hs => (nomatch g.running.symm.trans hs), hn, nofun, ?_, ?_, ?_, ?_, (recorded _).1, ?_⟩
  · exact (settings _).1 ▸ g.margin.1
  · exact (settings _).1 ▸ g.margin.2
  · exact (settings _).2 ▸ g.takeover.1
  · exact (settings _).2 ▸ g.takeover.2
  · simp [(recorded _).2]

/-- Of the floor unit a decision without a change of holder sets the challenger (R98). -/
theorem floorLaw_challenger (g : FloorReady s) (holder : ∀ c ∈ s.floor.holder, s.mayHold c) {p : Option (Chan × Nat)}
    (hp : ∀ x ∈ p, s.floor.holder.isSome = true ∧ s.floor.holder ≠ some x.1 ∧ 1 ≤ x.2 ∧ x.2 ≤ 50) :
    State.FloorLaw { s with floor := { s.floor with challenger := p } } :=
  ⟨fun hs => (nomatch g.running.symm.trans hs), holder, hp, g.margin.1, g.margin.2, g.takeover.1, g.takeover.2, g.log, g.flag⟩

theorem floorLaw_contest (g : FloorReady s) {h : Chan} (holds : s.floor.holder = some h) (may : s.mayHold h) :
    (s.contest h).FloorLaw := by
  have holder : ∀ c ∈ s.floor.holder, s.mayHold c := fun c hc => by
    rw [holds] at hc
    cases hc
    exact may
  rw [contest_eq]
  split
  · exact floorLaw_challenger g holder nofun
  · next c hc =>
    have best := ((loudest_spec ((activeCandidates_sorted s).filter _)).2 c hc).1
    obtain ⟨active, other, -⟩ := mem_qualified.mp best
    split_ifs with taken
    · refine floorLaw_changeHolder g (fun d hd => ?_) _
      cases hd
      exact mayHold_of_active active
    · refine floorLaw_challenger g holder fun x hx => ?_
      cases hx
      have positive : 1 ≤ s.floor.countOf c := by
        unfold Floor.countOf
        split
        · split_ifs <;> omega
        · exact le_rfl
      have takeover := g.takeover.2
      rw [holds]
      exact ⟨rfl, fun e => other (Option.some.inj e).symm, positive, by simp only [] ; omega⟩

theorem floorLaw_openFloor (g : FloorReady s) : s.openFloor.FloorLaw := by
  have active {c : Chan} (hc : s.loudest s.activeCandidates = some c) : ∀ d ∈ some c, s.mayHold d := fun d hd => by
    cases hd
    exact mayHold_of_active (mem_activeCandidates.mp ((loudest_spec (activeCandidates_sorted s)).2 c hc).1)
  unfold State.openFloor
  split
  · next hc => exact floorLaw_changeHolder g (active hc) _
  · exact floorLaw_changeHolder g (by simp) _
  · next hc => exact floorLaw_changeHolder g (active hc) _
  · next free _ => exact floorLaw_challenger g (fun c hc => by rw [free] at hc; cases hc) (by simp)

theorem floorLaw_decision (g : FloorReady s) : s.floorDecision.FloorLaw := by
  obtain ⟨t, e, ⟨h, holds, candidate, activity, rfl⟩ | ⟨-, rfl⟩⟩ := floorDecision_cases s <;> rw [e]
  · simp only [State.candidate, Bool.and_eq_true] at candidate
    have law := floorLaw_contest g holds ⟨candidate.1, candidate.2, activity⟩
    generalize s.contest h = u at law
    exact law
  · have law := floorLaw_openFloor g
    generalize s.openFloor = u at law
    exact law

/-! ## The boundaries -/

/-- The state of a boundary before its floor decision: the marker request and the audio requests decided (R8, R9). -/
def State.allotted (s : State) : State :=
  (s.committed.takeMarkers s.committed.cap.period (markerTag s.committed.cap.proceeding) s.committed.stampNow).allocate

theorem periodBoundary_decided (s : State) : s.periodBoundary =
    { s.allotted.floorDecision with cap := { s.allotted.floorDecision.cap with instant := 0 } } := by
  rw [periodBoundary_eq]
  simp only [State.allotted]

/-- The two steps change the store, the markers and the channels' account of their slots. -/
theorem allotted_frame (s : State) : ∃ st ch m r, RaisedWithin [.store, .marker] s.committed.link.raised r ∧
    s.allotted = { s.committed with
      store := st, chans := ch, marks := m, link := { s.committed.link with raised := r } } := by
  obtain ⟨st, m, r, hr, hv⟩ := takeMarkers_changes s.committed s.committed.cap.period
    (markerTag s.committed.cap.proceeding) s.committed.stampNow
  obtain ⟨st', ch, r', hr', hw⟩ := (allocate_changes (s.committed.takeMarkers s.committed.cap.period
    (markerTag s.committed.cap.proceeding) s.committed.stampNow)).eq
  refine ⟨st', ch, m, r', ?_, ?_⟩
  · rw [hv] at hr'
    exact hr.trans (hr'.mono (by simp))
  · rw [State.allotted, hw, hv]

/-- Of the flags a boundary's work before the floor decision leaves FLOOR's, CAPTURE's, TIME's and LINK's. -/
theorem allotted_flags (s : State) :
    RaisedWithin [.converter, .proceeding, .store, .marker] s.link.raised s.allotted.link.raised := by
  obtain ⟨st, ch, m, r, hr, h⟩ := allotted_frame s
  have begun : RaisedWithin [.converter] s.link.raised s.renumbered.link.raised := by
    simp only [State.renumbered]
    exact (ended_frame s).flags
  have committed := (committed_result s).flags
  have raised : s.allotted.link.raised = r := by rw [h]
  rw [raised]
  exact ((begun.mono (by simp)).trans (committed.mono (by simp))).trans (hr.mono (by simp))

theorem floor_allotted (s : State) : s.allotted.floor = s.floor := by
  obtain ⟨st, ch, m, r, -, h⟩ := allotted_frame s
  rw [h, (committed_result s).floor, State.renumbered, (ended_frame s).floor]

theorem cap_allotted (s : State) : s.allotted.cap =
    (State.commitProceeding { s with cap := { s.cap with period := wrapInc s.cap.period } }).cap := by
  obtain ⟨st, ch, m, r, -, h⟩ := allotted_frame s
  rw [h, (committed_result s).cap, commitProceeding_cap, commitProceeding_cap]
  simp only [State.renumbered, State.newProceeding, (ended_frame s).cap]

theorem floorLaw_periodBoundary (h : s.FloorLaw) (running : s.cap.state = .capturing) : s.periodBoundary.FloorLaw := by
  obtain ⟨-, -, -, low, high, low', high', length, raised⟩ := h
  have floor := floor_allotted s
  have ready : FloorReady s.allotted := {
    running := by rw [cap_allotted, commitProceeding_cap]; exact running
    margin := by rw [floor]; exact ⟨low, high⟩
    takeover := by rw [floor]; exact ⟨low', high'⟩
    log := by rw [floor]; exact length
    flag := by rw [floor, (allotted_flags s).same (by decide)]; exact raised }
  have law := floorLaw_decision ready
  rw [periodBoundary_decided]
  generalize s.allotted.floorDecision = u at law
  exact law

theorem floorLaw_finalBoundary (h : s.FloorLaw) : s.finalBoundary.FloorLaw := by
  refine floorLaw_free h (fl := { s.floor with holder := none, challenger := none }) rfl ?_
    (finalBoundary_served s).floor
  obtain ⟨st, m, r, -, e⟩ := closedMarked_changes s
  have floor : s.closedMarked.floor = s.floor := by
    rw [e, (closed_result s).floor, (endedFinally_frame s).floor]
  rw [finalBoundary_eq, toStandby_eq, floor]

theorem floorLaw_openCaptureBody (f : Command) (s : State) (h : s.FloorLaw) : (openCaptureBody f s).FloorLaw := by
  unfold openCaptureBody
  split_ifs
  · exact h
  · exact h
  · exact h
  · have g := open_frame s
    have floor : s.openState.floor = { s.floor with holder := none, challenger := none, lastDecision := none } := by
      simp only [State.openState, State.addChange_floor, State.mapChans_floor]
    have law : s.openCapture.FloorLaw := floorLaw_free h (fl := s.openState.floor) (by rw [floor]) g.floor
      (g.flags.same (by decide))
    generalize s.openCapture = u at law
    exact law

/-! ## Every command -/

theorem floorLaw_scan (h : s.FloorLaw) (g : ScanFrame s t) : t.FloorLaw := by
  have ⟨_, _, _, _, _, _, _, _, flag⟩ := h
  refine h.congr (fun hs => by rwa [g.cap] at hs) (by rw [g.floor]) g.log (g.floorFlag flag) fun _ c => ?_
  obtain ⟨b, hb⟩ := g.chan c
  rw [hb]
  exact ⟨rfl, rfl⟩

theorem floorLaw_reset : State.reset.FloorLaw := ⟨fun _ => rfl, nofun, nofun, by decide⟩

theorem floorLaw_captureReset (h : s.FloorLaw) : s.captureReset.FloorLaw := by
  obtain ⟨-, -, -, low, high, low', high', -⟩ := h
  rw [captureReset_eq]
  exact ⟨fun _ => rfl, nofun, nofun, low, high, low', high', Nat.zero_le _, (by decide : flagSet 0#8 .floor = !([] : List FloorRecord).isEmpty)⟩

/-- A command that leaves the floor unit, its flag and every channel's settings and activity. -/
theorem State.FloorLaw.same (h : s.FloorLaw) (state : t.cap.state = s.cap.state) (floor : t.floor = s.floor)
    (flag : flagSet t.link.raised .floor = flagSet s.link.raised .floor)
    (chan : s.cap.state = .capturing → ∀ c,
      (t.chan c).settings = (s.chan c).settings ∧ (t.chan c).activity = (s.chan c).activity) : t.FloorLaw := by
  have ⟨_, _, _, _, _, _, _, _, raised⟩ := h
  exact h.congr (fun hs => state.symm.trans hs) (by rw [floor]) (by rw [floor]) (by rw [flag, floor]; exact raised) chan

theorem floorLaw_floorConfigBody (f : Command) (s : State) (h : s.FloorLaw) : (floorConfigBody f s).FloorLaw := by
  unfold floorConfigBody
  split
  · exact h
  · next range =>
    obtain ⟨standby, held, challenger, -, -, -, -, rest⟩ := h
    simp only [not_or] at range
    exact ⟨standby, held, challenger, by simp only [State.reply, State.enqueue]; omega,
      by simp only [State.reply, State.enqueue]; omega, by simp only [State.reply, State.enqueue]; omega,
      by simp only [State.reply, State.enqueue]; omega, rest⟩

/-- What the law reads of a state, the floor's flag apart, is the same after a command. -/
structure FloorInputs (s t : State) : Prop where
  state : t.cap.state = s.cap.state
  floor : t.floor = s.floor
  chan : s.cap.state = .capturing → ∀ c,
    (t.chan c).settings = (s.chan c).settings ∧ (t.chan c).activity = (s.chan c).activity

namespace FloorInputs

variable {u : State}

theorem refl (s : State) : FloorInputs s s := ⟨rfl, rfl, fun _ _ => ⟨rfl, rfl⟩⟩

theorem trans (h : FloorInputs s t) (g : FloorInputs t u) : FloorInputs s u where
  state := g.state.trans h.state
  floor := g.floor.trans h.floor
  chan hs c := by
    obtain ⟨a, b⟩ := g.chan (h.state.trans hs) c
    obtain ⟨a', b'⟩ := h.chan hs c
    exact ⟨a.trans a', b.trans b'⟩

theorem withLink (s : State) (l : Link) : FloorInputs s { s with link := l } := ⟨rfl, rfl, fun _ _ => ⟨rfl, rfl⟩⟩

theorem runCommand {body : Command → State → State} (hb : ∀ f s, FloorInputs s (body f s)) (code : Byte)
    (need : Command → State → Nat) (fits : Command → Bool) (s : State) :
    FloorInputs s (runCommand code need fits body s) :=
  runCommand_keeps (P := FloorInputs s) code need fits (fun t l h => h.trans (withLink t l))
    (fun f t h => h.trans (hb f t)) (refl s)

variable (f : Command) (s : State)

theorem routePatternBody : FloorInputs s (routePatternBody f s) := by
  obtain ⟨n, ch, l, h⟩ := routePatternBody_changes f s
  refine ⟨by rw [h], by rw [h], fun _ c => ?_⟩
  obtain ⟨r, p, hc⟩ := chan_routePatternBody f s c
  rw [hc]
  exact ⟨rfl, rfl⟩

theorem setProceedingBody : FloorInputs s (setProceedingBody f s) := by
  obtain ⟨p, ch, l, h⟩ := setProceedingBody_changes f s
  refine ⟨by rw [h], by rw [h], fun _ c => ?_⟩
  obtain ⟨p, hc⟩ := chan_setProceedingBody f s c
  rw [hc]
  exact ⟨rfl, rfl⟩

theorem setChannelBody : FloorInputs s (setChannelBody f s) := by
  obtain ⟨ch, l, h⟩ := setChannelBody_changes f s
  refine ⟨by rw [h], by rw [h], fun running c => ?_⟩
  rcases chan_setChannelBody f s c with hc | ⟨sel, o, -, -, hc⟩
  · rw [hc]
    exact ⟨rfl, rfl⟩
  · rw [hc, if_pos (capturing_iff.mpr running)]
    exact ⟨rfl, rfl⟩

theorem restartBody : FloorInputs s (restartBody f s) := by
  obtain ⟨k, ch, l, h⟩ := restartBody_changes f s
  refine ⟨?_, by rw [h], fun _ c => by rw [chan_restartBody]; exact ⟨rfl, rfl⟩⟩
  simp only [Machine.restartBody, State.dropPending, State.mapChans_cap]

theorem tick (raw : Vector Raw 26) : FloorInputs s (s.tick raw) := by
  obtain ⟨k, ch, x, y, h⟩ := tick_eq s raw
  refine ⟨by rw [cap_tick], by rw [h], fun _ c => ?_⟩
  rw [chan_tick]
  split_ifs
  · exact ⟨rfl, rfl⟩
  · exact ⟨rfl, rfl⟩

end FloorInputs

theorem LinkStep.endPin (s : State) (k : Nat) : LinkStep 0 s.link (s.endPin k).link := by
  simp only [State.endPin]
  refine .freed ?_ _
  rfl

theorem exec_keeps_floorLaw {c : Instr} (h : s.FloorLaw) (e : exec c s = .next t) : t.FloorLaw := by
  have frame := exec_frame e
  have stands (hs : serves c = true) (g : FloorInputs s t) : t.FloorLaw :=
    h.same g.state g.floor (exec_served hs e).floor g.chan
  have quiet (hs : serves c = true) (hc : Block.cap ∉ touched c ∧ .chans ∉ touched c ∧ .floor ∉ touched c) :
      t.FloorLaw := by
    obtain ⟨hc, hd, hf⟩ := hc
    refine stands hs ⟨congrArg Capture.state (frame .cap hc), frame .floor hf, fun _ d => ?_⟩
    rw [State.chan_congr (frame .chans hd) d]
    exact ⟨rfl, rfl⟩
  have scanned {u : State} (hu : u.FloorLaw) : u.scan.FloorLaw := floorLaw_scan hu (.scan u)
  have body {code : Byte} {need : Command → State → Nat} {fits : Command → Bool} {b : Command → State → State}
      (hb : ∀ f s, s.FloorLaw → (b f s).FloorLaw) : (runCommand code need fits b s).FloorLaw := by
    rcases runCommand_cases code need fits b s with e | ⟨f, rest, -, -, -, -, ⟨-, e⟩ | ⟨-, e⟩⟩ <;> rw [e]
    · exact h
    · exact hb f _ h
    · exact h
  cases c
  case sampleInstant raw =>
    refine stands rfl ?_
    cases e
    split_ifs
    · exact .tick s raw
    · exact .refl s
  case setChannel => exact stands rfl (by cases e; exact .runCommand .setChannelBody _ _ _ s)
  case routePattern => exact stands rfl (by cases e; exact .runCommand .routePatternBody _ _ _ s)
  case setProceeding => exact stands rfl (by cases e; exact .runCommand .setProceedingBody _ _ _ s)
  case closeCapture =>
    refine stands rfl ?_
    cases e
    refine .runCommand (fun f s => ?_) _ _ _ s
    obtain ⟨b, l, e⟩ := closeCaptureBody_changes f s
    rw [e]
    exact ⟨rfl, rfl, fun _ _ => ⟨rfl, rfl⟩⟩
  case loadPattern =>
    refine stands rfl ?_
    cases e
    refine .runCommand (fun f s => ?_) _ _ _ s
    obtain ⟨p, l, e⟩ := loadPatternBody_changes f s
    rw [e]
    exact ⟨rfl, rfl, fun _ _ => ⟨rfl, rfl⟩⟩
  case trimEnd =>
    refine stands rfl ?_
    cases e
    split_ifs
    · have g := TrimFrame.completeTrim s s.cap.period
      exact ⟨by rw [g.cap], g.floor, fun _ c => by rw [g.chan c]; exact ⟨rfl, rfl⟩⟩
    · exact .refl s
  case fullReset => cases e; exact floorLaw_reset
  case captureReset =>
    cases e
    split_ifs
    · exact floorLaw_captureReset h
    · exact h
  case periodBoundary =>
    cases e
    split_ifs with due
    · refine floorLaw_periodBoundary h ?_
      simp only [State.boundaryDue, Bool.and_eq_true] at due
      exact capturing_iff.mp due.1.1
    · exact h
  case finalBoundary =>
    cases e
    split_ifs
    · exact floorLaw_finalBoundary h
    · exact h
  case openCapture => cases e; exact body floorLaw_openCaptureBody
  case floorConfig => cases e; exact body floorLaw_floorConfigBody
  case restart =>
    cases e
    split
    · exact h
    · split_ifs
      · next f _ _ _ _ =>
        have g := FloorInputs.restartBody f s.popCommand
        exact h.same g.state g.floor (by simp only [restartBody, State.dropPending, State.mapChans_link]; rfl) g.chan
      · exact h
      · exact body fun _ _ h => h
  case laneScan => cases e; exact scanned h
  case holdRelease => cases e; exact scanned (u := { s with link := { s.link with hold := false } }) h
  case noticeFrameEnd =>
    cases e
    split_ifs
    · exact scanned (u := s.endFrame) h
    · exact h
  case blockFrameEnd =>
    cases e
    split_ifs
    · refine scanned ?_
      unfold State.enterCustody
      split
      · exact h
      · exact h
    · exact h
  case rereadFrameEnd =>
    cases e
    split
    · next k _ _ _ =>
      refine scanned ?_
      have flag := (LinkStep.endPin s.popReply k).floor
      obtain ⟨st, l, ended⟩ : ∃ st l, s.popReply.endPin k = { s with store := st, link := l } := by
        simp only [State.endPin]
        rw [(setFree_changes _ _).choose_spec]
        exact ⟨_, _, rfl⟩
      rw [ended] at flag ⊢
      exact h.same rfl rfl flag fun _ _ => ⟨rfl, rfl⟩
    · exact h
  case replyFrameEnd =>
    cases e
    split
    · exact scanned (u := s.popReply.endFrame) h
    · exact h
    · exact h
  all_goals exact quiet rfl (by simp [touched])

/-- Settles O57: each command keeps the law. -/
theorem stepKeepsFloorLaw : Obligations.StepKeepsFloorLaw := by
  unfold Obligations.StepKeepsFloorLaw
  exact fun s t h e => step_keeps (fun _ _ h => h) exec_keeps_floorLaw h e

end Sys2Proof.Machine
end

section
/-! SUPPORT. Each channel through the posting and the allocation of a boundary (R5, R9, R38, R133). -/

namespace Sys2Proof.Machine

/-- A fold whose turns touch their own channel alone: each channel of the list ends as its own turn leaves it, and every
other channel as it was. -/
theorem foldl_turns {f : State → Chan → State} {s : State} {Post : Chan → Channel → Prop}
    (own : ∀ (t : State) (c : Chan), t.chan c = s.chan c → Post c ((f t c).chan c))
    (other : ∀ (t : State) (c d : Chan), d ≠ c → (f t c).chan d = t.chan d) :
    ∀ (l : List Chan) (t : State), l.Nodup → (∀ c ∈ l, t.chan c = s.chan c) →
      (∀ c ∈ l, Post c ((l.foldl f t).chan c)) ∧ ∀ c ∉ l, (l.foldl f t).chan c = t.chan c
  | [], _, _, _ => ⟨nofun, fun _ _ => rfl⟩
  | c :: rest, t, nodup, untouched => by
    obtain ⟨apart, nodup⟩ := List.nodup_cons.mp nodup
    have later : ∀ d ∈ rest, (f t c).chan d = s.chan d := fun d hd => by
      rw [other t c d (fun e => apart (e ▸ hd))]
      exact untouched d (List.mem_cons_of_mem c hd)
    obtain ⟨done, kept⟩ := foldl_turns own other rest (f t c) nodup later
    refine ⟨fun d hd => ?_, fun d hd => ?_⟩
    · rcases List.mem_cons.mp hd with rfl | hd
      · rw [List.foldl_cons, kept d apart]
        exact own t d (untouched d List.mem_cons_self)
      · exact done d hd
    · rw [List.mem_cons, not_or] at hd
      rw [List.foldl_cons, kept d hd.2, other t c d hd.1]

variable {s : State} {c : Chan}

/-! ## The posting -/

/-- A channel after step (a), its chain value apart (R5, R133). -/
def Channel.posted (ch : Channel) (mark : Bool) (chain : BitVec 32) : Channel :=
  { ch with
    filling := none, block := none, chain := chain
    gapTally := if ch.filling.isSome = true then 0 else ch.gapTally
    handover := if ch.filling.isSome = true then ch.handover else ch.handover || mark }

theorem chan_postBlocks (before s : State) (c : Chan) :
    (s.postBlocks before).chan c = (s.chan c).posted (before.chan c).handover ((s.postBlocks before).chan c).chain ∧
      ((s.chan c).filling = none → ((s.postBlocks before).chan c).chain = (s.chan c).chain) := by
  refine (foldl_turns (s := s) (f := State.postChannel before) (Post := fun c ch =>
    ch = (s.chan c).posted (before.chan c).handover ch.chain ∧ ((s.chan c).filling = none → ch.chain = (s.chan c).chain))
    (fun t c ht => ?_) (fun t c d hd => ?_) allChans s (List.nodup_finRange 24) fun _ _ => rfl).1 c (List.mem_finRange c)
  · rcases postChannel_cases before t c with ⟨none, h⟩ | ⟨l, r, filled, -, h⟩ <;> rw [h, State.chan_modChan, if_pos rfl]
    · rw [ht] at none ⊢
      exact ⟨by simp [Channel.posted, none], fun _ => rfl⟩
    · have post : (t.post (.audio r)).chan c = s.chan c := ht
      rw [ht] at filled
      rw [post]
      exact ⟨by simp [Channel.posted, filled], fun h => absurd (filled.symm.trans h) (by simp)⟩
  · rcases postChannel_cases before t c with ⟨-, h⟩ | ⟨l, r, -, -, h⟩ <;>
      rw [h, State.chan_modChan_of_ne _ _ hd]
    rfl

/-! ## The allocation -/

theorem mem_requestOrder : c ∈ s.requestOrder ↔ (s.chan c).settings.enable = true := by
  simp only [State.requestOrder, State.ofClass, allChans, List.mem_append, List.mem_filter, List.mem_finRange, true_and,
    Bool.and_eq_true, beq_iff_eq]
  cases (s.chan c).settings.cls <;> simp

theorem chan_requestSlot_of_ne (t : State) {c d : Chan} (h : d ≠ c) : (State.requestSlot t c).chan d = t.chan d := by
  rcases requestSlot_cases t c with ⟨u, hu, e⟩ | ⟨-, e⟩ <;> rw [e]
  · obtain ⟨st, r, -, rfl⟩ := slotRequest_frame hu
    exact State.chan_modChan_of_ne _ _ h
  · have refused : (t.modChan c Channel.refused).chan d = t.chan d := State.chan_modChan_of_ne _ _ h
    split_ifs
    · exact refused
    · exact refused

theorem chan_requestSlot (t : State) (c : Chan) :
    (State.requestSlot t c).chan c = (t.chan c).granted ∨ (State.requestSlot t c).chan c = (t.chan c).refused := by
  rcases requestSlot_cases t c with ⟨u, hu, e⟩ | ⟨-, e⟩ <;> rw [e]
  · obtain ⟨st, r, -, rfl⟩ := slotRequest_frame hu
    exact .inl ((State.chan_modChan _ c c _).trans (if_pos rfl))
  · have refused : (t.modChan c Channel.refused).chan c = (t.chan c).refused :=
      (State.chan_modChan _ c c _).trans (if_pos rfl)
    split_ifs
    · exact .inr refused
    · exact .inr refused

/-- Each enabled channel is granted a slot or refused one; a disabled one makes no request (R9). -/
theorem chan_allocate (s : State) (c : Chan) : if (s.chan c).settings.enable = true
    then s.allocate.chan c = (s.chan c).granted ∨ s.allocate.chan c = (s.chan c).refused
    else s.allocate.chan c = s.chan c := by
  obtain ⟨requested, others⟩ := foldl_turns (s := s) (f := State.requestSlot)
    (Post := fun c ch => ch = (s.chan c).granted ∨ ch = (s.chan c).refused)
    (fun t c ht => ht ▸ chan_requestSlot t c) (fun t c d hd => chan_requestSlot_of_ne t hd) s.requestOrder s
    (requestOrder_nodup s) fun _ _ => rfl
  split_ifs with h
  · exact requested c (mem_requestOrder.mpr h)
  · exact others c fun hc => h (mem_requestOrder.mp hc)

end Sys2Proof.Machine
end

section
/-! SUPPORT. The channels' law, step after step (R21, R27, R91, R184). -/

namespace Sys2Proof.Machine

/-! ## Settings in range -/

/-- Selected values in their ranges (R15). -/
structure PendingSettings.Bounded (p : PendingSettings) : Prop where
  gain : ∀ x ∈ p.gain, x ≤ 65535
  openCode : ∀ x ∈ p.openCode, x ≤ 61
  hang : ∀ x ∈ p.hang, x ≤ 250

theorem getD_le {o : Option Nat} {d k : Nat} (ho : ∀ x ∈ o, x ≤ k) (hd : d ≤ k) : o.getD d ≤ k := by
  cases o with
  | none => exact hd
  | some x => exact ho x rfl

theorem Settings.InRange.over {x : Settings} {p : PendingSettings} (h : x.InRange) (hp : p.Bounded)
    (codes : (x.over p).closeCode ≤ (x.over p).openCode) : (x.over p).InRange := by
  obtain ⟨gain, openCode, -, hang⟩ := h
  exact ⟨getD_le hp.gain gain, getD_le hp.openCode openCode, codes, getD_le hp.hang hang⟩

@[simp] theorem Settings.over_empty (x : Settings) : x.over PendingSettings.empty = x := rfl

theorem getD_or {α : Type} (a b : Option α) (d : α) : (a <|> b).getD d = a.getD (b.getD d) := by
  cases a <;> rfl

/-- Fields selected later stand over those pending before (R10, R15). -/
theorem Settings.over_merge (x : Settings) (p q : PendingSettings) : x.over (p.merge q) = (x.over p).over q := by
  simp only [Settings.over, PendingSettings.merge, getD_or]

theorem selectedSettings_bounded {f : Command} {sel : PendingSettings} (h : f.selectedSettings = some sel) :
    sel.Bounded := by
  obtain ⟨range, -, -⟩ := selectedSettings_some h
  unfold Command.selectedSettings at h
  simp only [] at h
  split at h
  · cases h
  · cases h
    refine ⟨fun x hx => ?_, fun x hx => ?_, fun x hx => ?_⟩ <;> simp only [Command.field] at hx <;> split at hx
    · cases hx
      exact Nat.le_of_lt_succ (f.num_lt 7 2)
    · cases hx
    · next selected =>
      cases hx
      exact range.openCode selected
    · cases hx
    · next selected =>
      cases hx
      exact range.hang selected
    · cases hx

/-- A request that passes leaves every selected channel's codes in order (R15). -/
theorem checkedSettings_sound {f : Command} {s : State} {sel : PendingSettings} {o : Bool}
    (h : f.checkedSettings s = some (sel, o)) : sel.Bounded ∧ ∀ c, f.selects c = true →
      ((s.chan c).resulting sel).closeCode ≤ ((s.chan c).resulting sel).openCode := by
  unfold Command.checkedSettings at h
  split at h
  · cases h
  · split at h
    · next hsel =>
      split at h
      · next codes =>
        cases h
        refine ⟨selectedSettings_bounded hsel, fun c hc => ?_⟩
        have ordered := List.all_eq_true.mp codes c (List.mem_finRange c)
        simpa [hc] using ordered
      · cases h
    · cases h

/-! ## One channel -/

section
variable {ch : Channel} {b : Bool} {n : Nat}

/-- The activity state and the hang counter agree (R91). -/
def Activity.Agrees (a : Activity) (counter : Nat) : Prop :=
  (a ≠ .hanging → counter = 0) ∧ (a = .hanging → 1 ≤ counter ∧ counter ≤ 250)

/-- A block's evaluation keeps them in agreement (R92). -/
theorem activityNext_agrees {st : Settings} {a : Activity} {counter : Nat} (hang : st.hang ≤ 250)
    (h : a.Agrees counter) (code : Nat) : (activityNext st a counter code).1.Agrees (activityNext st a counter code).2 := by
  have calm {a : Activity} (ha : a ≠ .hanging) : a.Agrees 0 := ⟨fun _ => rfl, fun e => absurd e ha⟩
  have waits {k : Nat} (hk : 1 ≤ k ∧ k ≤ 250) : Activity.Agrees .hanging k := ⟨fun e => absurd rfl e, fun _ => hk⟩
  cases a with
  | quiet =>
    simp only [activityNext]
    split_ifs
    · exact calm nofun
    · exact calm nofun
  | active =>
    simp only [activityNext]
    split_ifs
    · exact calm nofun
    · exact calm nofun
    · exact waits (by omega)
  | hanging =>
    have := h.2 rfl
    simp only [activityNext]
    split_ifs
    · exact calm nofun
    · exact waits (by omega)
    · exact calm nofun

/-- The completion of a block (R21, R22, R92). -/
theorem Channel.Law.complete (h : ch.Law b 320) : ch.complete.Law b 320 := by
  obtain ⟨settings, pending, standby, calm, hangs, disabled, level, block, filling⟩ := h
  rw [Channel.complete_eq]
  cases hb : ch.block with
  | none =>
    simp only [Channel.heard, hb]
    exact ⟨settings, pending, standby, calm, hangs, disabled, level, by simp, filling⟩
  | some k =>
    obtain ⟨running, enabled, energy, peak, clipped⟩ := block k hb
    have ⟨_, _, _, hang⟩ := settings
    obtain ⟨calm, hangs⟩ := activityNext_agrees hang ⟨calm, hangs⟩ (levelCode k.energy)
    simp only [Channel.heard, hb]
    exact ⟨settings, pending, standby, calm, hangs, fun off => by simp [enabled] at off,
      (levelCode_range (by omega)).1, fun x hx => block x (by rw [hb]; exact hx), filling⟩

/-- After a posting no sample is held (R5). -/
theorem Channel.Law.posted (h : ch.Law true n) (mark : Bool) (chain : BitVec 32) (m : Nat) :
    (ch.posted mark chain).Law true m := by
  obtain ⟨settings, pending, -, calm, hangs, disabled, level, -, -⟩ := h
  exact ⟨settings, pending, nofun, calm, hangs, disabled, level, nofun, nofun⟩

/-- The law of a channel without samples does not read the instant, nor, with nothing pending, the capture state. -/
theorem Channel.Law.still (h : ch.Law b n) (block : ch.block = none) (filling : ch.filling = none)
    (pending : ch.pendingSettings = PendingSettings.empty) (b' : Bool) (m : Nat) : ch.Law b' m := by
  obtain ⟨settings, resulting, -, calm, hangs, disabled, level, -, -⟩ := h
  exact ⟨settings, resulting, fun _ => pending, calm, hangs, disabled, level, by simp [block], by simp [filling]⟩

/-- Settings brought into force over those of a channel; a channel disabled becomes QUIET (R7, R15, R93). -/
theorem Channel.Law.settle (h : ch.Law b n) (block : ch.block = none) (filling : ch.filling = none) {st : Settings}
    (range : st.InRange) : Channel.Law { ch with
      settings := st, pendingSettings := PendingSettings.empty
      activity := if st.enable then ch.activity else .quiet, hangCounter := if st.enable then ch.hangCounter else 0 } b n := by
  obtain ⟨-, -, -, calm, hangs, -, level, -, -⟩ := h
  refine ⟨range, range, fun _ => rfl, ?_, ?_, ?_, level, by simp [block], by simp [filling]⟩
  · cases st.enable with
    | true => exact calm
    | false => exact fun _ => rfl
  · cases st.enable with
    | true => exact hangs
    | false => exact nofun
  · cases st.enable with
    | true => exact nofun
    | false => exact fun _ => rfl

theorem Channel.Law.commitSettings (h : ch.Law b n) (block : ch.block = none) (filling : ch.filling = none) (b' : Bool)
    (m : Nat) : ch.commitSettings.Law b' m :=
  (h.settle block filling h.2.1).still block filling rfl b' m

/-- A channel that is granted a slot for the new period, or refused one (R9). -/
theorem Channel.Law.allotted (h : ch.Law true 0) (enabled : ch.settings.enable = true) (filling : ch.filling = none) :
    ch.granted.Law true 0 ∧ ch.refused.Law true 0 := by
  obtain ⟨settings, pending, -, calm, hangs, disabled, level, block, -⟩ := h
  refine ⟨⟨settings, pending, nofun, calm, hangs, disabled, level, block, fun l hl => ?_⟩,
    ⟨settings, pending, nofun, calm, hangs, disabled, level, block, fun l hl => ?_⟩⟩
  · cases hl
    exact ⟨rfl, enabled, rfl⟩
  · have none : ch.refused.filling = none := filling
    rw [none] at hl
    cases hl

/-- A channel of a capture that opens (R3, R91). -/
theorem Channel.Law.opened (h : ch.Law false n) : ch.opened.Law true 0 := by
  obtain ⟨settings, -, -, -, -, -, level, -, filling⟩ := h
  refine ⟨settings, settings, nofun, fun _ => rfl, nofun, fun _ => rfl, level, nofun, fun l hl => ?_⟩
  exact nomatch (filling l hl).1

theorem Channel.Law.restarted (h : ch.Law b n) : ch.restarted.Law false 0 :=
  ⟨h.1, h.1, fun _ => rfl, fun _ => rfl, nofun, fun _ => rfl, Nat.zero_le _, nofun, nofun⟩

theorem sample_natAbs (x : Sample) : x.toInt.natAbs ≤ 32768 := by
  have := x.le_toInt
  have := x.toInt_lt
  omega

/-- The running block once a sample is in it (R21). -/
theorem RunningBlock.add_le {k : RunningBlock} (h : k.energy ≤ n * 1073741824 ∧ k.peak ≤ 32768 ∧ k.clipped ≤ n)
    (x : Sample) (clip : Bool) : (k.add x clip).energy ≤ (n + 1) * 1073741824 ∧ (k.add x clip).peak ≤ 32768 ∧
      (k.add x clip).clipped ≤ n + 1 := by
  obtain ⟨energy, peak, clipped⟩ := h
  have le := sample_natAbs x
  have square : x.toInt.natAbs * x.toInt.natAbs ≤ 32768 * 32768 := Nat.mul_le_mul le le
  have := clip.toNat_le
  simp only [RunningBlock.add]
  exact ⟨by omega, by omega, by omega⟩

/-- A running channel's sample (R19, R21, R27). -/
theorem Channel.Law.take (h : ch.Law true n) (enabled : ch.settings.enable = true) (y : Int) :
    (ch.take n y).Law true (n + 1) := by
  obtain ⟨settings, pending, standby, calm, hangs, disabled, level, block, filling⟩ := h
  have start : RunningBlock.start.energy ≤ n * 1073741824 ∧ RunningBlock.start.peak ≤ 32768 ∧
      RunningBlock.start.clipped ≤ n := ⟨Nat.zero_le _, Nat.zero_le _, Nat.zero_le _⟩
  have before : (if n = 0 then RunningBlock.start else ch.block.getD RunningBlock.start).energy ≤ n * 1073741824 ∧
      (if n = 0 then RunningBlock.start else ch.block.getD RunningBlock.start).peak ≤ 32768 ∧
      (if n = 0 then RunningBlock.start else ch.block.getD RunningBlock.start).clipped ≤ n := by
    split_ifs
    · exact start
    · cases hb : ch.block with
      | none => exact start
      | some k => exact (block k hb).2.2
  refine ⟨settings, pending, standby, calm, hangs, disabled, level, fun k hk => ?_, fun l hl => ?_⟩
  · cases hk
    exact ⟨rfl, enabled, RunningBlock.add_le before _ _⟩
  · obtain ⟨l', hl', rfl⟩ := Option.map_eq_some_iff.mp hl
    exact ⟨rfl, enabled, by rw [List.length_append, (filling l' hl').2.2]; rfl⟩

/-- A channel that does not run holds no samples. -/
theorem Channel.Law.idle (h : ch.Law b n) (off : ¬ (b = true ∧ ch.settings.enable = true)) :
    ch.block = none ∧ ch.filling = none := by
  obtain ⟨-, -, -, -, -, -, -, block, filling⟩ := h
  refine ⟨Option.eq_none_iff_forall_ne_some.mpr fun k hk => off ?_, Option.eq_none_iff_forall_ne_some.mpr fun l hl => off ?_⟩
  · exact ⟨(block k hk).1, (block k hk).2.1⟩
  · exact ⟨(filling l hl).1, (filling l hl).2.1⟩

end

/-! ## The stored records -/

/-- Of the records a state holds, those of `s` apart, every one is whole. -/
def KeepsWhole (s t : State) : Prop := ∀ r ∈ t.store.records, r ∈ s.store.records ∨ r.Whole

namespace KeepsWhole

variable {s t u : State}

theorem refl (s : State) : KeepsWhole s s := fun _ h => .inl h

theorem trans (h : KeepsWhole s t) (g : KeepsWhole t u) : KeepsWhole s u := fun r hr => by
  rcases g r hr with hr | hr
  · exact h r hr
  · exact .inr hr

theorem same (h : t.store.records = s.store.records) : KeepsWhole s t := fun _ hr => .inl (h ▸ hr)

theorem setFree (s : State) (n : Nat) : KeepsWhole s (s.setFree n) := same (by rw [setFree_eq]; rfl)

/-- A posted record is whole or was not there before. -/
theorem post {r : Record} (s : State) (h : r.Whole) : KeepsWhole s (s.post r) := fun x hx => by
  simp only [State.post, Store.records, List.map_append, List.mem_append, List.map_cons, List.map_nil,
    List.mem_singleton] at hx
  simp only [Store.records, List.mem_append]
  rcases hx with (hx | hx) | hx | rfl
  · exact .inl (.inl (.inl hx))
  · exact .inl (.inl (.inr hx))
  · exact .inl (.inr hx)
  · exact .inr h

theorem slotRequest {k : Class} (h : s.slotRequest k = some t) : KeepsWhole s t := by
  rcases slotRequest_some h with ⟨-, rfl⟩ | ⟨-, -, h⟩
  · exact setFree s _
  · obtain ⟨a, x, b, -, hc, -, -, rfl⟩ := reclaimSlot_some h
    intro r hr
    simp only [State.raise, Store.records, hc, List.map_append, List.map_cons, List.mem_append, List.mem_cons] at hr ⊢
    tauto

theorem takeMarkers (s : State) (period : Nat) (tag : Tag) (st : Stamp) : KeepsWhole s (s.takeMarkers period tag st) := by
  unfold State.takeMarkers
  split_ifs
  · exact refl s
  · split
    · next u hu => exact (slotRequest hu).trans (post u (r := .marker _) trivial)
    · exact refl s

theorem requestSlot (s : State) (c : Chan) : KeepsWhole s (State.requestSlot s c) := by
  rcases requestSlot_cases s c with ⟨u, hu, e⟩ | ⟨-, e⟩ <;> rw [e]
  · exact (slotRequest hu).trans (refl u)
  · split_ifs
    · exact refl s
    · exact refl s

theorem allocate (s : State) : KeepsWhole s s.allocate :=
  foldl_keeps (P := KeepsWhole s) (fun t c ht => ht.trans (requestSlot t c)) _ (refl s)

/-- The FILLING slots of a period that has ended are whole. -/
theorem postBlocks (before s : State) (h : ∀ c, ∀ l ∈ (s.chan c).filling, l.length = 320) :
    KeepsWhole s (s.postBlocks before) := by
  refine (foldl_keeps (P := fun t => KeepsWhole s t ∧ ∀ c, ∀ l ∈ (t.chan c).filling, l.length = 320)
    (fun t c ht => ?_) allChans ⟨refl s, h⟩).1
  obtain ⟨kept, filled⟩ := ht
  rcases postChannel_cases before t c with ⟨none, e⟩ | ⟨l, r, hl, hr, e⟩ <;> rw [e]
  · refine ⟨kept, fun d => ?_⟩
    rw [State.chan_modChan]
    split_ifs with hd
    · rw [← hd]
      exact filled d
    · exact filled d
  · refine ⟨kept.trans (post t (r := .audio r) (hr ▸ filled c l hl)), fun d => ?_⟩
    rw [State.chan_modChan]
    split_ifs
    · exact nofun
    · exact filled d

end KeepsWhole

end Sys2Proof.Machine
end

section
/-! SUPPORT. What each command leaves of the channels' law (R4, R21, R27, R91, R184). -/

namespace Sys2Proof.Machine

variable {s t : State}

/-! ## The boundaries -/

/-- A boundary falls after the last sample instant of a period. -/
theorem boundaryDue_iff : s.boundaryDue = true ↔ s.cap.state = .capturing ∧ s.cap.instant = 320 := by
  simp [State.boundaryDue, State.capturing]

/-- What is posted at a boundary has been completed and is whole (R5, R21, R22). -/
theorem channelLaw_posted (h : s.ChannelLaw) (due : s.boundaryDue = true) {u : State} (store : u.store = s.store)
    (chan : ∀ c, u.chan c = { (s.chan c).complete with
      handover := (u.chan c).handover, mismatch := (u.chan c).mismatch, noSpare := (u.chan c).noSpare }) :
    (∀ c m, ((u.postBlocks s).chan c).Law true m ∧ ((u.postBlocks s).chan c).block = none ∧
      ((u.postBlocks s).chan c).filling = none) ∧ KeepsWhole s (u.postBlocks s) := by
  obtain ⟨running, last⟩ := boundaryDue_iff.mp due
  obtain ⟨-, -, law, -⟩ := h
  have capturing : s.capturing = true := capturing_iff.mpr running
  rw [capturing, last] at law
  have complete (c : Chan) : (u.chan c).Law true 320 := by
    rw [chan c]
    exact (law c).complete
  refine ⟨fun c m => ?_, ?_⟩
  · rw [(chan_postBlocks s u c).1]
    exact ⟨(complete c).posted _ _ m, rfl, rfl⟩
  · refine (KeepsWhole.same (by rw [store])).trans (.postBlocks s u fun c l hl => ?_)
    exact ((complete c).2.2.2.2.2.2.2.2 l hl).2.2

theorem chan_ended (s : State) (h : s.ChannelLaw) (due : s.boundaryDue = true) :
    (∀ c m, (s.ended.chan c).Law true m ∧ (s.ended.chan c).block = none ∧ (s.ended.chan c).filling = none) ∧
      KeepsWhole s s.ended := by
  have trim := TrimFrame.trimBoundaryWork s.completeBlocks.clearMarks (wrapInc s.cap.period) s.enabledNext
  refine channelLaw_posted h due ?_ fun c => ?_
  · rw [trim.store, State.clearMarks, State.mapChans_store, State.completeBlocks, State.mapChans_store]
  · rw [trim.chan c, chan_clearMarks, chan_completeBlocks]

theorem chan_endedFinally (s : State) (h : s.ChannelLaw) (due : s.boundaryDue = true) :
    (∀ c m, (s.endedFinally.chan c).Law true m ∧ (s.endedFinally.chan c).block = none ∧
      (s.endedFinally.chan c).filling = none) ∧ KeepsWhole s s.endedFinally := by
  have trim := TrimFrame.trimFinalWork s.completeBlocks
  refine channelLaw_posted h due ?_ fun c => ?_
  · rw [trim.store, State.completeBlocks, State.mapChans_store]
  · rw [trim.chan c, chan_completeBlocks]

theorem Channel.Law.committed {ch : Channel} {b : Bool} {n : Nat} (h : ch.Law b n) (block : ch.block = none)
    (filling : ch.filling = none) (p : Proceeding) (b' : Bool) (m : Nat) : (ch.committed p).Law b' m :=
  h.commitSettings block filling b' m

/-- The channels of a period that begins, granted or refused their slots (R9). -/
theorem channelLaw_allocate (h : ∀ c, (s.chan c).Law true 0 ∧ (s.chan c).filling = none) (c : Chan) :
    (s.allocate.chan c).Law true 0 := by
  obtain ⟨law, filling⟩ := h c
  have turn := chan_allocate s c
  split_ifs at turn with enabled
  · rcases turn with e | e <;> rw [e]
    · exact (law.allotted enabled filling).1
    · exact (law.allotted enabled filling).2
  · rw [turn]
    exact law

theorem channelLaw_periodBoundary (h : s.ChannelLaw) (due : s.boundaryDue = true) : s.periodBoundary.ChannelLaw := by
  obtain ⟨ended, whole⟩ := chan_ended s h due
  have commit := committed_result s
  have renumbered (c : Chan) : s.renumbered.chan c = s.ended.chan c := State.chan_congr (by simp only [State.renumbered]) c
  have committed (c : Chan) : (s.committed.chan c).Law true 0 ∧ (s.committed.chan c).filling = none := by
    obtain ⟨law, block, filling⟩ := ended c 0
    rw [commit.chan c, renumbered c]
    generalize s.ended.chan c = ch at law block filling ⊢
    exact ⟨law.committed block filling _ true 0, filling⟩
  obtain ⟨st, m, r, -, marked⟩ := takeMarkers_changes s.committed s.committed.cap.period
    (markerTag s.committed.cap.proceeding) s.committed.stampNow
  have records : KeepsWhole s s.allotted := by
    refine whole.trans (.trans (.same ?_) (.trans (.takeMarkers s.committed _ _ _) (.allocate _)))
    rw [commit.store]
    simp only [State.renumbered]
  have allotted (c : Chan) : (s.allotted.chan c).Law true 0 := by
    rw [State.allotted]
    refine channelLaw_allocate (fun d => ?_) c
    rw [State.chan_congr (s := s.committed) (by rw [marked])]
    exact committed d
  have running : s.allotted.cap.state = .capturing := by
    rw [cap_allotted, commitProceeding_cap]
    exact (boundaryDue_iff.mp due).1
  obtain ⟨fl, r', -, decided⟩ := floorDecision_frame s.allotted
  obtain ⟨-, -, -, held⟩ := h
  rw [periodBoundary_decided, decided]
  generalize s.allotted = u at records allotted running ⊢
  refine ⟨Nat.zero_le _, fun _ => rfl, fun c => ?_, fun x hx => (records x hx).elim (held x) id⟩
  have capturing : u.capturing = true := capturing_iff.mpr running
  exact capturing.symm ▸ allotted c

theorem channelLaw_finalBoundary (h : s.ChannelLaw) (due : s.boundaryDue = true) : s.finalBoundary.ChannelLaw := by
  obtain ⟨ended, whole⟩ := chan_endedFinally s h due
  have close := closed_result s
  have records : KeepsWhole s s.closedMarked :=
    whole.trans (.trans (.same (by rw [close.store])) (.takeMarkers s.closed _ _ _))
  obtain ⟨-, -, -, held⟩ := h
  rw [finalBoundary_eq]
  have eq := toStandby_eq s.closedMarked s.endReason s.endCause
  have cap := congrArg State.cap eq
  have store := congrArg State.store eq
  refine ⟨by rw [cap]; exact Nat.zero_le _, fun _ => by rw [cap], fun c => ?_, fun x hx => ?_⟩
  · have standby : (s.closedMarked.toStandby s.endReason s.endCause).capturing = false :=
      capturing_false_iff.mpr (by rw [cap])
    obtain ⟨law, block, filling⟩ := ended c 0
    rw [standby, chan_toStandby, chan_closedMarked]
    generalize s.endedFinally.chan c = ch at law block filling ⊢
    exact law.commitSettings block filling false _
  · rw [store] at hx
    generalize s.closedMarked = u at records hx
    exact (records x hx).elim (held x) id

/-- The channels of a capture that opens, once the marker request is decided. -/
theorem chan_openedMarked (s : State) (c : Chan) : s.openedMarked.chan c = { (s.chan c).opened with
    mismatch := (s.openedMarked.chan c).mismatch, handover := (s.openedMarked.chan c).handover
    noSpare := (s.openedMarked.chan c).noSpare } := by
  have trim := (TrimFrame.trimOpenWork s.openState).chan c
  rw [chan_openState] at trim
  have same : s.openedMarked.chan c = s.openState.trimOpenWork.chan c := by
    simp only [State.openedMarked]
    generalize s.openState.trimOpenWork = u
    obtain ⟨st, m, r, -, e⟩ := takeMarkers_changes u 0 .recess u.stampNow
    exact State.chan_congr (by rw [e]) c
  rw [same]
  exact trim

theorem records_openedMarked (s : State) : KeepsWhole s s.openedMarked := by
  have store : s.openState.trimOpenWork.store = s.store := by
    obtain ⟨k, ch, mk, fl, x, opened⟩ := openState_frame s
    rw [(TrimFrame.trimOpenWork s.openState).store, opened]
  simp only [State.openedMarked]
  generalize s.openState.trimOpenWork = u at store ⊢
  exact .trans (.same (by rw [store])) (.takeMarkers u 0 .recess _)

theorem openCapture_eq (s : State) : s.openCapture = s.openedMarked.allocate := by
  simp only [State.openCapture, State.openedMarked]

theorem channelLaw_openCapture (h : s.ChannelLaw) (standby : s.cap.state = .standby) : s.openCapture.ChannelLaw := by
  obtain ⟨-, -, law, held⟩ := h
  rw [capturing_false_iff.mpr standby] at law
  have cap := (open_frame s).cap.trans (cap_openState s)
  have chan (c : Chan) : (s.openedMarked.chan c).Law true 0 ∧ (s.openedMarked.chan c).filling = none := by
    have opened := chan_openedMarked s c
    generalize s.openedMarked.chan c = ch at opened ⊢
    rw [opened]
    exact ⟨(law c).opened, ((law c).idle (by simp)).2⟩
  have records := records_openedMarked s
  rw [openCapture_eq] at cap ⊢
  generalize s.openedMarked = u at cap chan records ⊢
  have records := records.trans (.allocate u)
  have allotted := channelLaw_allocate chan
  generalize u.allocate = v at cap records allotted ⊢
  have capturing : v.capturing = true := capturing_iff.mpr (by rw [cap])
  refine ⟨by rw [cap]; exact Nat.zero_le _, fun _ => by rw [cap], fun c => ?_, fun x hx => (records x hx).elim (held x) id⟩
  rw [capturing, cap]
  exact allotted c

/-! ## The sample instant -/

theorem channelLaw_tick (h : s.ChannelLaw) (free : s.tickFree = true) (raw : Vector Raw 26) : (s.tick raw).ChannelLaw := by
  obtain ⟨last, standby, law, held⟩ := h
  obtain ⟨due, -⟩ := (tickFree_iff s).mp free
  have cap := cap_tick s raw
  have state : (s.tick raw).capturing = s.capturing := by
    rw [State.capturing, cap]
    rfl
  obtain ⟨k, ch, x, y, frame⟩ := tick_eq s raw
  refine ⟨?_, ?_, fun c => ?_, by rw [frame]; exact held⟩
  · rw [cap]
    simp only []
    split_ifs with running
    · have before : s.cap.instant ≠ 320 := fun e => due ⟨capturing_iff.mp running, e⟩
      omega
    · exact last
  · rw [cap]
    intro hs
    simp only [capturing_false_iff.mpr hs]
    exact standby hs
  · rw [state, chan_tick, cap]
    simp only []
    cases hc : s.capturing with
    | false =>
      have idle : s.runs c = false := by simp [State.runs, hc]
      have this := law c
      rw [hc] at this
      rw [idle]
      exact this
    | true =>
      have this : (s.chan c).Law true s.cap.instant := hc ▸ law c
      cases he : (s.chan c).settings.enable with
      | true =>
        rw [State.runs, hc, he]
        exact this.take he _
      | false =>
        obtain ⟨block, filling⟩ := this.idle (by simp [he])
        obtain ⟨settings, pending, -, calm, hangs, disabled, level, -, -⟩ := this
        rw [State.runs, hc, he]
        exact ⟨settings, pending, nofun, calm, hangs, disabled, level, by simp [block], by simp [filling]⟩

/-! ## Every command -/

/-- A step within one sample instant: each channel keeps its law, and no record but a whole one is stored. -/
structure ChannelStep (s t : State) : Prop where
  state : t.cap.state = s.cap.state
  instant : t.cap.instant = s.cap.instant
  chan : ∀ c, (s.chan c).Law s.capturing s.cap.instant → (t.chan c).Law s.capturing s.cap.instant
  records : KeepsWhole s t

theorem State.ChannelLaw.step (h : s.ChannelLaw) (g : ChannelStep s t) : t.ChannelLaw := by
  obtain ⟨last, standby, law, held⟩ := h
  have state : t.capturing = s.capturing := by rw [State.capturing, g.state, State.capturing]
  refine ⟨g.instant ▸ last, fun hs => g.instant.trans (standby (g.state.symm.trans hs)), fun c => ?_,
    fun r hr => (g.records r hr).elim (held r) id⟩
  rw [state, g.instant]
  exact g.chan c (law c)

namespace ChannelStep

theorem refl (s : State) : ChannelStep s s := ⟨rfl, rfl, fun _ => id, .refl s⟩

theorem withLink (s : State) (l : Link) : ChannelStep s { s with link := l } := ⟨rfl, rfl, fun _ => id, .refl s⟩

theorem trans {u : State} (h : ChannelStep s t) (g : ChannelStep t u) : ChannelStep s u where
  state := g.state.trans h.state
  instant := g.instant.trans h.instant
  chan c law := by
    have chan := g.chan c
    have state : t.capturing = s.capturing := by rw [State.capturing, h.state, State.capturing]
    rw [state, h.instant] at chan
    exact chan (h.chan c law)
  records := h.records.trans g.records

theorem runCommand {body : Command → State → State} (hb : ∀ f s, ChannelStep s (body f s)) (code : Byte)
    (need : Command → State → Nat) (fits : Command → Bool) (s : State) :
    ChannelStep s (Machine.runCommand code need fits body s) :=
  runCommand_keeps (P := ChannelStep s) code need fits (fun t l h => h.trans (withLink t l))
    (fun f t h => h.trans (hb f t)) (refl s)

variable (f : Command) (s : State)

theorem routePatternBody : ChannelStep s (routePatternBody f s) := by
  obtain ⟨n, ch, l, h⟩ := routePatternBody_changes f s
  refine ⟨by rw [h], by rw [h], fun c law => ?_, .same (by rw [h])⟩
  obtain ⟨r, p, hc⟩ := chan_routePatternBody f s c
  rw [hc]
  exact law

theorem setProceedingBody : ChannelStep s (setProceedingBody f s) := by
  obtain ⟨p, ch, l, h⟩ := setProceedingBody_changes f s
  refine ⟨by rw [h], by rw [h], fun c law => ?_, .same (by rw [h])⟩
  obtain ⟨p, hc⟩ := chan_setProceedingBody f s c
  rw [hc]
  exact law

/-- A SET_CHANNEL that passes leaves values in range, in force in STANDBY, else pending (R15). -/
theorem setChannelBody : ChannelStep s (setChannelBody f s) := by
  obtain ⟨ch, l, h⟩ := setChannelBody_changes f s
  refine ⟨by rw [h], by rw [h], fun c law => ?_, .same (by rw [h])⟩
  rcases chan_setChannelBody f s c with hc | ⟨sel, o, checked, selected, hc⟩ <;> rw [hc]
  · exact law
  · obtain ⟨bounded, codes⟩ := checkedSettings_sound checked
    have codes := codes c selected
    rw [Channel.resulting, Settings.over_merge] at codes
    have ⟨settings, pending, standby, calm, hangs, disabled, level, block, filling⟩ := law
    have range := pending.over bounded codes
    split_ifs with running
    · rw [running] at law block filling ⊢
      exact ⟨settings, by rw [Settings.over_merge]; exact range, nofun, calm, hangs, disabled, level, block, filling⟩
    · have off : s.capturing = false := by simpa using running
      obtain ⟨block, filling⟩ := law.idle (by simp [off])
      rw [standby off, Settings.over_empty] at range
      have settled := law.settle block filling range
      have empty : (s.chan c).pendingSettings = PendingSettings.empty := standby off
      rw [← empty] at settled
      exact settled

theorem restartBody : ChannelStep s (restartBody f s) := by
  obtain ⟨k, ch, l, h⟩ := restartBody_changes f s
  have cap : (Machine.restartBody f s).cap.state = s.cap.state ∧ (Machine.restartBody f s).cap.instant = s.cap.instant := by
    simp only [Machine.restartBody, State.dropPending, State.mapChans_cap, and_self]
  refine ⟨cap.1, cap.2, fun c law => ?_, .same (by rw [h])⟩
  obtain ⟨settings, -, -, calm, hangs, disabled, level, block, filling⟩ := law
  rw [chan_restartBody]
  exact ⟨settings, settings, fun _ => rfl, calm, hangs, disabled, level, block, filling⟩

theorem releaseTo (k : Nat) : ChannelStep s (s.releaseTo k) := by
  simp only [State.releaseTo]
  rw [setFree_eq]
  refine ⟨rfl, rfl, fun _ => id, fun r hr => .inl ?_⟩
  simp only [Store.records, List.mem_append, List.mem_map, List.mem_filter] at hr ⊢
  rcases hr with (⟨y, ⟨x, ⟨hx, -⟩, rfl⟩, rfl⟩ | hr) | hr
  · exact .inl (.inl ⟨x, hx, by unfold HeldSlot.afterRelease; split <;> rfl⟩)
  · exact .inl (.inr hr)
  · exact .inr hr

theorem releaseBody : ChannelStep s (releaseBody f s) := by
  simp only [Machine.releaseBody]
  split_ifs
  · exact withLink s _
  · exact (releaseTo s _).trans (withLink _ _)

theorem readHeldBody : ChannelStep s (readHeldBody f s) := by
  unfold Machine.readHeldBody
  split
  · refine ⟨rfl, rfl, fun _ => id, .same ?_⟩
    simp [State.readHeld, State.reply, State.enqueue, Store.records, Function.comp_def]
  · exact withLink s _

theorem storePolicyBody : ChannelStep s (storePolicyBody f s) := by
  unfold Machine.storePolicyBody
  split
  · exact withLink s _
  · simp only []
    split_ifs
    · exact withLink s _
    · rw [setPolicy_eq]
      exact ⟨rfl, rfl, fun _ => id, .same rfl⟩

theorem scanned (g : ScanFrame s t) : ChannelStep s t where
  state := by rw [g.cap]
  instant := by rw [g.cap]
  chan c law := by
    obtain ⟨b, hb⟩ := g.chan c
    rw [hb]
    exact law
  records r hr := .inl (g.records r hr)

theorem enterCustody : ChannelStep s s.enterCustody := by
  unfold State.enterCustody
  split
  · exact refl s
  · next r hr =>
    refine ⟨rfl, rfl, fun _ => id, .same ?_⟩
    simp [Store.records, hr]

theorem endPin (k : Nat) : ChannelStep s (s.endPin k) := by
  simp only [State.endPin]
  rw [setFree_eq]
  refine ⟨rfl, rfl, fun _ => id, fun r hr => .inl ?_⟩
  simp only [Store.records, List.mem_append, List.mem_map, List.mem_filter] at hr ⊢
  rcases hr with (⟨y, ⟨⟨x, hx, rfl⟩, -⟩, rfl⟩ | hr) | hr
  · exact .inl (.inl ⟨x, hx, (x.unpin_record k).symm⟩)
  · exact .inl (.inr hr)
  · exact .inr hr

end ChannelStep

theorem channelLaw_reset : State.reset.ChannelLaw := by
  have records : State.reset.store.records = [] := rfl
  have standby : State.reset.capturing = false := rfl
  have instant : State.reset.cap.instant = 0 := rfl
  refine ⟨Nat.zero_le _, fun _ => instant, fun c => ?_, fun r hr => by rw [records] at hr; cases hr⟩
  rw [chan_reset, standby, instant]
  have range : Settings.reset.InRange := by
    unfold Settings.InRange
    decide
  exact ⟨range, range, fun _ => rfl, fun _ => rfl, nofun, fun _ => rfl, Nat.zero_le _, nofun, nofun⟩

theorem channelLaw_captureReset (h : s.ChannelLaw) : s.captureReset.ChannelLaw := by
  obtain ⟨-, -, law, -⟩ := h
  have chan (c : Chan) : (s.captureReset.chan c).Law false 0 := by
    rw [chan_captureReset]
    exact (law c).restarted
  have cap : s.captureReset.cap = s.cap.restarted := by rw [captureReset_eq]
  have records : s.captureReset.store.records = [] := by rw [captureReset_eq]; rfl
  generalize s.captureReset = u at cap records chan ⊢
  refine ⟨by rw [cap]; exact Nat.zero_le _, fun _ => by rw [cap]; rfl, fun c => ?_,
    fun r hr => by rw [records] at hr; cases hr⟩
  have standby : u.capturing = false := capturing_false_iff.mpr (by rw [cap]; rfl)
  rw [standby, cap]
  exact chan c

theorem exec_keeps_channelLaw {c : Instr} (h : s.ChannelLaw) (e : exec c s = .next t) : t.ChannelLaw := by
  have frame := exec_frame e
  have quiet (hc : Block.cap ∉ touched c ∧ .chans ∉ touched c ∧ .store ∉ touched c) : t.ChannelLaw := by
    obtain ⟨hk, hd, hst⟩ := hc
    refine h.step ⟨congrArg Capture.state (frame .cap hk), congrArg Capture.instant (frame .cap hk), fun d law => ?_,
      .same (congrArg Store.records (frame .store hst))⟩
    rw [State.chan_congr (frame .chans hd) d]
    exact law
  have scanned {u : State} (g : ChannelStep s u) : u.scan.ChannelLaw := (h.step g).step (.scanned u (.scan u))
  have body {code : Byte} {need : Command → State → Nat} {fits : Command → Bool} {b : Command → State → State}
      (hb : ∀ f s, ChannelStep s (b f s)) : (runCommand code need fits b s).ChannelLaw :=
    h.step (.runCommand hb code need fits s)
  cases c
  case sampleInstant raw =>
    cases e
    split_ifs with free
    · exact channelLaw_tick h free raw
    · exact h
  case setChannel => cases e; exact body .setChannelBody
  case routePattern => cases e; exact body .routePatternBody
  case setProceeding => cases e; exact body .setProceedingBody
  case release => cases e; exact body .releaseBody
  case readHeld => cases e; exact body .readHeldBody
  case storePolicy => cases e; exact body .storePolicyBody
  case closeCapture =>
    cases e
    refine body fun f s => ?_
    obtain ⟨b, l, e⟩ := closeCaptureBody_changes f s
    rw [e]
    exact ⟨rfl, rfl, fun _ => id, .refl s⟩
  case loadPattern =>
    cases e
    refine body fun f s => ?_
    obtain ⟨p, l, e⟩ := loadPatternBody_changes f s
    rw [e]
    exact ⟨rfl, rfl, fun _ => id, .refl s⟩
  case trimEnd =>
    cases e
    split_ifs
    · have g := TrimFrame.completeTrim s s.cap.period
      exact h.step ⟨by rw [g.cap], by rw [g.cap], fun d law => by rw [g.chan d]; exact law, .same (by rw [g.store])⟩
    · exact h
  case fullReset => cases e; exact channelLaw_reset
  case captureReset =>
    cases e
    split_ifs
    · exact channelLaw_captureReset h
    · exact h
  case periodBoundary =>
    cases e
    split_ifs with due
    · exact channelLaw_periodBoundary h due.1
    · exact h
  case finalBoundary =>
    cases e
    split_ifs with due
    · exact channelLaw_finalBoundary h due.1
    · exact h
  case openCapture =>
    cases e
    refine runCommand_keeps (P := State.ChannelLaw) _ _ _ (fun _ _ h => h) (fun f s h => ?_) h
    unfold openCaptureBody
    split_ifs with running
    · exact h
    · exact h
    · exact h
    · have law := channelLaw_openCapture h (capturing_false_iff.mp (by simpa using running))
      generalize s.openCapture = u at law
      exact law
  case restart =>
    cases e
    split
    · exact h
    · split_ifs
      · next f _ _ _ _ => exact h.step (.trans (.withLink s _) (.restartBody f s.popCommand))
      · exact h
      · exact body fun f s => .refl s
  case laneScan => cases e; exact scanned (.refl s)
  case holdRelease => cases e; exact scanned (.withLink s _)
  case noticeFrameEnd =>
    cases e
    split_ifs
    · exact scanned (.withLink s _)
    · exact h
  case blockFrameEnd =>
    cases e
    split_ifs
    · exact scanned ((ChannelStep.enterCustody s).trans (.withLink _ _))
    · exact h
  case rereadFrameEnd =>
    cases e
    split
    · next k _ _ _ => exact scanned ((ChannelStep.withLink s _).trans ((ChannelStep.endPin s.popReply k).trans (.withLink _ _)))
    · exact h
  case replyFrameEnd =>
    cases e
    split
    · exact scanned (.withLink s _)
    · exact h
    · exact h
  all_goals exact quiet (by simp [touched])

/-- Settles O55: each command keeps the law. -/
theorem stepKeepsChannelLaw : Obligations.StepKeepsChannelLaw := by
  unfold Obligations.StepKeepsChannelLaw
  exact fun s t h e => step_keeps (fun _ _ h => h) exec_keeps_channelLaw h e

end Sys2Proof.Machine
end

section
/-! SUPPORT. A boundary that is not final: the commit of the pending set (R4, R7, R78), and the floor decision (R95 to R102). -/

namespace Sys2Proof.Machine

variable {s : State}

/-! ## The boundary as a step -/

theorem exec_periodBoundary (h : s.AtBoundary) : exec .periodBoundary s = .next s.periodBoundary := by
  obtain ⟨running, last, noClose, below⟩ := h
  have due : s.boundaryDue = true := boundaryDue_iff.mpr ⟨running, last⟩
  have limit : s.atLimit = false := decide_eq_false (Nat.not_lt.mpr below)
  exact congrArg Host.Outcome.next (if_pos ⟨due, by simp [State.finalDue, noClose, limit]⟩)

/-- What the floor decision leaves of the state the marker step and the allocation have made (R8, R9, R95). -/
theorem decided_frame (s : State) : ∃ fl r, RaisedWithin [.floor] s.allotted.link.raised r ∧ s.periodBoundary =
    { s.allotted with
      cap := { s.allotted.cap with instant := 0 }, floor := fl, link := { s.allotted.link with raised := r } } := by
  obtain ⟨fl, r, hr, h⟩ := floorDecision_frame s.allotted
  rw [periodBoundary_decided]
  generalize s.allotted = u at hr h ⊢
  rw [h]
  exact ⟨fl, r, hr, rfl⟩

/-- A part that the floor decision leaves alone. -/
theorem decided_keeps {β : Type} (g : State → β) (hg : ∀ (t : State) k fl l, g { t with cap := k, floor := fl, link := l } = g t)
    (s : State) : g s.periodBoundary = g s.allotted := by
  obtain ⟨fl, r, -, h⟩ := decided_frame s
  rw [h]
  exact hg _ _ _ _

theorem chan_periodBoundary (s : State) (c : Chan) : s.periodBoundary.chan c = s.allotted.chan c :=
  decided_keeps (fun t => t.chan c) (fun _ _ _ _ => rfl) s

/-- The flags a boundary may raise (R171). -/
theorem flags_periodBoundary (s : State) :
    RaisedWithin [.converter, .proceeding, .store, .marker, .floor] s.link.raised s.periodBoundary.link.raised := by
  obtain ⟨fl, r, hr, h⟩ := decided_frame s
  have raised : s.periodBoundary.link.raised = r := by rw [h]
  rw [raised]
  exact ((allotted_flags s).mono (by simp)).trans (hr.mono (by simp))

/-- PROCEEDING is raised by the commit of a pending proceeding (R78). -/
theorem proceeding_flag_periodBoundary (s : State) : flagSet s.periodBoundary.link.raised .proceeding =
    (flagSet s.link.raised .proceeding || s.cap.pendingProceeding.isSome) := by
  obtain ⟨⟨st, ch, m, fl, r, hr, h⟩, -⟩ := opening_frame s
  have raised : s.periodBoundary.link.raised = r := by rw [h]
  have begun := ended_frame s
  have same : s.renumbered.link.raised = s.ended.link.raised ∧
      s.renumbered.cap.pendingProceeding = s.ended.cap.pendingProceeding := by
    simp only [State.renumbered, and_self]
  rw [raised, hr.same (by decide), (committed_result s).flag, same.1, same.2, begun.flags.same (by decide), begun.cap]

/-- The settings of a channel after the commit (R7). -/
theorem settings_allotted (s : State) (c : Chan) : (s.allotted.chan c).settings = s.newSettings c ∧
    (s.allotted.chan c).pendingSettings = PendingSettings.empty := by
  have opened := Channel.eq_of_besidesSlots ((opening_frame s).chan c)
  have ended := (ended_frame s).chan c
  have chan : s.renumbered.chan c = s.ended.chan c := State.chan_congr (by simp only [State.renumbered]) c
  rw [(committed_result s).chan c, chan, chan_periodBoundary] at opened
  generalize s.allotted.chan c = x at opened ⊢
  generalize s.ended.chan c = y at ended opened
  rw [opened, ended]
  exact ⟨rfl, rfl⟩

/-- Settles O8. -/
theorem periodBoundaryCommitsThePendingSet : Obligations.PeriodBoundaryCommitsThePendingSet := by
  unfold Obligations.PeriodBoundaryCommitsThePendingSet
  intro s boundary
  refine ⟨_, exec_periodBoundary boundary, fun period p hperiod hp => ?_⟩
  have flags := flags_periodBoundary s
  have cap := cap_periodBoundary s
  have kept {β : Type} (g : State → β) (hg : ∀ (t : State) k st ch m fl l, g { t with
      cap := k, store := st, chans := ch, marks := m, floor := fl, link := l } = g t) :
      g s.periodBoundary = g s.committed := by
    obtain ⟨⟨st, ch, m, fl, r, -, h⟩, -⟩ := opening_frame s
    rw [h]
    exact hg _ _ _ _ _ _ _
  have committed := committed_result s
  have ended := ended_frame s
  have renumbered {β : Type} (g : State → β) (hg : ∀ (t : State) k, g { t with cap := k } = g t) :
      g s.renumbered = g s.ended := by
    simp only [State.renumbered]
    exact hg _ _
  refine ⟨?_, proceeding_flag_periodBoundary s, fun k hk => flags.same ?_, fun k hk => flags.keeps hk, fun c => ?_, ?_,
    ?_, ?_, ?_, ?_, ?_⟩
  · rw [cap, commitProceeding_cap, hp, hperiod]
    simp only [State.newProceeding, wrapInc]
    cases s.cap.pendingProceeding <;> rfl
  · revert hk k
    decide
  · obtain ⟨settings, pending⟩ := settings_allotted s c
    obtain ⟨pendingRoute, route⟩ := routes_periodBoundary s c
    rw [hp, ← route, chan_periodBoundary, settings, pending, ← chan_periodBoundary, pendingRoute]
    exact ⟨rfl, rfl, rfl, rfl⟩
  · have proceeding : s.committed.cap.proceeding = p ∧ s.committed.cap.pendingProceeding = none ∧
        s.committed.cap.period = period := by
      rw [committed.cap, commitProceeding_cap, hp, hperiod]
      simp only [State.renumbered, State.newProceeding, ended.cap, wrapInc, and_self]
    obtain ⟨now, nothing, number⟩ := proceeding
    refine (link_periodBoundary s).trans (congrArg (fun a => { s.link with
      raised := s.periodBoundary.link.raised, deferred := answeredBy s.link.deferred a }) (funext fun q => ?_))
    cases q with
    | proceeding r => simp only [commitAnswers, State.proceedingData, now, nothing, number, optional]
    | settings => rfl
    | route => rfl
    | close => rfl
  · rw [kept State.pending fun _ _ _ _ _ _ _ => rfl, committed.pending, renumbered State.pending fun _ _ => rfl, ended.pending]
  · rw [kept State.ticks fun _ _ _ _ _ _ _ => rfl, committed.ticks, renumbered State.ticks fun _ _ => rfl, ended.ticks]
  · rw [kept State.stream fun _ _ _ _ _ _ _ => rfl, committed.stream, renumbered State.stream fun _ _ => rfl, ended.stream]
  · rw [kept State.time fun _ _ _ _ _ _ _ => rfl, committed.time, renumbered State.time fun _ _ => rfl, ended.time]
  · rw [kept State.feed fun _ _ _ _ _ _ _ => rfl, committed.feed, renumbered State.feed fun _ _ => rfl, ended.feed]

/-! ## The floor decision -/

/-- Two channels that are each the best of the same set are one. -/
theorem bestOf_unique {P : Chan → Prop} {c d : Chan} (hc : s.BestOf P c) (hd : s.BestOf P d) : c = d := by
  obtain ⟨mc, bc⟩ := hc
  obtain ⟨md, bd⟩ := hd
  rcases bc d md with lt | ⟨eq, le⟩
  · rcases bd c mc with lt' | ⟨eq', -⟩ <;> omega
  · rcases bd c mc with lt' | ⟨-, le'⟩
    · omega
    · exact Fin.le_antisymm le le'

theorem bestOf_congr {P Q : Chan → Prop} (h : ∀ c, P c ↔ Q c) (c : Chan) : s.BestOf P c ↔ s.BestOf Q c := by
  simp only [State.BestOf, h]

theorem loudest_eq {cs : List Chan} (sorted : cs.Pairwise (· < ·)) {c : Chan} (h : s.BestOf (· ∈ cs) c) :
    s.loudest cs = some c := by
  obtain ⟨empty, best⟩ := loudest_spec (s := s) sorted
  cases hl : s.loudest cs with
  | none =>
    have mem := h.1
    rw [empty hl] at mem
    exact absurd mem List.not_mem_nil
  | some d => rw [bestOf_unique (best d hl) h]

theorem loudest_none {cs : List Chan} (h : ∀ c, c ∉ cs) : s.loudest cs = none := by
  rw [List.eq_nil_iff_forall_not_mem.mpr h]
  rfl

theorem qualified_sorted (s : State) (h : Chan) : (s.qualified h).Pairwise (· < ·) := (activeCandidates_sorted s).filter _

/-- The floor unit once its holder has changed (R102). -/
def State.floorChanged (s : State) (n : Option Chan) (k : FloorCause) : Floor :=
  { s.floor.recorded ⟨s.cap.number, s.cap.period, s.cap.proceeding, n, s.floor.holder, k,
      (n.map fun c => (s.chan c).lastLevel).getD 0⟩ with holder := n, challenger := none }

theorem floor_changeHolder (s : State) (n : Option Chan) (k : FloorCause) :
    (s.changeHolder n k).floor = s.floorChanged n k := by
  rw [changeHolder_eq]
  rfl

/-- The floor unit after the decision of a holder that keeps the floor or loses it to a challenger (R97, R98). -/
theorem floorDecision_kept {h : Chan} (holds : s.floor.holder = some h) (candidate : s.candidate h = true)
    (activity : (s.chan h).activity ≠ .quiet) :
    s.floorDecision = { s.contest h with floor := { (s.contest h).floor with lastDecision := some s.cap.period } } := by
  simp only [State.floorDecision, holds, if_pos (And.intro candidate activity)]

theorem floorDecision_open (h : ∀ c, s.floor.holder = some c → ¬ (s.candidate c = true ∧ (s.chan c).activity ≠ .quiet)) :
    s.floorDecision = { s.openFloor with floor := { s.openFloor.floor with lastDecision := some s.cap.period } } := by
  cases hs : s.floor.holder with
  | none => simp only [State.floorDecision, hs]
  | some c => simp only [State.floorDecision, hs, if_neg (h c hs)]

/-- FLOOR is raised by a decision exactly when the holder changes (R102). -/
theorem floorDecision_flag (s : State) : flagSet s.floorDecision.link.raised .floor =
    (flagSet s.link.raised .floor || decide (s.floorDecision.floor.holder ≠ s.floor.holder)) := by
  have changed {n : Option Chan} (hn : n ≠ s.floor.holder) (k : FloorCause) :
      flagSet (s.changeHolder n k).link.raised .floor =
        (flagSet s.link.raised .floor || decide ((s.changeHolder n k).floor.holder ≠ s.floor.holder)) := by
    rw [floor_changeHolder, changeHolder_eq]
    simp [State.floorChanged, hn]
  have still (x : Option (Chan × Nat)) : flagSet s.link.raised .floor =
      (flagSet s.link.raised .floor || decide (({ s.floor with challenger := x } : Floor).holder ≠ s.floor.holder)) := by
    simp
  obtain ⟨t, e, ⟨h, holds, candidate, activity, rfl⟩ | ⟨lapsed, rfl⟩⟩ := floorDecision_cases s <;> rw [e] <;> simp only []
  · rw [contest_eq]
    split
    · exact still _
    · next c hc =>
      obtain ⟨-, other, -⟩ := mem_qualified.mp ((loudest_spec (qualified_sorted s h)).2 c hc).1
      split_ifs
      · exact changed (fun eq => other (Option.some.inj (eq.trans holds))) _
      · exact still _
  · have apart {c : Chan} (hc : s.loudest s.activeCandidates = some c) : some c ≠ s.floor.holder := fun eq => by
      obtain ⟨candidate, active⟩ := mem_activeCandidates.mp ((loudest_spec (activeCandidates_sorted s)).2 c hc).1
      exact lapsed c eq.symm ⟨candidate, by rw [active]; decide⟩
    unfold State.openFloor
    split
    · next hc => exact changed (apart hc) _
    · next hs _ => exact changed (by rw [hs]; exact nofun) _
    · next hc => exact changed (apart hc) _
    · exact still _

theorem bestOf_of {t : State} {P Q : Chan → Prop} (chan : ∀ c, t.chan c = s.chan c) (h : ∀ c, P c ↔ Q c) (c : Chan) :
    t.BestOf P c ↔ s.BestOf Q c := by
  simp only [State.BestOf, h, chan]

/-- Settles O14. -/
theorem periodBoundaryDecidesTheFloor : Obligations.PeriodBoundaryDecidesTheFloor := by
  unfold Obligations.PeriodBoundaryDecidesTheFloor
  intro s boundary
  refine ⟨_, exec_periodBoundary boundary, fun candidate active kept record hcandidate hactive hkept hrecord => ?_⟩
  have chan (c : Chan) := chan_periodBoundary s c
  have floor := floor_allotted s
  have raised := (allotted_flags s).same (k := .floor) (by decide)
  have decided : s.periodBoundary.floor = s.allotted.floorDecision.floor ∧
      s.periodBoundary.link = s.allotted.floorDecision.link ∧
      s.periodBoundary.cap = { s.allotted.floorDecision.cap with instant := 0 } := by
    rw [periodBoundary_decided]
    generalize s.allotted = u
    exact ⟨rfl, rfl, rfl⟩
  obtain ⟨decision, link, cap⟩ := decided
  generalize s.periodBoundary = t at chan hcandidate hactive hkept hrecord decision link cap ⊢
  generalize s.allotted = u at chan floor raised decision link cap ⊢
  obtain ⟨fl, r, -, frame⟩ := floorDecision_frame u
  have same : u.floorDecision.cap = u.cap := by rw [frame]
  have isCandidate (c : Chan) : candidate c ↔ u.candidate c = true := by
    rw [hcandidate, chan]
    simp [State.candidate]
  have isActive (c : Chan) : active c ↔ c ∈ u.activeCandidates := by
    rw [hactive, mem_activeCandidates, isCandidate, chan]
  have isKept (h : Chan) : kept h ↔ u.floor.holder = some h ∧ u.candidate h = true ∧ (u.chan h).activity ≠ .quiet := by
    rw [hkept, isCandidate, chan, floor]
  have isQualified (h d : Chan) : active d ∧ d ≠ h ∧ (t.chan h).lastLevel + s.floor.margin ≤ (t.chan d).lastLevel ↔
      d ∈ u.qualified h := by
    rw [mem_qualified, isActive, mem_activeCandidates, chan, chan, floor]
  have changed (n : Option Chan) (k : FloorCause) : { s.floor.recorded (record n k) with
      holder := n, challenger := none, lastDecision := some t.cap.period } =
        { u.floorChanged n k with lastDecision := some u.cap.period } := by
    simp only [hrecord, State.floorChanged, floor, cap, same, chan]
  have period : t.cap.period = u.cap.period := by rw [cap, same]
  have opened (none : ∀ h, ¬ kept h) : t.floor = { u.openFloor.floor with lastDecision := some u.cap.period } := by
    rw [decision, floorDecision_open fun c hc hk => none c ((isKept c).mpr ⟨hc, hk⟩)]
  have contested {h : Chan} (hh : kept h) : t.floor = { (u.contest h).floor with lastDecision := some u.cap.period } := by
    obtain ⟨holds, isCand, awake⟩ := (isKept h).mp hh
    rw [decision, floorDecision_kept holds isCand awake]
  refine ⟨fun h hh => ⟨fun c hc n hn => ?_, fun unmatched => ?_⟩, fun none => ⟨fun c hc => ?_, fun inactive => ?_⟩, ?_⟩
  · have best := (bestOf_of chan (isQualified h) c).mp hc
    have count : u.floor.countOf c = n := by rw [hn, ← floor]; rfl
    rw [contested hh, contest_eq, loudest_eq (qualified_sorted u h) best, changed, period, ← floor]
    simp only [count]
    split_ifs
    · rw [floor_changeHolder]
    · rfl
  · rw [contested hh, contest_eq, loudest_none fun c hc => unmatched c ((isQualified h c).mpr hc), period, ← floor]
  · have best := (bestOf_of chan isActive c).mp hc
    rw [opened none, State.openFloor, loudest_eq (activeCandidates_sorted u) best, changed, ← floor]
    cases u.floor.holder with
    | none => simp only [floor_changeHolder]; rfl
    | some d => simp only [floor_changeHolder]; rfl
  · rw [opened none, State.openFloor, loudest_none fun c hc => inactive c ((isActive c).mpr hc), changed, period, ← floor]
    cases u.floor.holder with
    | none => rfl
    | some d => simp only [floor_changeHolder]; rfl
  · rw [link, decision, floorDecision_flag, raised, floor]

end Sys2Proof.Machine
end

section
/-! SUPPORT. The laws after a full reset. -/

namespace Sys2Proof.Machine

theorem proceedingLaw_reset : State.reset.ProceedingLaw :=
  proceedingLaw_standby rfl rfl rfl fun c => by rw [chan_reset]; rfl

theorem storeLaws_reset : State.reset.ledger.Sound :=
  State.ledger_initial ⟨rfl, rfl, rfl, rfl, rfl⟩ (fun c => by rw [chan_reset]; rfl) rfl rfl rfl rfl ▸ Ledger.initial_sound

/-- The start-up trims have begun with CV0's (R122). -/
theorem trimLaw_reset : State.reset.TrimLaw := by
  unfold State.TrimLaw Converter.Law
  and_intros <;> decide +kernel

/-- Settles O53. -/
theorem lawsHoldAtReset : Obligations.LawsHoldAtReset := by
  unfold Obligations.LawsHoldAtReset
  obtain ⟨slots, custody, pins⟩ := (storeLaws_iff _).mpr storeLaws_reset
  obtain ⟨link, config⟩ := (linkLaw_configLaw_iff _).mpr ⟨linkLaw_reset false, bounded_reset⟩
  exact ⟨proceedingLaw_reset, channelLaw_reset, slots, custody, pins, floorLaw_reset, trimLaw_reset, timeLaw_reset, link,
    config⟩

end Sys2Proof.Machine
end

section
/-! SUPPORT. Allocation runs: each request decided against the free count and the reclaimable slots the earlier ones have
left (R8, R9, R33 to R35), and when a run raises STORE (R40). -/

namespace Sys2Proof.Machine

/-! ## The custody list without its oldest reclaimable slots -/

theorem withoutOldest_append {a : List HeldSlot} (h : ∀ y ∈ a, y.eligible = false) (n : Nat) (b : List HeldSlot) :
    withoutOldest n (a ++ b) = a ++ withoutOldest n b := by
  cases n with
  | zero => simp [withoutOldest]
  | succ n =>
    induction a with
    | nil => rfl
    | cons x a ih =>
      have held : ¬ (x.pins = 0 ∧ x.releasePending = false) := fun e => by
        have := h x List.mem_cons_self
        rw [(eligible_iff x).mpr e] at this
        cases this
      rw [List.cons_append, withoutOldest, if_neg held, ih fun y hy => h y (List.mem_cons_of_mem x hy)]
      rfl

/-- The oldest of them first (R35). -/
theorem withoutOldest_succ {a b : List HeldSlot} {x : HeldSlot} (h : ∀ y ∈ a, y.eligible = false) (hx : x.eligible = true)
    (n : Nat) : withoutOldest (n + 1) (a ++ x :: b) = withoutOldest n (a ++ b) := by
  rw [withoutOldest_append h, withoutOldest_append h, withoutOldest, if_pos ((eligible_iff x).mp hx)]

theorem reclaimable_eq (st : Store) : st.reclaimable = if st.reclaim = true then st.custody.filter HeldSlot.eligible else [] := by
  have same (h : HeldSlot) : decide (h.pins = 0 ∧ h.releasePending = false) = h.eligible := by
    rw [Bool.eq_iff_iff, decide_eq_true_iff, eligible_iff]
  simp only [Store.reclaimable, same]

/-! ## One request -/

variable {s t : State} {k : Class}

/-- A request as the state decides it, and as an allocation run does (R33, R35). -/
theorem slotRequest_decides (s : State) (k : Class) :
    (s.slotRequest k = none ∧
      decideRequest s.store.shed s.store.keep k s.store.free s.store.reclaimable.length = none) ∨
    (0 < s.store.free ∧ s.slotRequest k = some (s.setFree (s.store.free - 1)) ∧
      decideRequest s.store.shed s.store.keep k s.store.free s.store.reclaimable.length =
        some (s.store.free - 1, s.store.reclaimable.length)) ∨
    ∃ t, s.slotRequest k = some t ∧ s.reclaimSlot = some t ∧ s.store.free = 0 ∧
      decideRequest s.store.shed s.store.keep k s.store.free s.store.reclaimable.length =
        some (s.store.free, s.store.reclaimable.length - 1) := by
  cases k with
  | shed =>
    simp only [State.slotRequest, decideRequest]
    split_ifs with h
    · exact .inr (.inl ⟨Nat.zero_lt_of_lt h, rfl, rfl⟩)
    · exact .inl ⟨rfl, rfl⟩
  | normal =>
    simp only [State.slotRequest, decideRequest]
    split_ifs with h
    · exact .inr (.inl ⟨Nat.zero_lt_of_lt h, rfl, rfl⟩)
    · exact .inl ⟨rfl, rfl⟩
  | keep =>
    simp only [State.slotRequest, decideRequest]
    by_cases free : 0 < s.store.free
    · exact .inr (.inl ⟨free, if_pos free, if_pos free⟩)
    · simp only [if_neg free]
      cases hr : s.reclaimSlot with
      | none =>
        refine .inl ⟨rfl, if_neg ?_⟩
        rw [reclaimable_eq]
        split_ifs with on
        · have taken : takeEligible s.store.custody = none := by simpa [State.reclaimSlot, on] using hr
          rw [List.filter_eq_nil_iff.mpr fun x hx => by simp [takeEligible_none taken x hx]]
          simp
        · simp
      | some t =>
        obtain ⟨a, x, b, on, split, -, eligible, -⟩ := reclaimSlot_some hr
        have left : 0 < s.store.reclaimable.length := by
          rw [reclaimable_eq, if_pos on, split, List.filter_append, List.filter_cons_of_pos eligible]
          simp
        exact .inr (.inr ⟨t, rfl, rfl, by omega, if_pos left⟩)

theorem run_cons_none {st : Store} {rs : List (Option Chan × Class)}
    (h : decideRequest st.shed st.keep k st.free st.reclaimable.length = none) (who : Option Chan) :
    st.run ((who, k) :: rs) = st.run rs := by
  simp only [Store.run, runRequests, h]

/-- A refused request (R33). -/
theorem run_refused (h : s.slotRequest k = none) (who : Option Chan) (rs : List (Option Chan × Class)) :
    s.store.run ((who, k) :: rs) = s.store.run rs := by
  rcases slotRequest_decides s k with ⟨-, d⟩ | ⟨-, e, -⟩ | ⟨t, e, -, -, -⟩
  · exact run_cons_none d who
  · rw [h] at e
    cases e
  · rw [h] at e
    cases e

/-- The store once reclaim has taken the slot `x`, with the custody list `q` left (R35). -/
def Store.afterReclaim (st : Store) (x : HeldSlot) (q : List HeldSlot) : Store :=
  { st with
    custody := q
    reclaimCount := satInc 4294967295 st.reclaimCount
    reclaimList := if st.reclaimList.length < 32 then st.reclaimList ++ [x.record.custody] else st.reclaimList
    notListed := if st.reclaimList.length < 32 then st.notListed else satInc 65535 st.notListed }

/-- Reclaim takes the oldest of the reclaimable slots, and STORE is raised (R35). -/
theorem reclaimSlot_result (h : s.reclaimSlot = some t) : ∃ a x b,
    s.store.custody = a ++ x :: b ∧ (∀ y ∈ a, y.eligible = false) ∧ x.eligible = true ∧
      s.store.reclaimable = x :: t.store.reclaimable ∧ t.store = s.store.afterReclaim x (a ++ b) ∧
      t.link.raised = s.link.raised ||| NoticeKind.store.flag := by
  obtain ⟨a, x, b, on, split, before, eligible, ht⟩ := reclaimSlot_some h
  have store : t.store = s.store.afterReclaim x (a ++ b) := by rw [ht]; rfl
  have none : a.filter HeldSlot.eligible = [] := List.filter_eq_nil_iff.mpr fun y hy => by simp [before y hy]
  refine ⟨a, x, b, split, before, eligible, ?_, store, by rw [ht]; rfl⟩
  have still : t.store.reclaim = true := by rw [store]; exact on
  have left : t.store.custody = a ++ b := by rw [store]; rfl
  rw [reclaimable_eq, reclaimable_eq, if_pos on, if_pos still, split, left, List.filter_append, List.filter_append, none,
    List.nil_append, List.nil_append, List.filter_cons_of_pos eligible]

/-- A granted request (R33, R35). -/
theorem run_granted (h : s.slotRequest k = some t) (who : Option Chan) (rs : List (Option Chan × Class)) :
    s.store.run ((who, k) :: rs) = (who :: (t.store.run rs).1, (t.store.run rs).2) := by
  rcases slotRequest_decides s k with ⟨e, -⟩ | ⟨-, e, d⟩ | ⟨u, e, reclaimed, zero, d⟩ <;> rw [h] at e
  · cases e
  · obtain rfl := Option.some.inj e
    simp only [Store.run, runRequests, d]
    rw [setFree_eq]
    rfl
  · obtain rfl := Option.some.inj e
    obtain ⟨a, x, b, -, -, -, oldest, store, -⟩ := reclaimSlot_result reclaimed
    have left : t.store.reclaimable.length = s.store.reclaimable.length - 1 := by rw [oldest]; rfl
    simp only [Store.run, runRequests, d]
    rw [left, store]
    rfl

theorem run_left_le (st : Store) (rs : List (Option Chan × Class)) : (st.run rs).2.2 ≤ st.reclaimable.length := by
  have runs (shed keep : Nat) (rs : List (Option Chan × Class)) :
      ∀ free left, (runRequests shed keep free left rs).2.2 ≤ left := by
    induction rs with
    | nil => exact fun _ _ => le_rfl
    | cons r rs ih =>
      obtain ⟨who, k⟩ := r
      intro free left
      rw [runRequests]
      split
      · next free' left' d =>
        have le : left' ≤ left := by
          cases k <;> simp only [decideRequest] at d <;> split at d
          · cases d
            exact le_rfl
          · split at d
            · cases d
              exact Nat.sub_le _ _
            · cases d
          · cases d
            exact le_rfl
          · cases d
          · cases d
            exact le_rfl
          · cases d
        exact (ih free' left').trans le
      · exact ih free left
  exact runs _ _ rs _ _

/-- Only who asks is granted. -/
theorem mem_run {st : Store} {rs : List (Option Chan × Class)} {who : Option Chan} (h : who ∈ (st.run rs).1) :
    ∃ k, (who, k) ∈ rs := by
  have runs (shed keep : Nat) (rs : List (Option Chan × Class)) :
      ∀ free left, who ∈ (runRequests shed keep free left rs).1 → ∃ k, (who, k) ∈ rs := by
    induction rs with
    | nil => exact fun _ _ h => nomatch h
    | cons r rs ih =>
      obtain ⟨w, k⟩ := r
      intro free left h
      have later {free left : Nat} (h : who ∈ (runRequests shed keep free left rs).1) : ∃ j, (who, j) ∈ (w, k) :: rs := by
        obtain ⟨j, hj⟩ := ih free left h
        exact ⟨j, List.mem_cons_of_mem _ hj⟩
      rw [runRequests] at h
      split at h
      · rcases List.mem_cons.mp h with rfl | h
        · exact ⟨k, List.mem_cons_self⟩
        · exact later h
      · exact later h
  exact runs _ _ rs _ _ h

/-! ## A run leaves the store as its requests do, one after the other -/

theorem allocated_nil (st : Store) : st.Allocated st [] := by
  intro n hn
  obtain rfl : n = 0 := by
    rw [hn]
    exact Nat.sub_self _
  exact ⟨rfl, by simp [withoutOldest], rfl, by simp, by simp, rfl, rfl, rfl⟩

theorem allocated_refused (h : s.slotRequest k = none) (who : Option Chan) {rs : List (Option Chan × Class)} {st : Store}
    (g : s.store.Allocated st rs) : s.store.Allocated st ((who, k) :: rs) := by
  unfold Store.Allocated
  rw [run_refused h who rs]
  exact g

theorem allocated_granted (h : s.slotRequest k = some t) (who : Option Chan) {rs : List (Option Chan × Class)} {st : Store}
    (g : t.store.Allocated st rs) : s.store.Allocated st ((who, k) :: rs) := by
  intro n hn
  rw [run_granted h who rs] at hn ⊢
  rcases slotRequest_decides s k with ⟨e, -⟩ | ⟨-, e, -⟩ | ⟨u, e, reclaimed, zero, -⟩ <;> rw [h] at e
  · cases e
  · obtain rfl := Option.some.inj e
    have account : (s.setFree (s.store.free - 1)).store = { s.store with free := s.store.free - 1 } := by rw [setFree_eq]
    rw [account] at g hn ⊢
    exact g n hn
  · obtain rfl := Option.some.inj e
    have later := run_left_le t.store rs
    obtain ⟨a, x, b, split, before, eligible, oldest, store, -⟩ := reclaimSlot_result reclaimed
    rw [oldest] at hn ⊢
    generalize t.store = u at g hn later oldest store ⊢
    obtain ⟨free, custody, count, list, notListed, policy⟩ := g (u.reclaimable.length - (u.run rs).2.2) rfl
    obtain ⟨m, hm⟩ : ∃ m, m = u.reclaimable.length - (u.run rs).2.2 := ⟨_, rfl⟩
    rw [← hm] at custody count list notListed
    obtain rfl : n = m + 1 := by
      rw [hn, hm, List.length_cons]
      simp only []
      omega
    subst store
    refine ⟨free, ?_, ?_, ?_, ?_, policy⟩
    · rw [custody, split, withoutOldest_succ before eligible]
      rfl
    · rw [count, Function.iterate_succ_apply]
      rfl
    · rw [list, List.take_succ_cons, List.map_cons]
      simp only [Store.afterReclaim]
      split_ifs with room
      · rw [List.append_assoc, List.length_append, List.length_singleton,
          show 32 - s.store.reclaimList.length = 32 - (s.store.reclaimList.length + 1) + 1 by omega, List.take_succ_cons]
        rfl
      · rw [show 32 - s.store.reclaimList.length = 0 by omega]
        simp
    · rw [notListed]
      simp only [Store.afterReclaim]
      split_ifs with room
      · rw [List.length_append, List.length_singleton,
          show m + 1 - (32 - s.store.reclaimList.length) = m - (32 - (s.store.reclaimList.length + 1)) by omega]
      · rw [show 32 - s.store.reclaimList.length = 0 by omega, Nat.sub_zero, Nat.sub_zero, Function.iterate_succ_apply]

end Sys2Proof.Machine
end

section
/-! SUPPORT. The allocation of a period as a run of requests, the marker request first (R8, R9, R34, R38, R40). -/

namespace Sys2Proof.Machine

variable {s t u : State} {k : Class}

/-! ## When a run raises STORE -/

/-- A fall of the free count never lowers the code of the level state (R37). -/
theorem levelOf_mono {a b shed keep : Nat} (h : b ≤ a) : (levelOf a shed keep).code ≤ (levelOf b shed keep).code := by
  unfold levelOf
  split_ifs <;> simp only [LevelState.code] <;> omega

theorem levelState_code_inj {x y : LevelState} (h : x.code = y.code) : x = y := by
  cases x <;> cases y <;> first | rfl | cases h

/-- Between two free counts of one level state lies no other (R37). -/
theorem levelOf_between {a b c shed keep : Nat} (hb : b ≤ a) (hc : c ≤ b) (h : levelOf c shed keep = levelOf a shed keep) :
    levelOf b shed keep = levelOf a shed keep :=
  levelState_code_inj (Nat.le_antisymm (h ▸ levelOf_mono hc) (levelOf_mono hb))

/-- A part of an allocation run: free count and custody list can only shrink, and STORE is raised by a change of the level
state, by a reclaim, and by a channel that becomes STARVED (R38, R40). -/
structure StoreRun (s t : State) (starved : Prop) : Prop where
  policy : t.store.shed = s.store.shed ∧ t.store.keep = s.store.keep
  free : t.store.free ≤ s.store.free
  custody : t.store.custody.Sublist s.store.custody
  sending : t.store.sending = s.store.sending
  flag : flagSet t.link.raised .store = true ↔ flagSet s.link.raised .store = true ∨
    t.store.level ≠ s.store.level ∨ t.store.custody ≠ s.store.custody ∨ starved

theorem StoreRun.refl (s : State) : StoreRun s s False := ⟨⟨rfl, rfl⟩, le_rfl, List.Sublist.refl _, rfl, by simp⟩

/-- A value that cannot return once it has changed has changed over two turns exactly when it has in one of them. -/
theorem changed_trans {α : Type} {a b c : α} (h : c = a → b = a) : (b ≠ a ∨ c ≠ b) ↔ c ≠ a := by
  constructor
  · rintro (hb | hc) e
    · exact hb (h e)
    · exact hc (e.trans (h e).symm)
  · intro hc
    by_cases hb : b = a
    · exact .inr (hb ▸ hc)
    · exact .inl hb

theorem StoreRun.trans {p q : Prop} (h : StoreRun s t p) (g : StoreRun t u q) : StoreRun s u (p ∨ q) := by
  obtain ⟨shed, keep⟩ := h.policy
  obtain ⟨shed', keep'⟩ := g.policy
  refine ⟨⟨shed'.trans shed, keep'.trans keep⟩, g.free.trans h.free, g.custody.trans h.custody, g.sending.trans h.sending, ?_⟩
  have level (same : u.store.level = s.store.level) : t.store.level = s.store.level := by
    simp only [Store.level, shed', keep', shed, keep] at same ⊢
    exact levelOf_between h.free g.free same
  have custody (same : u.store.custody = s.store.custody) : t.store.custody = s.store.custody :=
    h.custody.antisymm (same ▸ g.custody)
  rw [g.flag, h.flag, ← changed_trans level, ← changed_trans custody]
  exact iff_of_eq (by ac_rfl)

theorem StoreRun.congr {p q : Prop} (h : StoreRun s t p) (e : p ↔ q) : StoreRun s t q := by rwa [propext e] at h

/-- The store's account of an allocation, and the STORE flag, are read from these parts alone. -/
theorem StoreRun.of_parts {p : Prop} (h : StoreRun s t p) (store : u.store = { t.store with
      posted := u.store.posted, lastCustody := u.store.lastCustody })
    (flag : flagSet u.link.raised .store = flagSet t.link.raised .store) : StoreRun s u p := by
  obtain ⟨policy, free, custody, sending, raised⟩ := h
  refine ⟨?_, ?_, ?_, ?_, ?_⟩
  · rw [store]; exact policy
  · rw [store]; exact free
  · rw [store]; exact custody
  · rw [store]; exact sending
  · rw [store, flag]; exact raised

theorem slotRequest_run (h : s.slotRequest k = some t) : StoreRun s t False := by
  rcases slotRequest_decides s k with ⟨e, -⟩ | ⟨-, e, -⟩ | ⟨u, e, reclaimed, -, -⟩ <;> rw [h] at e
  · cases e
  · obtain rfl := Option.some.inj e
    rw [setFree_eq]
    refine ⟨⟨rfl, rfl⟩, Nat.sub_le _ _, List.Sublist.refl _, rfl, ?_⟩
    have level : ({ s.store with free := s.store.free - 1 } : Store).level =
        levelOf (s.store.free - 1) s.store.shed s.store.keep := rfl
    simp only [level, ← flag_store]
    split_ifs with same
    · simp [same]
    · simp [same]
  · obtain rfl := Option.some.inj e
    obtain ⟨a, x, b, split, -, -, -, store, raised⟩ := reclaimSlot_result reclaimed
    have custody : t.store.custody = a ++ b := by rw [store]; rfl
    refine ⟨by rw [store]; exact ⟨rfl, rfl⟩, by rw [store]; exact le_rfl, ?_, by rw [store]; rfl, ?_⟩
    · rw [custody, split]
      exact (List.sublist_cons_self x b).append_left a
    · have fewer : t.store.custody ≠ s.store.custody := fun e => by
        have := congrArg List.length e
        rw [custody, split] at this
        simp at this
      rw [raised]
      simp [fewer]

/-! ## The audio requests -/

/-- The requests of several channels (R9). -/
def State.requestsOf (s : State) (l : List Chan) : List (Option Chan × Class) :=
  l.map fun c => (some c, (s.chan c).settings.cls)

theorem requestsOf_congr {l : List Chan} (h : ∀ c ∈ l, t.chan c = s.chan c) : t.requestsOf l = s.requestsOf l :=
  List.map_congr_left fun c hc => by rw [h c hc]

theorem mem_requestsOf {l : List Chan} {who : Option Chan} (h : ∃ k, (who, k) ∈ s.requestsOf l) : ∃ c ∈ l, who = some c := by
  obtain ⟨k, hk⟩ := h
  obtain ⟨c, hc, e⟩ := List.mem_map.mp hk
  cases e
  exact ⟨c, hc, rfl⟩

/-- One audio request, as a run decides it (R9, R38). -/
theorem requestSlot_run (s : State) (c : Chan) :
    (∃ u, s.slotRequest (s.chan c).settings.cls = some u ∧ (State.requestSlot s c).store = u.store ∧
      (State.requestSlot s c).chan c = (s.chan c).granted ∧ StoreRun s (State.requestSlot s c) False) ∨
    (s.slotRequest (s.chan c).settings.cls = none ∧ (State.requestSlot s c).store = s.store ∧
      (State.requestSlot s c).chan c = (s.chan c).refused ∧
      StoreRun s (State.requestSlot s c) ((s.chan c).starved = false)) := by
  rcases requestSlot_cases s c with ⟨u, hu, e⟩ | ⟨hr, e⟩ <;> rw [e]
  · obtain ⟨st, r, -, frame⟩ := slotRequest_frame hu
    have same : u.chan c = s.chan c := by rw [frame]; rfl
    refine .inl ⟨u, hu, rfl, ?_, (slotRequest_run hu).of_parts rfl rfl⟩
    rw [State.chan_modChan, if_pos rfl, same]
  · have refused : (s.modChan c Channel.refused).chan c = (s.chan c).refused := (State.chan_modChan _ c c _).trans (if_pos rfl)
    refine .inr ⟨hr, ?_, ?_, ?_⟩
    · split_ifs
      · rfl
      · rfl
    · split_ifs
      · exact refused
      · exact refused
    · split_ifs with starved
      · exact ((StoreRun.refl s).of_parts (u := s.modChan c Channel.refused) rfl rfl).congr (by rw [starved]; simp)
      · exact ⟨⟨rfl, rfl⟩, le_rfl, List.Sublist.refl _, rfl, by simp [State.raise, starved]⟩

/-- What an allocation run of several channels leaves (R9, R33 to R35, R38). -/
structure Allotment (s t : State) (l : List Chan) : Prop where
  allocated : s.store.Allocated t.store (s.requestsOf l)
  posted : t.store.posted = s.store.posted ∧ t.store.lastCustody = s.store.lastCustody
  chan : ∀ c ∈ l, t.chan c = if some c ∈ (s.store.run (s.requestsOf l)).1 then (s.chan c).granted else (s.chan c).refused
  run : StoreRun s t (∃ c ∈ l, (s.chan c).starved = false ∧ some c ∉ (s.store.run (s.requestsOf l)).1)

theorem chan_requestSlots_of_notMem {c : Chan} (l : List Chan) (h : c ∉ l) (s : State) :
    (l.foldl State.requestSlot s).chan c = s.chan c := by
  induction l generalizing s with
  | nil => rfl
  | cons d l ih =>
    rw [List.mem_cons, not_or] at h
    rw [List.foldl_cons, ih h.2, chan_requestSlot_of_ne s h.1]

theorem requestSlots_run (l : List Chan) : ∀ s : State, l.Nodup → Allotment s (l.foldl State.requestSlot s) l := by
  induction l with
  | nil => exact fun s _ => ⟨allocated_nil _, ⟨rfl, rfl⟩, nofun, (StoreRun.refl s).congr (by simp)⟩
  | cons c l ih =>
    intro s nodup
    obtain ⟨apart, nodup⟩ := List.nodup_cons.mp nodup
    have later : ∀ d ∈ l, (State.requestSlot s c).chan d = s.chan d := fun d hd =>
      chan_requestSlot_of_ne s fun e => apart (e ▸ hd)
    obtain ⟨allocated, posted, chan, run⟩ := ih (State.requestSlot s c) nodup
    have own : (l.foldl State.requestSlot (State.requestSlot s c)).chan c = (State.requestSlot s c).chan c :=
      chan_requestSlots_of_notMem l apart _
    rw [requestsOf_congr later] at allocated chan run
    rw [List.foldl_cons]
    generalize l.foldl State.requestSlot (State.requestSlot s c) = t at allocated posted chan run own ⊢
    have asks : s.requestsOf (c :: l) = (some c, (s.chan c).settings.cls) :: s.requestsOf l := rfl
    have absent (st : Store) : some c ∉ (st.run (s.requestsOf l)).1 := fun hc => by
      obtain ⟨d, hd, e⟩ := mem_requestsOf (mem_run hc)
      cases e
      exact apart hd
    rcases requestSlot_run s c with ⟨u, hu, store, turn, first⟩ | ⟨hr, store, turn, first⟩ <;> rw [store] at allocated chan run posted
    · have others {d : Chan} (hd : d ∈ l) : (some d ∈ (s.store.run (s.requestsOf (c :: l))).1 ↔
          some d ∈ (u.store.run (s.requestsOf l)).1) := by
        have ne : d ≠ c := fun e => apart (e ▸ hd)
        rw [asks, run_granted hu]
        simp [ne]
      have last := slotRequest_store hu
      refine ⟨by rw [asks]; exact allocated_granted hu _ allocated, by rw [last] at posted; exact posted,
        fun d hd => ?_, (first.trans run).congr ?_⟩
      · rcases List.mem_cons.mp hd with rfl | hd
        · rw [own, turn, asks, run_granted hu, if_pos List.mem_cons_self]
        · rw [chan d hd, later d hd]
          simp only [others hd]
      · rw [false_or]
        constructor
        · rintro ⟨d, hd, starved, refused⟩
          rw [later d hd] at starved
          exact ⟨d, List.mem_cons_of_mem c hd, starved, fun h => refused ((others hd).mp h)⟩
        · rintro ⟨d, hd, starved, refused⟩
          rcases List.mem_cons.mp hd with rfl | hd
          · rw [asks, run_granted hu] at refused
            exact absurd List.mem_cons_self refused
          · exact ⟨d, hd, by rwa [later d hd], fun h => refused ((others hd).mpr h)⟩
    · have same := run_refused hr (some c) (s.requestsOf l)
      refine ⟨by rw [asks]; exact allocated_refused hr _ allocated, posted, fun d hd => ?_, (first.trans run).congr ?_⟩
      · rw [asks, same]
        rcases List.mem_cons.mp hd with rfl | hd
        · rw [own, turn, if_neg (absent _)]
        · rw [chan d hd, later d hd]
      · rw [asks, same]
        constructor
        · rintro (starved | ⟨d, hd, starved, refused⟩)
          · exact ⟨c, List.mem_cons_self, starved, absent _⟩
          · exact ⟨d, List.mem_cons_of_mem c hd, by rwa [later d hd] at starved, refused⟩
        · rintro ⟨d, hd, starved, refused⟩
          rcases List.mem_cons.mp hd with rfl | hd
          · exact .inl starved
          · exact .inr ⟨d, hd, by rwa [later d hd], refused⟩

end Sys2Proof.Machine
end

section
/-! SUPPORT. The records a boundary posts: the FILLING blocks in channel order (R5, R6, R30, R86), then the marker record
(R8, R111 to R115). -/

namespace Sys2Proof.Machine

variable {s t : State}

/-! ## The FILLING blocks -/

/-- What step (a) for several channels posts: a record for each FILLING slot, with consecutive custody numbers. -/
structure Posting (before s t : State) (l : List Chan) (recs : List AudioRecord) : Prop where
  store : t.store = { s.store with
    posted := s.store.posted ++ recs.map fun r => ⟨.audio r, s.ticks⟩, lastCustody := s.store.lastCustody + recs.length }
  channels : recs.map AudioRecord.channel = l.filter fun c => (s.chan c).filling.isSome
  custody : ∀ (i : Nat) (h : i < recs.length), recs[i].custody = s.store.lastCustody + 1 + i
  record : ∀ r ∈ recs, ∃ samples, (s.chan r.channel).filling = some samples ∧
    r = AudioRecord.chained { s.audioRecord before r.channel samples with custody := r.custody } (s.chan r.channel).chain ∧
    (t.chan r.channel).chain = r.check

theorem chan_postChannel_of_ne (before s : State) {c d : Chan} (h : d ≠ c) :
    (State.postChannel before s c).chan d = s.chan d := by
  rcases postChannel_cases before s c with ⟨-, e⟩ | ⟨l, r, -, -, e⟩ <;> rw [e, State.chan_modChan_of_ne _ _ h]
  rfl

/-- A channel's record is the same after another channel's turn, but for its custody number. -/
theorem audioRecord_postChannel (before s : State) {c d : Chan} (h : d ≠ c) (samples : List Sample) (k : Nat) :
    { (State.postChannel before s c).audioRecord before d samples with custody := k } =
      { s.audioRecord before d samples with custody := k } := by
  have chan := chan_postChannel_of_ne before s h
  obtain ⟨⟨st, ch, e⟩, -⟩ := postChannel_frame before s c
  simp only [State.audioRecord, chan]
  rw [e]
  rfl

theorem chan_postChannels_of_notMem (before : State) {c : Chan} (l : List Chan) (h : c ∉ l) (s : State) :
    (l.foldl (State.postChannel before) s).chan c = s.chan c := by
  induction l generalizing s with
  | nil => rfl
  | cons d l ih =>
    rw [List.mem_cons, not_or] at h
    rw [List.foldl_cons, ih h.2, chan_postChannel_of_ne before s h.1]

theorem postChannels_posting (before : State) (l : List Chan) : ∀ s : State, l.Nodup →
    ∃ recs, Posting before s (l.foldl (State.postChannel before) s) l recs := by
  induction l with
  | nil => exact fun s _ => ⟨[], by simp, rfl, nofun, fun r hr => absurd hr List.not_mem_nil⟩
  | cons c l ih =>
    intro s nodup
    obtain ⟨apart, nodup⟩ := List.nodup_cons.mp nodup
    obtain ⟨recs, store, channels, custody, record⟩ := ih (State.postChannel before s c) nodup
    have ne {d : Chan} (hd : d ∈ l) : d ≠ c := fun e => apart (e ▸ hd)
    have later {d : Chan} (hd : d ∈ l) : (State.postChannel before s c).chan d = s.chan d :=
      chan_postChannel_of_ne before s (ne hd)
    have own := chan_postChannels_of_notMem before l apart (State.postChannel before s c)
    have filled : l.filter (fun d => ((State.postChannel before s c).chan d).filling.isSome) =
        l.filter fun d => (s.chan d).filling.isSome := List.filter_congr fun d hd => by rw [later hd]
    have among {r : AudioRecord} (hr : r ∈ recs) : r.channel ∈ l := by
      have mem := List.mem_map_of_mem (f := AudioRecord.channel) hr
      rw [channels] at mem
      exact (List.mem_filter.mp mem).1
    have moved (r : AudioRecord) (hr : r ∈ recs) : ∃ samples, (s.chan r.channel).filling = some samples ∧
        r = AudioRecord.chained { s.audioRecord before r.channel samples with custody := r.custody }
          (s.chan r.channel).chain ∧
        ((l.foldl (State.postChannel before) (State.postChannel before s c)).chan r.channel).chain = r.check := by
      obtain ⟨samples, filling, eq, chain⟩ := record r hr
      rw [later (among hr), audioRecord_postChannel before s (ne (among hr))] at eq
      rw [later (among hr)] at filling
      exact ⟨samples, filling, eq, chain⟩
    rw [List.foldl_cons]
    generalize l.foldl (State.postChannel before) (State.postChannel before s c) = t at store own moved ⊢
    have ticks : (State.postChannel before s c).ticks = s.ticks := by
      obtain ⟨⟨st, ch, e⟩, -⟩ := postChannel_frame before s c
      rw [e]
    rw [ticks] at store
    rw [filled] at channels
    rcases postChannel_cases before s c with ⟨none, e⟩ | ⟨samples, r, filling, hr, e⟩
    · have same : (State.postChannel before s c).store = s.store := by rw [e]; rfl
      rw [same] at store custody
      exact ⟨recs, store, by rw [channels, List.filter_cons_of_neg (by simp [none])], custody, moved⟩
    · have posted : (State.postChannel before s c).store = { s.store with
          posted := s.store.posted ++ [⟨.audio r, s.ticks⟩], lastCustody := s.store.lastCustody + 1 } := by rw [e]; rfl
      have chain : ((State.postChannel before s c).chan c).chain = r.check := by
        rw [e, State.chan_modChan, if_pos rfl]
      have channel : r.channel = c := by rw [hr]; rfl
      have number : r.custody = s.store.lastCustody + 1 := by rw [hr]; rfl
      rw [posted] at store custody
      refine ⟨r :: recs, ?_, ?_, fun i hi => ?_, fun x hx => ?_⟩
      · rw [store]
        simp only [List.map_cons, List.length_cons, List.append_assoc, List.singleton_append]
        rw [Nat.add_right_comm, Nat.add_assoc]
      · rw [List.map_cons, channels, channel, List.filter_cons_of_pos (by simp [filling])]
      · cases i with
        | zero => exact number
        | succ i =>
          have later := custody i (Nat.lt_of_succ_lt_succ hi)
          simp only [List.getElem_cons_succ]
          rw [later]
          simp only []
          omega
      · rcases List.mem_cons.mp hx with rfl | hx
        · rw [channel, own, chain]
          refine ⟨samples, filling, ?_, rfl⟩
          rw [number]
          exact hr
        · exact moved x hx

theorem postBlocks_posting (before s : State) : ∃ recs, Posting before s (s.postBlocks before) allChans recs :=
  postChannels_posting before allChans s (List.nodup_finRange 24)

/-! ## The marker step -/

theorem request_eq (m : Markers) : m.request = if m.fullEntries = [] then [] else [(none, .keep)] := by
  have empty : m.fullEntries = [] ↔ ∀ i : Fin 8, m.slots.get i = none := by
    simp [Markers.fullEntries, List.filterMap_eq_nil_iff]
  simp only [Markers.request, empty]

/-- The marker step as the first request of an allocation run (R8, R9, R111 to R115). -/
structure MarkerTurn (s t : State) (period : Nat) (tag : Tag) (st : Stamp) (ms : List MarkerRecord) : Prop where
  step : s.marks.Step t.marks (none ∈ (s.store.run s.marks.request).1) s.cap.number (s.store.lastCustody + 1) period tag st ms
  posted : t.store.posted = s.store.posted ++ ms.map fun m => ⟨.marker m, s.ticks⟩
  lastCustody : t.store.lastCustody = s.store.lastCustody + ms.length
  flag : flagSet t.link.raised .marker = (flagSet s.link.raised .marker || !ms.isEmpty)
  run : StoreRun s t False
  allocated : ∀ {rs st'}, t.store.Allocated st' rs → s.store.Allocated st' (s.marks.request ++ rs)
  granted : ∀ rs, (s.store.run (s.marks.request ++ rs)).1 = (s.store.run s.marks.request).1 ++ (t.store.run rs).1

theorem takeMarkers_turn (s : State) (period : Nat) (tag : Tag) (st : Stamp) :
    ∃ ms, MarkerTurn s (s.takeMarkers period tag st) period tag st ms := by
  obtain ⟨empty, refused, granted⟩ := markerTakingRule s period tag st s.marks.fullEntries rfl
  have step {m' : Markers} {g : Prop} {ms : List MarkerRecord} (unmarked : s.marks.fullEntries = [] → ms = [] ∧ m' = s.marks)
      (no : s.marks.fullEntries ≠ [] → ¬ g → ms = [] ∧ m' = { s.marks with refusals := satInc 65535 s.marks.refusals })
      (yes : s.marks.fullEntries ≠ [] → g → ∃ r : MarkerRecord, ms = [r] ∧
        r = ⟨s.cap.number, s.store.lastCustody + 1, s.marks.sequence, period, st.day, st.instant, st.quality, tag,
          s.marks.fullEntries, crc32 s.marks.chain r.covered⟩ ∧
        m' = { s.marks with
          slots := Vector.replicate 8 none, sequence := s.marks.sequence + 1, chain := r.check
          takings := (pushListed s.marks.takings s.marks.unlisted ⟨s.cap.number, s.marks.sequence,
            s.store.lastCustody + 1, period, s.marks.fullEntries.map Prod.fst⟩).1
          unlisted := (pushListed s.marks.takings s.marks.unlisted ⟨s.cap.number, s.marks.sequence,
            s.store.lastCustody + 1, period, s.marks.fullEntries.map Prod.fst⟩).2 }) :
      s.marks.Step m' g s.cap.number (s.store.lastCustody + 1) period tag st ms := by
    intro full hfull
    obtain rfl : full = s.marks.fullEntries := hfull
    exact ⟨unmarked, no, yes⟩
  by_cases hf : s.marks.fullEntries = []
  · have request : s.marks.request = [] := by rw [request_eq, if_pos hf]
    rw [empty hf]
    exact ⟨[], step (fun _ => ⟨rfl, rfl⟩) (fun h => absurd hf h) (fun h => absurd hf h), by simp, rfl, by simp, .refl s,
      fun g => by rw [request]; exact g, fun rs => by rw [request]; rfl⟩
  · have request : s.marks.request = [(none, .keep)] := by rw [request_eq, if_neg hf]
    cases hr : s.slotRequest .keep with
    | none =>
      have nobody : (s.store.run s.marks.request).1 = [] := by rw [request, run_refused hr]; rfl
      rw [refused hf hr]
      refine ⟨[], step (fun h => absurd h hf) (fun _ _ => ⟨rfl, rfl⟩) (fun _ h => ?_), by simp, rfl, by simp,
        (StoreRun.refl s).of_parts rfl rfl, fun g => by rw [request]; exact allocated_refused hr _ g, fun rs => ?_⟩
      · rw [nobody] at h
        cases h
      · rw [nobody, request]
        exact congrArg Prod.fst (run_refused hr none rs)
    | some g =>
      have taken : (s.store.run s.marks.request).1 = [none] := by rw [request, run_granted hr]; rfl
      obtain ⟨r, hrec, e⟩ := granted hf g hr
      have number : r.custody = s.store.lastCustody + 1 := congrArg MarkerRecord.custody hrec
      have sequence : r.sequence = s.marks.sequence := congrArg MarkerRecord.sequence hrec
      have posted := slotRequest_store hr
      rw [e]
      refine ⟨[r], step (fun h => absurd h hf) (fun _ h => ?_) (fun _ _ => ?_), ?_, rfl, ?_,
        (slotRequest_run hr).of_parts rfl ?_, fun h => by rw [request]; exact allocated_granted hr _ h, fun rs => ?_⟩
      · rw [taken] at h
        exact absurd List.mem_cons_self h
      · refine ⟨r, rfl, hrec, ?_⟩
        simp only [number, sequence]
      · rw [posted]
        rfl
      · have raised : flagSet g.link.raised .marker = flagSet s.link.raised .marker := by
          obtain ⟨st', r', hr', rfl⟩ := slotRequest_frame hr
          exact hr'.same (by decide)
        simp only [← flag_marker, flagSet_or, raised]
        rfl
      · simp [← flag_marker]
      · rw [taken, request]
        exact congrArg Prod.fst (run_granted hr none rs)

end Sys2Proof.Machine
end

section
/-! SUPPORT. Steps (a), (c) and (d) of a boundary: the records posted, and the requests decided in class order (R5, R6, R8,
R9, R33 to R35, R38, R40). -/

namespace Sys2Proof.Machine

variable {s t : State}

/-! ## The opening of a period -/

theorem audioRequests_eq (s : State) : audioRequests (fun c => (s.chan c).settings) = s.requestsOf s.requestOrder := by
  have cls (k : Class) : ((List.finRange 24).filter fun c => (s.chan c).settings.enable = true ∧
      (s.chan c).settings.cls = k).map (fun c => (some c, k)) = s.requestsOf (s.ofClass k) := by
    have same : (List.finRange 24).filter (fun c => (s.chan c).settings.enable = true ∧ (s.chan c).settings.cls = k) =
        s.ofClass k := List.filter_congr fun c _ => by simp [Bool.beq_eq_decide_eq]
    rw [same]
    refine List.map_congr_left fun c hc => ?_
    simp only [State.ofClass, List.mem_filter, Bool.and_eq_true, beq_iff_eq] at hc
    rw [hc.2.2]
  simp only [audioRequests, List.flatMap_cons, List.flatMap_nil, List.append_nil, cls, State.requestOrder,
    State.requestsOf, List.map_append, List.append_assoc]

theorem audioRequests_congr {f g : Chan → Settings} (h : ∀ c, f c = g c) : audioRequests f = audioRequests g :=
  congrArg audioRequests (funext h)

/-- What the marker step and the allocation make of a state, as one run of requests (R8, R9, R33 to R35, R38). -/
structure PeriodOpened (s t : State) (period : Nat) (tag : Tag) (st : Stamp) (rs : List (Option Chan × Class))
    (ms : List MarkerRecord) : Prop where
  step : s.marks.Step t.marks (none ∈ (s.store.run s.marks.request).1) s.cap.number (s.store.lastCustody + 1) period tag st ms
  marker : none ∈ (s.store.run rs).1 ↔ none ∈ (s.store.run s.marks.request).1
  posted : t.store.posted = s.store.posted ++ ms.map fun m => ⟨.marker m, s.ticks⟩
  lastCustody : t.store.lastCustody = s.store.lastCustody + ms.length
  markerFlag : flagSet t.link.raised .marker = (flagSet s.link.raised .marker || !ms.isEmpty)
  allocated : s.store.Allocated t.store rs
  run : StoreRun s t (∃ c, (s.chan c).settings.enable = true ∧ (s.chan c).starved = false ∧ some c ∉ (s.store.run rs).1)
  chan : ∀ c, t.chan c = if (s.chan c).settings.enable = true
    then (if some c ∈ (s.store.run rs).1 then (s.chan c).granted else (s.chan c).refused) else s.chan c

theorem allocate_opened (s : State) (period : Nat) (tag : Tag) (st : Stamp) :
    ∃ ms, PeriodOpened s (s.takeMarkers period tag st).allocate period tag st
      (s.marks.request ++ audioRequests fun c => (s.chan c).settings) ms := by
  obtain ⟨ms, turn⟩ := takeMarkers_turn s period tag st
  have chan (c : Chan) : (s.takeMarkers period tag st).chan c = s.chan c := by
    obtain ⟨store, m, r, -, e⟩ := takeMarkers_changes s period tag st
    exact State.chan_congr (by rw [e]) c
  generalize s.takeMarkers period tag st = v at turn chan ⊢
  have asks : (audioRequests fun c => (s.chan c).settings) = v.requestsOf v.requestOrder := by
    rw [← audioRequests_eq]
    exact audioRequests_congr fun c => by rw [chan]
  have allot : Allotment v v.allocate v.requestOrder := requestSlots_run v.requestOrder v (requestOrder_nodup v)
  obtain ⟨⟨store, ch, r, flags, frame⟩, -⟩ := allocate_changes v
  have slots := fun c => chan_allocate v c
  generalize v.allocate = w at allot frame slots ⊢
  have marks : w.marks = v.marks := by rw [frame]
  have raised : w.link.raised = r := by rw [frame]
  have nobody : none ∉ (v.store.run (v.requestsOf v.requestOrder)).1 := fun h => by
    obtain ⟨c, -, e⟩ := mem_requestsOf (mem_run h)
    cases e
  have unasked (c : Chan) : some c ∉ (s.store.run s.marks.request).1 := fun h => by
    obtain ⟨k, hk⟩ := mem_run h
    rw [request_eq] at hk
    split_ifs at hk
    · cases hk
    · rw [List.mem_singleton] at hk
      cases hk
  have granted (c : Chan) : some c ∈ (s.store.run (s.marks.request ++ v.requestsOf v.requestOrder)).1 ↔
      some c ∈ (v.store.run (v.requestsOf v.requestOrder)).1 := by
    rw [turn.granted, List.mem_append, or_iff_right (unasked c)]
  rw [asks]
  refine ⟨ms, by rw [marks]; exact turn.step, ?_, by rw [allot.posted.1, turn.posted],
    by rw [allot.posted.2, turn.lastCustody], ?_, turn.allocated allot.allocated, (turn.run.trans allot.run).congr ?_,
    fun c => ?_⟩
  · rw [turn.granted, List.mem_append, or_iff_left nobody]
  · rw [raised, flags.same (by decide), turn.flag]
  · simp only [false_or, mem_requestOrder, chan, granted]
  · have turn := slots c
    split_ifs with enabled granted'
    · rw [allot.chan c (mem_requestOrder.mpr (by rwa [chan])), if_pos ((granted c).mp granted'), chan]
    · rw [allot.chan c (mem_requestOrder.mpr (by rwa [chan])), if_neg fun h => granted' ((granted c).mpr h), chan]
    · rw [chan, if_neg enabled] at turn
      exact turn

/-! ## The records of a period -/

/-- The state in which the FILLING blocks are posted at a boundary that is not final: the blocks completed, the trim unit's
work done (R21, R131). -/
def State.worked (s : State) : State :=
  s.completeBlocks.clearMarks.trimBoundaryWork (wrapInc s.cap.period) s.enabledNext

theorem ended_eq (s : State) : s.ended = s.worked.postBlocks s := by simp only [State.ended, State.worked]

/-- What a state in which the FILLING blocks are posted has of the state in which the boundary began. -/
structure Worked (s u : State) : Prop where
  ticks : u.ticks = s.ticks
  cap : u.cap = s.cap
  store : u.store = s.store
  marks : u.marks = s.marks
  floor : u.floor = s.floor
  chan : ∀ c, u.chan c = { (s.chan c).complete with
    handover := (u.chan c).handover, mismatch := (u.chan c).mismatch, noSpare := (u.chan c).noSpare }

theorem worked_frame (s : State) : Worked s s.worked := by
  have trim := TrimFrame.trimBoundaryWork s.completeBlocks.clearMarks (wrapInc s.cap.period) s.enabledNext
  have begun : ∃ ch, s.completeBlocks.clearMarks = { s with chans := ch } := by
    rw [State.clearMarks, (mapChans_changes _ _).choose_spec, State.completeBlocks, (mapChans_changes _ _).choose_spec]
    exact ⟨_, rfl⟩
  have chan (c : Chan) : s.completeBlocks.clearMarks.chan c = { (s.chan c).complete with handover := false } := by
    rw [chan_clearMarks, chan_completeBlocks]
  simp only [State.worked]
  generalize s.completeBlocks.clearMarks = a at trim begun chan ⊢
  obtain ⟨ch, rfl⟩ := begun
  exact ⟨trim.ticks, trim.cap, trim.store, trim.marks, trim.floor, fun c => by rw [trim.chan c, chan]⟩

theorem endedFinally_eq (s : State) : s.endedFinally = s.completeBlocks.trimFinalWork.postBlocks s := rfl

theorem workedFinally_frame (s : State) : Worked s s.completeBlocks.trimFinalWork := by
  have trim := TrimFrame.trimFinalWork s.completeBlocks
  have begun : ∃ ch, s.completeBlocks = { s with chans := ch } := mapChans_changes s _
  have chan (c : Chan) : s.completeBlocks.chan c = (s.chan c).complete := chan_completeBlocks s c
  generalize s.completeBlocks = a at trim begun chan ⊢
  obtain ⟨ch, rfl⟩ := begun
  exact ⟨trim.ticks, trim.cap, trim.store, trim.marks, trim.floor, fun c => by rw [trim.chan c, chan]⟩

/-- What stands of a channel once the boundary is over, its routes, its slot and the trim unit's marks apart (R5, R7, R22,
R93). -/
structure Channel.Heard (ch after : Channel) (chain : BitVec 32) : Prop where
  block : after.block = none
  lastLevel : after.lastLevel = ch.heard.1
  activity : (after.activity, after.hangCounter) =
    if after.settings.enable = true then ch.heard.2 else (.quiet, 0)
  chain : after.chain = chain

theorem Worked.fields {u : State} (w : Worked s u) (c : Chan) : (u.chan c).settings = (s.chan c).settings ∧
    (u.chan c).route = (s.chan c).route ∧ (u.chan c).block = (s.chan c).block ∧
    (u.chan c).lastSeq = (s.chan c).lastSeq ∧ (u.chan c).gapTally = (s.chan c).gapTally ∧
    (u.chan c).filling = (s.chan c).filling ∧ (u.chan c).chain = (s.chan c).chain ∧
    (u.chan c).lastLevel = (s.chan c).heard.1 ∧ (u.chan c).activity = (s.chan c).heard.2.1 := by
  rw [w.chan c, Channel.complete_eq]
  exact ⟨rfl, rfl, rfl, rfl, rfl, rfl, rfl, rfl, rfl⟩

/-- The header of the record a channel posts, from the state in which the boundary began (R6). -/
def State.blockHeader (s : State) (c : Chan) (faulted : Bool) (custody : Nat) (samples : List Sample) : AudioRecord where
  channel := c
  capture := s.cap.number
  custody := custody
  sequence := (s.chan c).lastSeq.getD 0
  period := s.cap.period
  gap := (s.chan c).gapTally
  day := s.cap.stamp.day
  instant := s.cap.stamp.instant
  quality := s.cap.stamp.quality
  tag := audioTag s.cap.proceeding (s.chan c).settings.bench
  flags := ⟨decide ((s.chan c).route ≠ .mic), (s.chan c).handover, faulted, s.cap.stamp.stepped⟩
  converter := s.convOf c
  gain := (s.chan c).settings.gain
  level := (s.chan c).heard.1
  activity := (s.chan c).heard.2.1
  holder := s.floor.holder
  peak := ((s.chan c).block.getD RunningBlock.start).peak
  clipped := ((s.chan c).block.getD RunningBlock.start).clipped
  check := 0#32
  samples := samples

theorem covered_chained (r : AudioRecord) (start : BitVec 32) : (r.chained start).covered = r.covered := by
  unfold AudioRecord.chained
  generalize crc32 start r.covered = check
  rfl

theorem check_chained (r : AudioRecord) (start : BitVec 32) : (r.chained start).check = crc32 start r.covered := by
  simp only [AudioRecord.chained]

theorem getD_map {α β : Type} {o : Option α} {f : α → β} {d : α} {e : β} (h : f d = e) : f (o.getD d) = (o.map f).getD e := by
  cases o with
  | none => exact h
  | some a => rfl

/-- The records of step (a), field by field (R5, R6, R84, R86). -/
theorem blocksPosted {u : State} (w : Worked s u) {recs : List AudioRecord}
    (posting : Posting s u (u.postBlocks s) allChans recs) (faults : ∀ v, (t.conv v).state = (u.conv v).state)
    (heard : ∀ c, (s.chan c).Heard (t.chan c) ((u.postBlocks s).chan c).chain) : s.BlocksPosted t recs := by
  refine ⟨?_, fun i h => ?_, fun r hr ch hch => ?_, fun c none => ?_, fun c => ⟨(heard c).block, (heard c).lastLevel, (heard c).activity⟩⟩
  · rw [posting.channels]
    exact List.filter_congr fun c _ => by rw [(w.fields c).2.2.2.2.2.1]
  · rw [posting.custody i h, w.store]
  · obtain ⟨samples, filling, eq, chain⟩ := posting.record r hr
    have next : (t.chan r.channel).chain = r.check := (heard r.channel).chain.trans chain
    obtain ⟨settings, route, block, lastSeq, gap, slot, start, level, activity⟩ := w.fields r.channel
    have header : r = (s.blockHeader r.channel (decide ((t.conv (s.convOf r.channel)).state = .faulted)) r.custody
        samples).chained (s.chan r.channel).chain := by
      refine eq.trans ?_
      simp only [State.audioRecord, State.blockHeader, settings, route, block, lastSeq, gap, start, level, activity, w.cap,
        w.floor, faults, bne, beq_eq_decide, decide_not]
    have field {β : Type} (g : AudioRecord → β) := congrArg g header
    have covered : r.covered = (s.blockHeader r.channel (decide ((t.conv (s.convOf r.channel)).state = .faulted)) r.custody
      samples).covered := (field AudioRecord.covered).trans (covered_chained _ _)
    rw [hch]
    refine ⟨?_, field AudioRecord.capture, field AudioRecord.sequence, field AudioRecord.period, field AudioRecord.gap,
      field AudioRecord.day, field AudioRecord.instant, field AudioRecord.quality, field AudioRecord.tag,
      field AudioRecord.flags, field AudioRecord.converter, field AudioRecord.gain, field AudioRecord.level,
      field AudioRecord.activity, field AudioRecord.holder, (field AudioRecord.peak).trans (getD_map (f := RunningBlock.peak) rfl),
      (field AudioRecord.clipped).trans (getD_map (f := RunningBlock.clipped) rfl), ?_, next⟩
    · rw [← slot, filling]
      exact congrArg some (field AudioRecord.samples)
    · rw [covered]
      exact (field AudioRecord.check).trans (check_chained _ _)
  · rw [(heard c).chain, (chan_postBlocks s u c).2 ((w.fields c).2.2.2.2.2.1.trans none), (w.fields c).2.2.2.2.2.2.1]

end Sys2Proof.Machine
end

section
/-! SUPPORT. A boundary that is not final: its records and its allocation (R5 to R9, R33 to R35, R38, R40, R111 to R115). -/

namespace Sys2Proof.Machine

variable {s t : State}

/-! ## What the boundary leaves of each part -/

theorem Channel.Heard.settle {ch x y : Channel} (block : x.block = none) (level : x.lastLevel = ch.heard.1)
    (activity : (x.activity, x.hangCounter) = ch.heard.2) (still : y.block = x.block ∧ y.lastLevel = x.lastLevel ∧ y.chain = x.chain)
    (settings : y.settings = x.commitSettings.settings)
    (evaluated : y.activity = x.commitSettings.activity ∧ y.hangCounter = x.commitSettings.hangCounter) :
    ch.Heard y x.chain := by
  obtain ⟨b, l, c⟩ := still
  refine ⟨b.trans block, l.trans level, ?_, c⟩
  rw [settings, evaluated.1, evaluated.2, ← activity]
  simp only [Channel.commitSettings]
  by_cases enabled : (x.settings.over x.pendingSettings).enable = true
  · simp only [if_pos enabled]
    exact (if_pos enabled).symm
  · simp only [if_neg enabled]
    exact (if_neg enabled).symm

theorem ended_chan (s : State) (c : Chan) : (s.ended.chan c).block = none ∧ (s.ended.chan c).filling = none ∧
    (s.ended.chan c).gapTally = (if (s.chan c).filling.isSome = true then 0 else (s.chan c).gapTally) ∧
    (s.ended.chan c).handover = (if (s.chan c).filling.isSome = true then (s.worked.chan c).handover
      else (s.worked.chan c).handover || (s.chan c).handover) ∧
    (s.ended.chan c).mismatch = (s.worked.chan c).mismatch ∧ (s.ended.chan c).noSpare = (s.worked.chan c).noSpare := by
  obtain ⟨-, -, -, -, gap, filling, -⟩ := (worked_frame s).fields c
  rw [ended_eq, (chan_postBlocks s s.worked c).1]
  simp only [Channel.posted, gap, filling, and_self]

/-- A channel after the commit of a boundary that is not final (R7). -/
theorem chan_committed (s : State) (c : Chan) : s.committed.chan c = (s.ended.chan c).committed s.newProceeding := by
  have proceeding : s.renumbered.newProceeding = s.newProceeding := by
    simp only [State.newProceeding, State.renumbered, (ended_frame s).cap]
  have chan : s.renumbered.chan c = s.ended.chan c := State.chan_congr (by simp only [State.renumbered]) c
  rw [(committed_result s).chan c, proceeding, chan]

theorem heard_periodBoundary (s : State) (c : Chan) : (s.chan c).Heard (s.periodBoundary.chan c) (s.ended.chan c).chain := by
  have opened := Channel.eq_of_besidesSlots ((opening_frame s).chan c)
  obtain ⟨block, -⟩ := ended_chan s c
  have ended := (ended_frame s).chan c
  rw [chan_committed] at opened
  generalize s.periodBoundary.chan c = y at opened ⊢
  generalize s.ended.chan c = x at opened block ended ⊢
  have level : x.lastLevel = (s.chan c).heard.1 := by rw [ended]
  have activity : (x.activity, x.hangCounter) = (s.chan c).heard.2 := by rw [ended]
  rw [opened]
  exact .settle block level activity ⟨rfl, rfl, rfl⟩ rfl ⟨rfl, rfl⟩

theorem ended_trim (s : State) : s.ended.trim = s.worked.trim := by
  obtain ⟨⟨st, ch, e⟩, -⟩ := postBlocks_frame s s.worked
  rw [ended_eq, e]

theorem periodBoundary_trim (s : State) : s.periodBoundary.trim = s.renumbered.commitSettings.trim := by
  obtain ⟨⟨st, ch, m, fl, r, -, e⟩, -⟩ := opening_frame s
  rw [← (committed_result s).trim, e]

/-- Of the trim unit the steps after its work change no more than stuck counts (R130). -/
theorem trim_periodBoundary (s : State) : s.periodBoundary.trim = { s.worked.trim with convs := s.periodBoundary.trim.convs } := by
  rw [periodBoundary_trim, commitSettings_trim, ← ended_trim]
  simp only [State.renumbered]

/-- A converter after a boundary that is not final: its stuck count is 0 when the commit disables its channel (R130). -/
theorem conv_periodBoundary (s : State) (v : Conv) : s.periodBoundary.conv v =
    if (s.worked.channelOf v).any (fun c => (s.chan c).settings.enable && !(s.newSettings c).enable) = true then
      { s.worked.conv v with stuck := 0 } else s.worked.conv v := by
  have trim : s.renumbered.trim = s.worked.trim := by
    rw [← ended_trim]
    simp only [State.renumbered]
  have conv : s.renumbered.conv v = s.worked.conv v := State.conv_congr (by rw [trim]) v
  have channelOf : s.renumbered.channelOf v = s.worked.channelOf v := by
    simp only [State.channelOf, State.convOf, trim]
  have chan (c : Chan) : s.renumbered.chan c = s.ended.chan c := State.chan_congr (by simp only [State.renumbered]) c
  have settings (c : Chan) : (s.ended.chan c).settings = (s.chan c).settings ∧
      (s.ended.chan c).pendingSettings = (s.chan c).pendingSettings := by
    rw [(ended_frame s).chan c]
    exact ⟨rfl, rfl⟩
  rw [State.conv_congr (congrArg TrimUnit.convs (periodBoundary_trim s)) v, conv_commitSettings, conv, channelOf]
  simp only [State.enabledNext, chan, settings]

theorem conv_state_periodBoundary (s : State) (v : Conv) : (s.periodBoundary.conv v).state = (s.worked.conv v).state := by
  rw [conv_periodBoundary]
  split_ifs <;> rfl

/-- The state of the commit, as the marker step finds it. -/
structure CommittedFrame (s u : State) (recs : List AudioRecord) : Prop where
  store : u.store = { s.store with
    posted := s.store.posted ++ recs.map fun r => ⟨.audio r, s.ticks⟩, lastCustody := s.store.lastCustody + recs.length }
  marks : u.marks = s.marks
  ticks : u.ticks = s.ticks
  number : u.cap.number = s.cap.number
  settings : ∀ c, (u.chan c).settings = s.newSettings c
  store_flag : flagSet u.link.raised .store = flagSet s.link.raised .store
  marker_flag : flagSet u.link.raised .marker = flagSet s.link.raised .marker

theorem committed_frame (s : State) : ∃ recs, CommittedFrame s s.committed recs ∧
    Posting s s.worked s.ended allChans recs := by
  obtain ⟨recs, posting⟩ := postBlocks_posting s s.worked
  rw [← ended_eq] at posting
  have commit := committed_result s
  have ended := ended_frame s
  have worked := worked_frame s
  have renumbered : s.renumbered.store = s.ended.store ∧ s.renumbered.marks = s.ended.marks ∧
      s.renumbered.ticks = s.ended.ticks ∧ s.renumbered.link = s.ended.link ∧
      s.renumbered.cap.number = s.ended.cap.number := by
    simp only [State.renumbered, and_self]
  obtain ⟨store, marks, ticks, link, number⟩ := renumbered
  refine ⟨recs, ⟨?_, ?_, ?_, ?_, fun c => ?_, ?_, ?_⟩, posting⟩
  · rw [commit.store, store, posting.store, worked.store, worked.ticks]
  · rw [commit.marks, marks, ended.marks]
  · rw [commit.ticks, ticks, ended.ticks]
  · rw [commit.cap, commitProceeding_cap]
    simp only [number, ended.cap]
  · rw [chan_committed, (ended.chan c)]
    rfl
  · rw [commit.flags.same (by decide), link, ended.flags.same (by decide)]
  · rw [commit.flags.same (by decide), link, ended.flags.same (by decide)]

/-- The requests of a boundary's allocation run. -/
abbrev State.boundaryRequests (s : State) : List (Option Chan × Class) := s.marks.request ++ audioRequests s.newSettings

/-- The marker step and the allocation, from the state of the commit (R8, R9). -/
theorem allotted_opened (s : State) : ∃ recs ms, CommittedFrame s s.committed recs ∧
    Posting s s.worked s.ended allChans recs ∧ PeriodOpened s.committed s.allotted (wrapInc s.cap.period)
      (markerTag s.newProceeding) s.stampNow s.boundaryRequests ms := by
  obtain ⟨recs, frame, posting⟩ := committed_frame s
  have cap : s.committed.cap.period = wrapInc s.cap.period ∧ s.committed.cap.proceeding = s.newProceeding := by
    rw [(committed_result s).cap, commitProceeding_cap]
    simp only [State.renumbered, State.newProceeding, (ended_frame s).cap, and_self]
  have time : s.committed.stampNow = s.stampNow := by
    have same : s.committed.time = s.time := by
      rw [(committed_result s).time, ← (ended_frame s).time]
      simp only [State.renumbered]
    simp only [State.stampNow, same]
  have opened := allocate_opened s.committed s.committed.cap.period (markerTag s.committed.cap.proceeding)
    s.committed.stampNow
  rw [cap.1, cap.2, time, frame.marks, audioRequests_congr frame.settings, ← cap.1, ← cap.2, ← time] at opened
  obtain ⟨ms, opened⟩ := opened
  refine ⟨recs, ms, frame, posting, ?_⟩
  rw [State.allotted, ← cap.1, ← cap.2, ← time]
  exact opened

/-- Settles O9. -/
theorem periodBoundaryPostsBlocksAndMarkers : Obligations.PeriodBoundaryPostsBlocksAndMarkers := by
  unfold Obligations.PeriodBoundaryPostsBlocksAndMarkers
  intro s boundary
  obtain ⟨recs, ms, frame, posting, opened⟩ := allotted_opened s
  have store : s.periodBoundary.store = s.allotted.store := decided_keeps State.store (fun _ _ _ _ => rfl) s
  have marks : s.periodBoundary.marks = s.allotted.marks := decided_keeps State.marks (fun _ _ _ _ => rfl) s
  have flag : flagSet s.periodBoundary.link.raised .marker = flagSet s.allotted.link.raised .marker := by
    obtain ⟨fl, r, hr, h⟩ := decided_frame s
    rw [h]
    exact hr.same (by decide)
  refine ⟨_, exec_periodBoundary boundary, recs, ms,
    blocksPosted (worked_frame s) (by rw [← ended_eq]; exact posting) (conv_state_periodBoundary s)
      fun c => by rw [← ended_eq]; exact heard_periodBoundary s c, ?_, ?_, ?_, ?_, ?_⟩
  · have step := opened.step
    rw [frame.marks, frame.number, frame.store] at step
    rw [marks]
    exact step
  · rw [store, opened.posted, frame.store, frame.ticks]
  · rw [store, opened.lastCustody, frame.store]
  · rw [store, opened.run.sending, frame.store]
  · rw [flag, opened.markerFlag, frame.marker_flag]

/-- Settles O10. -/
theorem periodBoundaryAllocatesInClassOrder : Obligations.PeriodBoundaryAllocatesInClassOrder := by
  unfold Obligations.PeriodBoundaryAllocatesInClassOrder
  intro s boundary
  refine ⟨_, exec_periodBoundary boundary, fun rs hrs => ?_⟩
  obtain rfl : rs = s.boundaryRequests := hrs
  obtain ⟨recs, ms, frame, -, opened⟩ := allotted_opened s
  have store : s.periodBoundary.store = s.allotted.store := decided_keeps State.store (fun _ _ _ _ => rfl) s
  have flag : flagSet s.periodBoundary.link.raised .store = flagSet s.allotted.link.raised .store := by
    obtain ⟨fl, r, hr, h⟩ := decided_frame s
    rw [h]
    exact hr.same (by decide)
  have run : s.committed.store.run s.boundaryRequests = s.store.run s.boundaryRequests := by rw [frame.store]; rfl
  have ended (c : Chan) := (ended_frame s).chan c
  refine ⟨?_, ?_, fun c gap hgap => ?_⟩
  · have allocated := opened.allocated
    rw [frame.store] at allocated
    rw [store]
    exact allocated
  · have raised := opened.run.flag
    have starved (c : Chan) : (s.committed.chan c).starved = (s.chan c).starved := by
      rw [chan_committed, ended c]
      rfl
    have level : s.committed.store.level = s.store.level := by rw [frame.store]; rfl
    have custody : s.committed.store.custody = s.store.custody := by rw [frame.store]
    simp only [frame.settings, starved, run, level, custody, frame.store_flag] at raised
    rw [flag, store, Bool.eq_iff_iff, raised, Bool.or_eq_true, decide_eq_true_iff]
  · obtain ⟨-, filling, tally, -⟩ := ended_chan s c
    have chan := opened.chan c
    rw [run, frame.settings] at chan
    rw [chan_periodBoundary, chan]
    have before : (s.committed.chan c).lastSeq = (s.chan c).lastSeq ∧ (s.committed.chan c).seqCount = (s.chan c).seqCount ∧
        (s.committed.chan c).filling = none ∧ (s.committed.chan c).gapTally = gap ∧
        (s.committed.chan c).starved = (s.chan c).starved ∧ (s.committed.chan c).starvation = (s.chan c).starvation ∧
        (s.committed.chan c).newlyStarved = (s.chan c).newlyStarved := by
      have e := ended c
      rw [chan_committed]
      generalize s.ended.chan c = x at e tally filling ⊢
      exact ⟨(congrArg Channel.lastSeq e :), (congrArg Channel.seqCount e :), filling, tally.trans hgap.symm,
        (congrArg Channel.starved e :), (congrArg Channel.starvation e :), (congrArg Channel.newlyStarved e :)⟩
    generalize s.committed.chan c = ch at before ⊢
    obtain ⟨lastSeq, seqCount, filling, tally, starved, starvation, newly⟩ := before
    split_ifs
    · simp [Channel.granted, Channel.countPeriod, wrapInc, seqCount, tally, starvation, newly]
    · simp [Channel.refused, Channel.countPeriod, wrapInc, seqCount, tally, starvation, newly, starved, filling]
    · exact ⟨lastSeq, seqCount, filling, tally, starved, starvation, newly⟩

end Sys2Proof.Machine
end

section
/-! SUPPORT. The converter bank as the trim unit's work changes it: converters, map, engine, rotation and the channels' marks
of it (R118 to R134), and the entries of the CONVERTER notice (R134). -/

namespace Sys2Proof.Machine

/-! ## The bank -/

/-- What the converters' law and the statements about the trim unit read of a state. -/
structure Bank where
  conv : Conv → Converter
  map : Chan → Conv
  built : Bool
  engine : Option Engine
  rotation : RotationState
  named : Option Conv
  shadow : Option Shadow
  matchSum : Nat
  timer : Nat
  mismatch : Chan → Nat
  handover : Chan → Bool
  noSpare : Chan → Bool

/-- The bank of a state. -/
def State.bank (s : State) : Bank where
  conv := s.conv
  map := s.convOf
  built := s.trim.mapBuilt
  engine := s.trim.engine
  rotation := s.trim.rotation
  named := s.trim.named
  shadow := s.trim.shadow
  matchSum := s.trim.matchSum
  timer := s.trim.timer
  mismatch c := (s.chan c).mismatch
  handover c := (s.chan c).handover
  noSpare c := (s.chan c).noSpare

namespace Bank

/-- One converter changed. -/
def setConv (b : Bank) (v : Conv) (x : Converter) : Bank := { b with conv := Function.update b.conv v x }

/-- Channel `c` takes converter `v` in place of the one it had (R128, R131, R133). -/
def give (b : Bank) (c : Chan) (v : Conv) : Bank :=
  { b with
    conv := Function.update b.conv v { b.conv v with state := .serving, stuck := 0 }
    map := Function.update b.map c v
    mismatch := Function.update b.mismatch c 0
    handover := Function.update b.handover c true
    noSpare := Function.update b.noSpare c false }

/-- Channel `c` is in the no-spare set (R132). -/
def join (b : Bank) (c : Chan) : Bank := { b with noSpare := Function.update b.noSpare c true }

/-- A rotation ends, or is left DUE (R128, R131). -/
def rest (b : Bank) (r : RotationState) : Bank := { b with rotation := r, shadow := none }

/-- A trim begins (R120). -/
def trim (b : Bank) (v : Conv) (k : TrimKind) : Bank :=
  { b with conv := Function.update b.conv v { b.conv v with state := .trimming }, engine := some ⟨v, k, k.length, 0⟩ }

end Bank

variable {s t : State}

theorem bank_modConv (s : State) (v : Conv) (f : Converter → Converter) :
    (s.modConv v f).bank = s.bank.setConv v (f (s.conv v)) := by
  have conv : (s.modConv v f).conv = Function.update s.conv v (f (s.conv v)) := funext fun w => by
    rw [State.conv_modConv, Function.update_apply]
  simp only [State.bank, conv]
  rfl

theorem bank_addConverter (s : State) (e : ConverterEntry) : (s.addConverter e).bank = s.bank := rfl

theorem bank_endRotation (s : State) (r : RotationState) : (s.endRotation r).bank = s.bank.rest r := rfl

theorem bank_startTrim (s : State) (v : Conv) (k : TrimKind) : (s.startTrim v k).bank = s.bank.trim v k := by
  have begun : (s.startTrim v k).bank = { (s.modConv v fun x => { x with state := .trimming }).bank with
    engine := some ⟨v, k, k.length, 0⟩ } := rfl
  rw [begun, bank_modConv]
  rfl

theorem bank_handOver (s : State) (p : Nat) (c : Chan) (v : Conv) (k : ConverterCause) :
    (s.handOver p c v k).bank = s.bank.give c v := by
  have chan (d : Chan) : (s.handOver p c v k).chan d =
      if d = c then { s.chan c with handover := true, mismatch := 0, noSpare := false } else s.chan d :=
    State.chan_modChan (s.serve c v) c d fun x => { x with handover := true, mismatch := 0, noSpare := false }
  have conv : (s.handOver p c v k).conv = Function.update s.conv v { s.conv v with state := .serving, stuck := 0 } :=
    funext fun w => (State.conv_modConv s v w fun x => { x with state := .serving, stuck := 0 }).trans
      (Function.update_apply _ _ _ _).symm
  have map : (s.handOver p c v k).convOf = Function.update s.convOf c v :=
    funext fun d => (State.convOf_serve s c d v).trans (Function.update_apply _ _ _ _).symm
  have field {β : Type} (g : Channel → β) (x : β) (hx : g { s.chan c with handover := true, mismatch := 0, noSpare := false } = x) :
      (fun d => g ((s.handOver p c v k).chan d)) = Function.update (fun d => g (s.chan d)) c x := funext fun d => by
    rw [chan, Function.update_apply, apply_ite g, hx]
  simp only [State.bank, Bank.give, conv, map, field Channel.mismatch 0 rfl, field Channel.handover true rfl,
    field Channel.noSpare false rfl]
  rfl

theorem bank_joinNoSpare (s : State) (p : Nat) (c : Chan) : (s.joinNoSpare p c).bank = s.bank.join c := by
  rcases joinNoSpare_cases s p c with ⟨member, h⟩ | ⟨-, h⟩ <;> rw [h]
  · have still : Function.update (fun d => (s.chan d).noSpare) c true = fun d => (s.chan d).noSpare :=
      Function.update_eq_self_iff.mpr member.symm
    simp only [Bank.join, State.bank, still]
  · have chan (d : Chan) := State.chan_modChan s c d fun x => { x with noSpare := true }
    rw [bank_addConverter]
    have field {β : Type} (g : Channel → β) (x : β) (hx : g { s.chan c with noSpare := true } = x) :
        (fun d => g ((s.modChan c fun x => { x with noSpare := true }).chan d)) =
          Function.update (fun d => g (s.chan d)) c x := funext fun d => by
      rw [chan, Function.update_apply, apply_ite g, hx]
    simp only [State.bank, Bank.join, field Channel.mismatch _ rfl, field Channel.handover _ rfl,
      field Channel.noSpare true rfl, Function.update_eq_self]
    rfl

/-! ## The entries of the CONVERTER notice (R134) -/

theorem pushAll_append {α : Type} (l : List α × Nat) (xs ys : List α) : pushAll l (xs ++ ys) = pushAll (pushAll l xs) ys :=
  List.foldl_append ..

/-- The entries added between two states, in order, and CONVERTER raised by them alone (R134). -/
structure Logged (s t : State) (es : List ConverterEntry) : Prop where
  events : (t.trim.events, t.trim.unlisted) = pushAll (s.trim.events, s.trim.unlisted) es
  flag : flagSet t.link.raised .converter = (flagSet s.link.raised .converter || !es.isEmpty)

namespace Logged

variable {u : State} {es es' : List ConverterEntry}

theorem silent (events : t.trim.events = s.trim.events) (unlisted : t.trim.unlisted = s.trim.unlisted)
    (flag : flagSet t.link.raised .converter = flagSet s.link.raised .converter) : Logged s t [] :=
  ⟨by rw [events, unlisted]; rfl, by rw [flag]; simp⟩

theorem refl (s : State) : Logged s s [] := silent rfl rfl rfl

theorem trans (h : Logged s t es) (g : Logged t u es') : Logged s u (es ++ es') := by
  refine ⟨by rw [g.events, h.events, pushAll_append], ?_⟩
  rw [g.flag, h.flag, Bool.or_assoc]
  cases es <;> simp

theorem before (h : Logged s t []) (g : Logged t u es) : Logged s u es := h.trans g

theorem after (h : Logged s t es) (g : Logged t u []) : Logged s u es := by
  have := h.trans g
  rwa [List.append_nil] at this

theorem add (s : State) (e : ConverterEntry) : Logged s (s.addConverter e) [e] :=
  ⟨rfl, by simp [State.addConverter]⟩

theorem modConv (s : State) (v : Conv) (f : Converter → Converter) : Logged s (s.modConv v f) [] := silent rfl rfl rfl

theorem endRotation (s : State) (r : RotationState) : Logged s (s.endRotation r) [] := silent rfl rfl rfl

theorem startTrim (s : State) (v : Conv) (k : TrimKind) : Logged s (s.startTrim v k) [] := silent rfl rfl rfl

theorem handOver (s : State) (p : Nat) (c : Chan) (v : Conv) (k : ConverterCause) :
    Logged s (s.handOver p c v k) [⟨.handover, k, v, some c, some (s.convOf c), s.cap.number, p⟩] :=
  before (t := (s.serve c v).modChan c fun x => { x with handover := true, mismatch := 0, noSpare := false })
    (silent rfl rfl rfl) (add _ _)

theorem joinNoSpare (s : State) (p : Nat) (c : Chan) : Logged s (s.joinNoSpare p c)
    (if (s.chan c).noSpare = true then [] else [⟨.noSpare, .none, s.convOf c, some c, none, s.cap.number, p⟩]) := by
  rcases joinNoSpare_cases s p c with ⟨member, h⟩ | ⟨apart, h⟩ <;> rw [h]
  · rw [if_pos member]
    exact refl s
  · rw [if_neg (by simp [apart])]
    exact before (t := s.modChan c fun x => { x with noSpare := true }) (silent rfl rfl rfl) (add _ _)

end Logged

end Sys2Proof.Machine
end

section
/-! SUPPORT. The converters' law as a law of the bank, and what keeps it: each change the trim unit makes of the bank
(R118 to R133). -/

namespace Sys2Proof.Machine

/-- The converters' law but for the SERVING target of a rotation, which the examination may find FAULTED before step 4 of
R131 gives its channel to the spare; `standby` says whether the part is in STANDBY. -/
structure Bank.Law (b : Bank) (standby : Prop) : Prop where
  conv : ∀ v, (b.conv v).Law
  mismatch : ∀ c, b.mismatch c ≤ 1
  timer : b.timer ≤ 180000
  trimming : ∀ v, (b.conv v).state = .trimming ↔ b.engine.map Engine.conv = some v
  shadowed : ∀ v, (b.conv v).state = .shadow ↔ b.shadow.map Shadow.spare = some v
  rotates : b.rotation = .shadowing ↔ b.shadow.isSome = true
  held : ∀ r ∈ b.shadow, b.built = true ∧ b.engine = none ∧ b.map r.channel = r.target
  rests : standby → b.rotation = .idle
  apart : b.built = true → ∀ c d, b.map c = b.map d → c = d
  assigned : b.built = true → ∀ c, (b.conv (b.map c)).state = .serving ∨ (b.conv (b.map c)).state = .faulted
  trimmed : b.built = true → ∀ v, (b.conv v).state ≠ .untrimmed
  serving : ∀ v, (b.conv v).state = .serving → b.built = true ∧ ∃ c, b.map c = v
  startUp : b.built = false → standby ∧ b.engine.isSome = true ∧ ∀ e ∈ b.engine, e.kind = .long ∧ ∀ v,
    (v < e.conv → (b.conv v).state = .spare ∨ (b.conv v).state = .faulted) ∧ (e.conv < v → (b.conv v).state = .untrimmed)
  spareless : ∀ c, b.noSpare c = true → b.built = true ∧ (b.conv (b.map c)).state = .faulted

/-- The target of a rotation SHADOWING is SERVING (R126, R131). -/
def Bank.Calm (b : Bank) : Prop := ∀ r ∈ b.shadow, (b.conv r.target).state = .serving

variable {s t : State} {b : Bank} {P : Prop}

theorem trimLaw_iff : s.TrimLaw ↔ s.bank.Law (s.cap.state = .standby) ∧ s.bank.Calm := by
  constructor
  · rintro ⟨conv, mismatch, timer, trimming, shadowed, rotates, held, rests, built, serving, startUp, spareless⟩
    exact ⟨⟨conv, mismatch, timer, trimming, shadowed, rotates, fun r hr => ⟨(held r hr).1, (held r hr).2.1, (held r hr).2.2.1⟩,
      rests, fun h => (built h).1, fun h => (built h).2.1, fun h => (built h).2.2, serving, startUp, spareless⟩,
      fun r hr => (held r hr).2.2.2⟩
  · rintro ⟨h, calm⟩
    exact ⟨h.conv, h.mismatch, h.timer, h.trimming, h.shadowed, h.rotates,
      fun r hr => ⟨(h.held r hr).1, (h.held r hr).2.1, (h.held r hr).2.2, calm r hr⟩, h.rests,
      fun hb => ⟨h.apart hb, h.assigned hb, h.trimmed hb⟩, h.serving, h.startUp, h.spareless⟩

namespace Bank.Law

variable {v : Conv} {c : Chan} {r : Shadow} {q : RotationState}

/-- The law reads of a converter its state and its own fields' ranges. -/
theorem congr (h : b.Law P) {x : Conv → Converter} (states : ∀ v, (x v).state = (b.conv v).state)
    (laws : ∀ v, (x v).Law) : ({ b with conv := x } : Bank).Law P := by
  obtain ⟨-, mismatch, timer, trimming, shadowed, rotates, held, rests, apart, assigned, trimmed, serving, startUp, spareless⟩ := h
  constructor <;> simp only [states] <;> assumption

/-- A SERVING converter is found FAULTED (R128, R130). -/
theorem fault (h : b.Law P) (_ : (b.conv v).state = .serving) {k : Nat} (hk : k ≤ 2) :
    (b.setConv v { b.conv v with state := .faulted, stuck := k }).Law P := by
  obtain ⟨conv, mismatch, timer, trimming, shadowed, rotates, held, rests, apart, assigned, trimmed, serving, startUp, spareless⟩ := h
  unfold Converter.Law at conv
  constructor <;> simp only [Bank.setConv, Function.update_apply, Converter.Law] <;> grind

/-- A channel on a FAULTED converter takes a SPARE one (R131). -/
theorem give (h : b.Law P) (calm : b.Calm) (built : b.built = true) (spare : (b.conv v).state = .spare)
    (faulted : (b.conv (b.map c)).state = .faulted) : (b.give c v).Law P := by
  obtain ⟨conv, mismatch, timer, trimming, shadowed, rotates, held, rests, apart, assigned, trimmed, serving, startUp, spareless⟩ := h
  unfold Converter.Law at conv
  unfold Bank.Calm at calm
  constructor <;> simp only [Bank.give, Function.update_apply, Converter.Law] <;> grind

/-- A channel on a FAULTED converter takes the one in SHADOW, whose rotation is over (R131). -/
theorem giveShadow (h : b.Law P) (shadow : b.shadow = some r) (faulted : (b.conv (b.map c)).state = .faulted)
    (rest : q ≠ .shadowing) (rests : P → q = .idle) : ((b.give c r.spare).rest q).Law P := by
  obtain ⟨conv, mismatch, timer, trimming, shadowed, rotates, held, -, apart, assigned, trimmed, serving, startUp, spareless⟩ := h
  unfold Converter.Law at conv
  have built : b.built = true := (held r shadow).1
  constructor <;> simp only [Bank.give, Bank.rest, Function.update_apply, Converter.Law] <;> grind

/-- The one in SHADOW is SPARE again, and its rotation over (R128, R129). -/
theorem release (h : b.Law P) (shadow : b.shadow = some r) (rest : q ≠ .shadowing) (rests : P → q = .idle) :
    ((b.setConv r.spare { b.conv r.spare with state := .spare }).rest q).Law P := by
  obtain ⟨conv, mismatch, timer, trimming, shadowed, rotates, held, -, apart, assigned, trimmed, serving, startUp, spareless⟩ := h
  unfold Converter.Law at conv
  have built : b.built = true := (held r shadow).1
  constructor <;> simp only [Bank.setConv, Bank.rest, Function.update_apply, Converter.Law] <;> grind

/-- A trim begins of a converter that serves no channel, with the engine idle and no rotation SHADOWING (R120). -/
theorem trim (h : b.Law P) (built : b.built = true) (idle : b.engine = none) (free : b.shadow = none)
    (_ : (b.conv v).state = .spare ∨ (b.conv v).state = .faulted) (unassigned : ∀ c, b.map c ≠ v) {k : TrimKind} :
    (b.trim v k).Law P := by
  obtain ⟨conv, mismatch, timer, trimming, shadowed, rotates, held, rests, apart, assigned, trimmed, serving, startUp, spareless⟩ := h
  unfold Converter.Law at conv
  constructor <;> simp only [Bank.trim, Function.update_apply, Converter.Law] <;> grind

/-- A rotation begins with a SPARE converter and a SERVING target (R126). -/
theorem begin (h : b.Law P) (built : b.built = true) (idle : b.engine = none) (running : ¬ P)
    (spare : (b.conv v).state = .spare) (free : b.shadow = none) :
    ({ b.setConv v { b.conv v with state := .shadow } with
      rotation := .shadowing, shadow := some ⟨v, b.map c, c⟩, matchSum := 0, named := none, timer := 0 } : Bank).Law P := by
  obtain ⟨conv, mismatch, timer, trimming, shadowed, rotates, held, rests, apart, assigned, trimmed, serving, startUp, spareless⟩ := h
  unfold Converter.Law at conv
  constructor <;> simp only [Bank.setConv, Function.update_apply, Converter.Law] <;> grind

/-- A channel on a FAULTED converter joins the no-spare set (R132). -/
theorem join (h : b.Law P) (built : b.built = true) (faulted : (b.conv (b.map c)).state = .faulted) : (b.join c).Law P := by
  refine { h with spareless := fun d hd => ⟨built, ?_⟩ }
  simp only [Bank.join, Function.update_apply] at hd
  split_ifs at hd with same
  · exact same ▸ faulted
  · exact (h.spareless d hd).2

/-- A trim ends, once the map is built (R121). -/
theorem finish (h : b.Law P) (built : b.built = true) {e : Engine} (engine : b.engine = some e) {x : Converter} (law : x.Law)
    (state : x.state = .spare ∨ x.state = .faulted) : ({ b.setConv e.conv x with engine := none } : Bank).Law P := by
  obtain ⟨conv, mismatch, timer, trimming, shadowed, rotates, held, rests, apart, assigned, trimmed, serving, startUp, spareless⟩ := h
  constructor <;> simp only [Bank.setConv, Function.update_apply] <;> grind

/-- What the law does not read (R127, R133). -/
theorem unmarked (h : b.Law P) {f : Chan → Bool} {n : Option Conv} {k : Nat} :
    ({ b with handover := f, named := n, matchSum := k } : Bank).Law P :=
  ⟨h.conv, h.mismatch, h.timer, h.trimming, h.shadowed, h.rotates, h.held, h.rests, h.apart, h.assigned, h.trimmed,
    h.serving, h.startUp, h.spareless⟩

theorem setConv (h : b.Law P) {x : Converter} (state : x.state = (b.conv v).state) (law : x.Law) :
    (b.setConv v x).Law P := by
  refine h.congr (fun w => ?_) fun w => ?_ <;> rw [Function.update_apply]
  · split_ifs with same
    · exact same ▸ state
    · rfl
  · split_ifs
    · exact law
    · exact h.conv w

/-- A target that is not SERVING is FAULTED. -/
theorem calm (h : b.Law P) (sound : ∀ r ∈ b.shadow, (b.conv r.target).state ≠ .faulted) : b.Calm := fun r hr => by
  obtain ⟨built, -, map⟩ := h.held r hr
  exact (map ▸ h.assigned built r.channel).resolve_right (sound r hr)

end Bank.Law

theorem Bank.calm_of_none (h : b.shadow = none) : b.Calm := fun r hr => by
  rw [h] at hr
  cases hr

/-! ## The stages of a boundary's work (R131) -/

/-- The law while a capture runs, with the map built. -/
structure Sound (s : State) : Prop where
  law : s.bank.Law False
  calm : s.bank.Calm
  built : s.trim.mapBuilt = true

/-- The converter whose trim ends (R121). -/
def Converter.trimmed (x : Converter) (m : Int) (clock : Nat) : Converter :=
  if -24000 ≤ m ∧ m ≤ 24000 then { x with state := .spare, offset := m, doneAt := some clock }
  else { x with state := .faulted }

theorem Converter.Law.trimmed {x : Converter} (h : x.Law) (m : Int) (clock : Nat) : (x.trimmed m clock).Law ∧
    ((x.trimmed m clock).state = .spare ∨ (x.trimmed m clock).state = .faulted) := by
  obtain ⟨low, high, stuck, -, -⟩ := h
  unfold Converter.trimmed
  split_ifs with range
  · exact ⟨⟨range.1, range.2, stuck, nofun, fun _ => rfl⟩, .inl rfl⟩
  · exact ⟨⟨low, high, stuck, nofun, by simp⟩, .inr rfl⟩

/-- What the end of a trim has made of the state before the start-up sequence goes on (R121). -/
structure TrimEnded (s u : State) (e : Engine) (p : Nat) : Prop where
  bank : u.bank = { s.bank.setConv e.conv ((s.conv e.conv).trimmed (trimResult e.kind e.sum) s.trim.trimClock) with
    engine := none }
  logged : Logged s u (if -24000 ≤ trimResult e.kind e.sum ∧ trimResult e.kind e.sum ≤ 24000 then []
    else [⟨.faulted, .trim, e.conv, none, none, s.cap.number, p⟩])
  cap : u.cap = s.cap
  chans : u.chans = s.chans

theorem completeTrim_ended {e : Engine} (engine : s.trim.engine = some e) (p : Nat) :
    ∃ u, s.completeTrim p = u.afterTrim p e.conv ∧ TrimEnded s u e p := by
  rcases completeTrim_cases s p with ⟨h, -⟩ | ⟨e', he, ⟨low, high, h⟩ | ⟨range, h⟩⟩
  · rw [engine] at h
    cases h
  all_goals obtain rfl : e = e' := Option.some.inj (engine.symm.trans he)
  · refine ⟨_, h, ⟨?_, ?_, rfl, rfl⟩⟩
    · rw [bank_modConv, Converter.trimmed, if_pos ⟨low, high⟩]
      rfl
    · rw [if_pos ⟨low, high⟩]
      exact .silent rfl rfl rfl
  · refine ⟨_, h, ⟨?_, ?_, rfl, rfl⟩⟩
    · rw [bank_addConverter, bank_modConv, Converter.trimmed, if_neg (by omega)]
      rfl
    · rw [if_neg (by omega)]
      exact .before (t := State.modConv { s with trim := { s.trim with engine := none } } e.conv fun x =>
        { x with state := .faulted }) (.silent rfl rfl rfl) (.add _ _)

/-- The end of a trim, once the map is built (R121). -/
theorem completeTrim_built (built : s.trim.mapBuilt = true) {e : Engine} (engine : s.trim.engine = some e) (p : Nat) :
    TrimEnded s (s.completeTrim p) e p := by
  obtain ⟨u, h, ended⟩ := completeTrim_ended engine p
  have map : u.trim.mapBuilt = true := (congrArg Bank.built ended.bank).trans built
  rw [h, State.afterTrim, if_pos map]
  exact ended

theorem law_examine (p : Nat) (h : s.bank.Law P) (v : Conv) : (State.examine p s v).bank.Law P := by
  have ⟨low, high, stuck, single, dated⟩ := h.conv v
  rcases examine_cases p s v with e | ⟨c, -, serving, e | ⟨none, e⟩ | ⟨-, e⟩⟩ <;> rw [e]
  · exact h
  · rw [bank_modConv]
    exact h.setConv rfl ⟨low, high, Nat.zero_le _, fun _ => Nat.zero_le _, dated⟩
  · rw [bank_modConv]
    exact h.setConv rfl ⟨low, high, by simp [none], fun _ => by simp [none], dated⟩
  · rw [bank_addConverter, bank_modConv]
    exact h.fault serving le_rfl

theorem built_examine (p : Nat) (s : State) (v : Conv) : (State.examine p s v).trim.mapBuilt = s.trim.mapBuilt := by
  rcases examine_cases p s v with e | ⟨c, -, -, e | ⟨-, e⟩ | ⟨-, e⟩⟩ <;> rw [e] <;> rfl

theorem law_stuckExamination (p : Nat) (h : s.bank.Law P) : (s.stuckExamination p).bank.Law P :=
  foldl_keeps (P := fun s => s.bank.Law P) (fun _ v h => law_examine p h v) allConvs h

theorem built_stuckExamination (p : Nat) (s : State) : (s.stuckExamination p).trim.mapBuilt = s.trim.mapBuilt :=
  foldl_frame (g := fun s => s.trim.mapBuilt) (built_examine p) allConvs s

theorem law_advanceTimer (h : s.bank.Law False) : s.advanceTimer.bank.Law False := by
  have rotates : (s.advanceTimer.trim.rotation = .shadowing ↔ s.trim.rotation = .shadowing) := by
    simp only [State.advanceTimer]
    split_ifs with due
    · simp [due.2.1]
    · rfl
  have timer : s.advanceTimer.trim.timer ≤ 180000 := by
    have : s.trim.timer ≤ 180000 := h.timer
    simp only [State.advanceTimer, satInc, Config.rotationTimerMax]
    split_ifs
    · omega
    · exact this
  exact ⟨h.conv, h.mismatch, timer, h.trimming, h.shadowed, rotates.trans h.rotates, h.held, False.elim, h.apart,
    h.assigned, h.trimmed, h.serving, h.startUp, h.spareless⟩

/-- The converter in SHADOW, by the bank alone. -/
theorem shadowing_eq (h : s.bank.Law P) : s.shadowing = s.trim.shadow := by
  unfold State.shadowing
  split_ifs with rotation
  · rfl
  · cases hs : s.trim.shadow with
    | none => rfl
    | some r => exact absurd (h.rotates.mpr (congrArg Option.isSome hs)) rotation

theorem sound_replaceTarget (p : Nat) (h : s.bank.Law False) (built : s.trim.mapBuilt = true) :
    Sound (s.replaceTarget p) := by
  unfold State.replaceTarget
  rw [shadowing_eq h]
  cases shadow : s.trim.shadow with
  | none => exact ⟨h, Bank.calm_of_none shadow, built⟩
  | some r =>
    simp only []
    split_ifs with faulted
    · have map : s.convOf r.channel = r.target := (h.held r shadow).2.2
      refine ⟨?_, Bank.calm_of_none rfl, built⟩
      rw [bank_endRotation, bank_handOver]
      exact h.giveShadow shadow (by rw [← map] at faulted; exact faulted) nofun False.elim
    · refine ⟨h, h.calm fun r' hr' => ?_, built⟩
      cases shadow.symm.trans hr'
      exact faulted

theorem Bank.Calm.give (h : b.Calm) {v : Conv} (spare : (b.conv v).state = .spare) (c : Chan) : (b.give c v).Calm :=
  fun r hr => by
    have target := h r hr
    have other : r.target ≠ v := fun e => by rw [e, spare] at target; cases target
    simp only [Bank.give, Function.update_of_ne other]
    exact target

theorem sound_replace (p : Nat) (h : Sound s) (c : Chan) : Sound (State.replace p s c) := by
  obtain ⟨law, calm, built⟩ := h
  rcases replace_cases p s c with ⟨-, e⟩ | ⟨faulted, ⟨v, lowest, e⟩ | ⟨-, r, shadowing, e⟩ | ⟨-, -, e⟩⟩ <;> rw [e]
  · exact ⟨law, calm, built⟩
  · have spare := lowestSpare_some lowest
    exact ⟨by rw [bank_handOver]; exact law.give calm built spare faulted, by rw [bank_handOver]; exact calm.give spare c, built⟩
  · have law := law.giveShadow (shadowing_some shadowing).2 faulted (q := .due) nofun False.elim
    rw [← bank_handOver s p c _ .replacement, ← bank_endRotation] at law
    exact ⟨law.unmarked, Bank.calm_of_none rfl, built⟩
  · have built' : (s.joinNoSpare p c).trim.mapBuilt = true := by
      rcases joinNoSpare_cases s p c with ⟨-, e⟩ | ⟨-, e⟩ <;> rw [e] <;> exact built
    exact ⟨by rw [bank_joinNoSpare]; exact law.join built faulted, by rw [bank_joinNoSpare]; exact calm, built'⟩

theorem sound_replaceFaulted (p : Nat) (enabled : Chan → Bool) (h : s.bank.Law False) (built : s.trim.mapBuilt = true) :
    Sound (s.replaceFaulted p enabled) :=
  foldl_keeps (P := Sound) (f := State.replace p) (fun _ c hs => sound_replace p hs c) _ (sound_replaceTarget p h built)

end Sys2Proof.Machine
end

section
/-! SUPPORT. The end of a rotation and the beginning of the next (R126, R128), and the converters' law over a whole
boundary and an OPEN_CAPTURE. -/

namespace Sys2Proof.Machine

variable {s t : State} {b : Bank} {P : Prop}

/-! ## The end of a rotation (R128) -/

namespace Bank.Law

variable {r : Shadow}

/-- Within the limit the spare takes the target's channel, and the target is trimmed. -/
theorem exchange (h : b.Law P) (calm : b.Calm) (shadow : b.shadow = some r) :
    (((b.give r.channel r.spare).trim r.target .short).rest .idle).Law P := by
  obtain ⟨conv, mismatch, timer, trimming, shadowed, rotates, held, -, apart, assigned, trimmed, serving, startUp, spareless⟩ := h
  unfold Converter.Law at conv
  unfold Bank.Calm at calm
  have built : b.built = true := (held r shadow).1
  constructor <;> simp only [Bank.give, Bank.rest, Bank.trim, Function.update_apply, Converter.Law] <;> grind

/-- Beyond it the spare is trimmed again the first time. -/
theorem retrim (h : b.Law P) (shadow : b.shadow = some r) : ({ (b.trim r.spare .long).rest .idle with
    mismatch := Function.update b.mismatch r.channel 1 } : Bank).Law P := by
  obtain ⟨conv, mismatch, timer, trimming, shadowed, rotates, held, -, apart, assigned, trimmed, serving, startUp, spareless⟩ := h
  unfold Converter.Law at conv
  obtain ⟨built, idle, -⟩ := held r shadow
  have spare := (shadowed r.spare).mpr (congrArg (Option.map Shadow.spare) shadow)
  constructor <;> simp only [Bank.rest, Bank.trim, Function.update_apply, Converter.Law] <;> grind

/-- The second time the target is FAULTED, and the spare takes its channel. -/
theorem oust (h : b.Law P) (calm : b.Calm) (shadow : b.shadow = some r) :
    (((b.setConv r.target { b.conv r.target with state := .faulted }).give r.channel r.spare).rest .idle).Law P := by
  obtain ⟨-, -, map⟩ := h.held r shadow
  have fault := h.fault (calm r shadow) (h.conv r.target).2.2.1
  refine fault.giveShadow shadow ?_ nofun fun _ => rfl
  simp only [Bank.setConv, map, Function.update_self]

end Bank.Law

theorem bank_modChan_mismatch (s : State) (c : Chan) (n : Nat) : (s.modChan c fun x => { x with mismatch := n }).bank =
    { s.bank with mismatch := Function.update s.bank.mismatch c n } := by
  have chan (d : Chan) := State.chan_modChan s c d fun x => { x with mismatch := n }
  have field {β : Type} (g : Channel → β) (x : β) (hx : g { s.chan c with mismatch := n } = x) :
      (fun d => g ((s.modChan c fun x => { x with mismatch := n }).chan d)) = Function.update (fun d => g (s.chan d)) c x :=
    funext fun d => by rw [chan, Function.update_apply, apply_ite g, hx]
  simp only [State.bank, field Channel.mismatch n rfl, field Channel.handover _ rfl, field Channel.noSpare _ rfl,
    Function.update_eq_self]
  rfl

/-- The bank after the match (R128). -/
theorem bank_evaluateMatch (law : s.bank.Law P) (p : Nat) : (s.evaluateMatch p).bank =
    match s.trim.shadow with
    | none => s.bank
    | some r =>
      if s.trim.matchSum ≤ s.trim.limit * 320 then ((s.bank.give r.channel r.spare).trim r.target .short).rest .idle
      else if (s.chan r.channel).mismatch = 0 then
        { (s.bank.trim r.spare .long).rest .idle with mismatch := Function.update s.bank.mismatch r.channel 1 }
      else ((s.bank.setConv r.target { s.conv r.target with state := .faulted }).give r.channel r.spare).rest .idle := by
  rcases evaluateMatch_cases s p with ⟨shadow, e⟩ | ⟨r, shadow, ⟨within, e⟩ | ⟨beyond, first, e⟩ | ⟨beyond, second, e⟩⟩ <;>
    rw [e] <;> rw [shadowing_eq law] at shadow <;> rw [shadow] <;> simp only []
  · rw [if_pos within, bank_endRotation, bank_startTrim, bank_handOver]
  · rw [if_neg (by omega), if_pos first, bank_endRotation, bank_modChan_mismatch, bank_startTrim]
    rfl
  · rw [if_neg (by omega), if_neg second, bank_endRotation, bank_handOver, bank_addConverter, bank_modConv]

theorem law_evaluateMatch (h : Sound s) (p : Nat) : (s.evaluateMatch p).bank.Law False ∧
    (s.evaluateMatch p).trim.shadow = none ∧ (s.evaluateMatch p).trim.mapBuilt = true := by
  obtain ⟨law, calm, built⟩ := h
  have bank := bank_evaluateMatch law p
  have shadow := congrArg Bank.shadow bank
  have map := congrArg Bank.built bank
  change (s.evaluateMatch p).trim.shadow = _ at shadow
  change (s.evaluateMatch p).trim.mapBuilt = _ at map
  rw [bank, shadow, map]
  cases hs : s.trim.shadow with
  | none => exact ⟨law, hs, built⟩
  | some r =>
    simp only []
    split_ifs
    · exact ⟨law.exchange calm hs, rfl, built⟩
    · exact ⟨law.retrim hs, rfl, built⟩
    · exact ⟨law.oust calm hs, rfl, built⟩

/-! ## The beginning of a rotation (R126) -/

/-- A converter comes before another in the order of targets (R126). -/
def State.trimmedBefore (s : State) (v w : Conv) : Prop := s.trimTime v < s.trimTime w ∨ (s.trimTime v = s.trimTime w ∧ v ≤ w)

/-- The better target of two (R126). -/
def State.older (s : State) (best : Option Conv) (v : Conv) : Option Conv :=
  match best with
  | none => some v
  | some b => if s.trimTime v < s.trimTime b then some v else some b

theorem oldestTarget_eq (s : State) (enabled : Chan → Bool) :
    s.oldestTarget enabled = (allConvs.filter (s.targetable enabled)).foldl s.older none := rfl

/-- Of converters in ascending order the first in the order of targets is taken. -/
theorem older_spec {l : List Conv} (sorted : l.Pairwise (· < ·)) : (l.foldl s.older none = none → l = []) ∧
    ∀ v, l.foldl s.older none = some v → v ∈ l ∧ ∀ w ∈ l, s.trimmedBefore v w := by
  induction l using List.reverseRecOn with
  | nil => exact ⟨fun _ => rfl, nofun⟩
  | append_singleton l w ih =>
    rw [List.pairwise_append] at sorted
    obtain ⟨sorted, -, below⟩ := sorted
    obtain ⟨ih, best⟩ := ih sorted
    rw [List.foldl_concat]
    cases hb : l.foldl s.older none with
    | none =>
      refine ⟨nofun, fun v hv => ?_⟩
      obtain rfl : w = v := Option.some.inj hv
      rw [ih hb]
      exact ⟨by simp, fun u hu => .inr (by rw [List.nil_append, List.mem_singleton] at hu; rw [hu]; exact ⟨rfl, le_rfl⟩)⟩
    | some b =>
      obtain ⟨mem, first⟩ := best b hb
      have before : b < w := below b mem w (List.mem_singleton_self w)
      simp only [State.older]
      split_ifs with less
      · refine ⟨nofun, fun v hv => ?_⟩
        obtain rfl : w = v := Option.some.inj hv
        refine ⟨by simp, fun u hu => ?_⟩
        rcases List.mem_append.mp hu with hu | hu
        · rcases first u hu with lt | ⟨eq, -⟩
          · exact .inl (less.trans lt)
          · exact .inl (eq ▸ less)
        · rw [List.mem_singleton.mp hu]
          exact .inr ⟨rfl, le_rfl⟩
      · refine ⟨nofun, fun v hv => ?_⟩
        obtain rfl : b = v := Option.some.inj hv
        refine ⟨List.mem_append_left _ mem, fun u hu => ?_⟩
        rcases List.mem_append.mp hu with hu | hu
        · exact first u hu
        · rw [List.mem_singleton.mp hu]
          rcases Nat.lt_or_ge (s.trimTime b) (s.trimTime w) with lt | ge
          · exact .inl lt
          · exact .inr ⟨by omega, before.le⟩

/-- A converter that may be a target serves an enabled channel (R126). -/
theorem targetable_iff (built : s.trim.mapBuilt = true) {enabled : Chan → Bool} {v : Conv}
    (apart : ∀ c d, s.convOf c = s.convOf d → c = d) : s.targetable enabled v = true ↔
      (s.conv v).state = .serving ∧ ∃ c, s.convOf c = v ∧ enabled c = true := by
  unfold State.targetable
  cases hv : s.channelOf v with
  | none => simpa using fun _ c hc => absurd hc (channelOf_none hv built c)
  | some d =>
    obtain ⟨-, map⟩ := channelOf_some hv
    simp only [Bool.and_eq_true, beq_iff_eq, Option.any_some]
    refine and_congr_right fun _ => ⟨fun h => ⟨d, map, h⟩, ?_⟩
    rintro ⟨c, hc, enabled⟩
    rwa [apart c d (hc.trans map.symm)] at enabled

/-- The target of a rotation about to begin (R126). -/
theorem rotationTarget_spec {enabled : Chan → Bool} {v : Conv} (h : s.rotationTarget enabled = some v) :
    s.targetable enabled v = true := by
  have oldest (h : s.oldestTarget enabled = some v) : s.targetable enabled v = true := by
    rw [oldestTarget_eq] at h
    exact (List.mem_filter.mp ((older_spec ((List.pairwise_lt_finRange 26).filter _)).2 v h).1).2
  unfold State.rotationTarget at h
  split at h
  · split_ifs at h with named
    · rwa [Option.some.inj h] at named
    · exact oldest h
  · exact oldest h

/-- The bank once a rotation has begun (R126). -/
theorem bank_begun (s : State) (v t : Conv) (c : Chan) : State.bank { (s.modConv v fun x => { x with state := .shadow }) with
      trim := { (s.modConv v fun x => { x with state := .shadow }).trim with
        rotation := .shadowing, shadow := some ⟨v, t, c⟩, matchSum := 0, named := none, timer := 0 } } =
    { s.bank.setConv v { s.conv v with state := .shadow } with
      rotation := .shadowing, shadow := some ⟨v, t, c⟩, matchSum := 0, named := none, timer := 0 } := by
  rw [← bank_modConv s v fun x => { x with state := .shadow }]
  rfl

theorem law_beginRotation {enabled : Chan → Bool} (law : s.bank.Law False) (shadow : s.trim.shadow = none)
    (built : s.trim.mapBuilt = true) : Sound (s.beginRotation enabled) := by
  rcases beginRotation_cases s enabled with e | e | ⟨v, t, c, due, idle, lowest, target, channel, e⟩ <;> rw [e]
  · exact ⟨law, Bank.calm_of_none shadow, built⟩
  · exact ⟨law.unmarked, Bank.calm_of_none shadow, built⟩
  · have spare := lowestSpare_some lowest
    obtain ⟨-, rfl⟩ := channelOf_some channel
    obtain ⟨serving, -⟩ := (targetable_iff built (law.apart built)).mp (rotationTarget_spec target)
    have other : s.convOf c ≠ v := fun e => by rw [e, spare] at serving; cases serving
    refine ⟨?_, ?_, built⟩ <;> rw [bank_begun]
    · exact law.begin (c := c) built idle not_false spare shadow
    · intro r hr
      obtain rfl := Option.some.inj hr
      simp only [Bank.setConv, Function.update_of_ne other]
      exact serving

/-! ## A whole boundary -/

/-- Stages 1 to 3 of the trim unit's work at a boundary: the end of a trim, the examination and the timer (R131). -/
def State.examined (s : State) (period : Nat) : State :=
  ((if s.trimDue then s.completeTrim period else s).stuckExamination period).advanceTimer

theorem trimBoundaryWork_eq (s : State) (period : Nat) (enabled : Chan → Bool) : s.trimBoundaryWork period enabled =
    (((s.examined period).replaceFaulted period enabled).evaluateMatch period).beginRotation enabled := rfl

theorem law_completeTrim (law : s.bank.Law P) (built : s.trim.mapBuilt = true) (p : Nat) :
    (s.completeTrim p).bank.Law P ∧ (s.completeTrim p).trim.mapBuilt = true := by
  cases engine : s.trim.engine with
  | none =>
    have same : s.completeTrim p = s := by simp [State.completeTrim, engine]
    rw [same]
    exact ⟨law, built⟩
  | some e =>
    have bank := (completeTrim_built built engine p).bank
    have map : (s.completeTrim p).trim.mapBuilt = _ := congrArg Bank.built bank
    obtain ⟨fits, state⟩ := (law.conv e.conv).trimmed (trimResult e.kind e.sum) s.trim.trimClock
    rw [bank, map]
    exact ⟨law.finish built engine fits state, built⟩

theorem law_examined (law : s.bank.Law False) (built : s.trim.mapBuilt = true) (p : Nat) :
    (s.examined p).bank.Law False ∧ (s.examined p).trim.mapBuilt = true := by
  have ended : State.bank (if s.trimDue then s.completeTrim p else s) |>.Law False := by
    split_ifs
    · exact (law_completeTrim law built p).1
    · exact law
  have map : (if s.trimDue then s.completeTrim p else s).trim.mapBuilt = true := by
    split_ifs
    · exact (law_completeTrim law built p).2
    · exact built
  exact ⟨law_advanceTimer (law_stuckExamination p ended), (built_stuckExamination p _).trans map⟩

theorem sound_trimBoundaryWork (law : s.bank.Law False) (built : s.trim.mapBuilt = true) (p : Nat) (enabled : Chan → Bool) :
    Sound (s.trimBoundaryWork p enabled) := by
  obtain ⟨law, built⟩ := law_examined law built p
  obtain ⟨law, shadow, built⟩ := law_evaluateMatch (sound_replaceFaulted p enabled law built) p
  rw [trimBoundaryWork_eq]
  exact law_beginRotation law shadow built

/-- What the converters' law and the statements about the trim unit read, from the trim unit and the channels. -/
theorem bank_counted (trim : t.trim = { s.trim with
      convs := t.trim.convs, engine := t.trim.engine, matchSum := t.trim.matchSum, trimClock := t.trim.trimClock
      interval := t.trim.interval, limit := t.trim.limit, events := t.trim.events, unlisted := t.trim.unlisted })
    (mismatch : ∀ c, (t.chan c).mismatch = (s.chan c).mismatch) (noSpare : ∀ c, (t.chan c).noSpare = (s.chan c).noSpare) :
    t.bank = { s.bank with
      conv := t.conv, engine := t.trim.engine, matchSum := t.trim.matchSum, handover := t.bank.handover } := by
  have map : t.convOf = s.convOf := funext fun c => (congrArg (fun x : TrimUnit => x.map.get c) trim :)
  have built : t.trim.mapBuilt = s.trim.mapBuilt := (congrArg TrimUnit.mapBuilt trim :)
  have rotation : t.trim.rotation = s.trim.rotation := (congrArg TrimUnit.rotation trim :)
  have named : t.trim.named = s.trim.named := (congrArg TrimUnit.named trim :)
  have shadow : t.trim.shadow = s.trim.shadow := (congrArg TrimUnit.shadow trim :)
  have timer : t.trim.timer = s.trim.timer := (congrArg TrimUnit.timer trim :)
  simp only [State.bank, map, built, rotation, named, shadow, timer, mismatch, noSpare]

theorem bank_of (trim : t.trim = { s.trim with
      convs := t.trim.convs, trimClock := t.trim.trimClock, interval := t.trim.interval, limit := t.trim.limit
      events := t.trim.events, unlisted := t.trim.unlisted })
    (mismatch : ∀ c, (t.chan c).mismatch = (s.chan c).mismatch) (noSpare : ∀ c, (t.chan c).noSpare = (s.chan c).noSpare) :
    t.bank = { s.bank with conv := t.conv, handover := t.bank.handover } := by
  have engine : t.trim.engine = s.trim.engine := (congrArg TrimUnit.engine trim :)
  have matchSum : t.trim.matchSum = s.trim.matchSum := (congrArg TrimUnit.matchSum trim :)
  rw [bank_counted (trim.trans (by rw [engine, matchSum])) mismatch noSpare, engine, matchSum]
  rfl

theorem bank_same (trim : t.trim = s.trim) (marks : ∀ c, (t.chan c).mismatch = (s.chan c).mismatch ∧
    (t.chan c).handover = (s.chan c).handover ∧ (t.chan c).noSpare = (s.chan c).noSpare) : t.bank = s.bank := by
  have conv : t.conv = s.conv := funext fun v => State.conv_congr (congrArg TrimUnit.convs trim) v
  have map : t.convOf = s.convOf := funext fun c => (congrArg (fun x : TrimUnit => x.map.get c) trim :)
  simp only [State.bank, conv, map, marks, trim]

/-- A converter's law with another stuck count (R130). -/
theorem Converter.Law.unstuck {x : Converter} (h : x.Law) : ({ x with stuck := 0 } : Converter).Law := by
  obtain ⟨low, high, -, -, dated⟩ := h
  exact ⟨low, high, Nat.zero_le _, fun _ => Nat.zero_le _, dated⟩

theorem Bank.Calm.congr (h : b.Calm) {x : Conv → Converter} (states : ∀ v, (x v).state = (b.conv v).state) {f : Chan → Bool} :
    ({ b with conv := x, handover := f } : Bank).Calm := fun r hr => (states _).trans (h r hr)

theorem bank_periodBoundary (s : State) :
    s.periodBoundary.bank = { s.worked.bank with conv := s.periodBoundary.conv, handover := s.periodBoundary.bank.handover } := by
  have chan (c : Chan) : (s.periodBoundary.chan c).mismatch = (s.worked.chan c).mismatch ∧
      (s.periodBoundary.chan c).noSpare = (s.worked.chan c).noSpare := by
    obtain ⟨-, -, -, -, mismatch, noSpare⟩ := ended_chan s c
    have opened := Channel.eq_of_besidesSlots ((opening_frame s).chan c)
    rw [chan_committed] at opened
    generalize s.periodBoundary.chan c = y at opened ⊢
    generalize s.ended.chan c = x at opened mismatch noSpare
    rw [opened, ← mismatch, ← noSpare]
    exact ⟨rfl, rfl⟩
  refine bank_of ?_ (fun c => (chan c).1) fun c => (chan c).2
  have trim := trim_periodBoundary s
  generalize s.periodBoundary.trim = x at trim ⊢
  obtain ⟨k, rfl⟩ : ∃ k, x = { s.worked.trim with convs := k } := ⟨_, trim⟩
  rfl

/-- The bank a boundary's trim unit work begins with: the marks of the period are set aside (log entry 15). -/
theorem bank_begin (s : State) : s.completeBlocks.clearMarks.bank = { s.bank with handover := fun _ => false } := by
  have begun : ∃ ch, s.completeBlocks.clearMarks = { s with chans := ch } := by
    rw [State.clearMarks, (mapChans_changes _ _).choose_spec, State.completeBlocks, (mapChans_changes _ _).choose_spec]
    exact ⟨_, rfl⟩
  have chan (c : Chan) : s.completeBlocks.clearMarks.chan c = { (s.chan c).complete with handover := false } := by
    rw [chan_clearMarks, chan_completeBlocks]
  generalize s.completeBlocks.clearMarks = a at begun chan ⊢
  obtain ⟨ch, rfl⟩ := begun
  simp only [State.bank, chan, Channel.complete_eq]
  rfl

theorem law_periodBoundary (h : s.TrimLaw) (running : s.cap.state = .capturing) : s.periodBoundary.TrimLaw := by
  obtain ⟨law, -⟩ := trimLaw_iff.mp h
  have off : ¬ s.cap.state = .standby := by rw [running]; nofun
  rw [eq_false off] at law
  have built : s.trim.mapBuilt = true := by
    by_contra unbuilt
    exact (law.startUp (by simpa using unbuilt : s.trim.mapBuilt = false)).1
  have begun : s.completeBlocks.clearMarks.bank.Law False := by rw [bank_begin]; exact law.unmarked
  have map : s.completeBlocks.clearMarks.trim.mapBuilt = true := (congrArg Bank.built (bank_begin s)).trans built
  obtain ⟨law, calm, -⟩ := sound_trimBoundaryWork begun map (wrapInc s.cap.period) s.enabledNext
  have states := conv_state_periodBoundary s
  have laws (v : Conv) : (s.periodBoundary.conv v).Law := by
    rw [conv_periodBoundary]
    split_ifs
    · exact (law.conv v).unstuck
    · exact law.conv v
  have bank := bank_periodBoundary s
  have still : ¬ s.periodBoundary.cap.state = .standby := by
    rw [cap_periodBoundary, commitProceeding_cap]
    simp only [running]
    nofun
  rw [trimLaw_iff, eq_false still, bank]
  exact ⟨(law.congr states laws).unmarked, calm.congr states⟩

end Sys2Proof.Machine
end

section
/-! SUPPORT. The start-up trims and the map build (R122, R123), and what ends a rotation from outside (R129, R140). -/

namespace Sys2Proof.Machine

variable {s t : State} {b : Bank} {P Q : Prop}

/-! ## A rotation abandoned -/

/-- The bank of a rotation abandoned (R129). -/
def Bank.abandoned (b : Bank) : Bank :=
  { b with
    conv := fun v => if (b.conv v).state = .shadow then { b.conv v with state := .spare } else b.conv v
    rotation := .idle, shadow := none, named := none }

theorem bank_abandonRotation (s : State) : s.abandonRotation.bank = s.bank.abandoned := by
  have conv (v : Conv) : s.abandonRotation.conv v =
      if (s.conv v).state = .shadow then { s.conv v with state := .spare } else s.conv v := by
    rw [← State.conv_mapConvs s v fun _ x => if x.state = .shadow then { x with state := .spare } else x]
    exact State.conv_congr (by simp only [State.abandonRotation]) v
  have bank : s.abandonRotation.bank = { s.bank with
      conv := s.abandonRotation.conv, rotation := .idle, shadow := none, named := none } := by
    have mapped (f : Conv → Converter → Converter) : ∃ y, s.mapConvs f = { s with trim := { s.trim with convs := y } } :=
      ⟨_, rfl⟩
    simp only [State.abandonRotation]
    rw [(mapped _).choose_spec]
    rfl
  rw [bank, funext conv]
  rfl

theorem Bank.Law.abandoned (h : b.Law P) (later : P → Q) : b.abandoned.Law Q := by
  obtain ⟨conv, mismatch, timer, trimming, shadowed, rotates, held, rests, apart, assigned, trimmed, serving, startUp, spareless⟩ := h
  unfold Converter.Law at conv
  constructor <;> simp only [Bank.abandoned, Converter.Law] <;> grind

/-! ## The start-up trims (R122) -/

/-- The next start-up trim begins as one ends. -/
theorem Bank.Law.startNext (h : b.Law P) (unbuilt : b.built = false) {e : Engine} (engine : b.engine = some e)
    {x : Converter} (law : x.Law) (state : x.state = .spare ∨ x.state = .faulted) (more : e.conv ≠ 25) :
    (Bank.trim { b.setConv e.conv x with engine := none } (e.conv + 1) .long).Law P := by
  have next (v : Conv) : (v < e.conv + 1 ↔ v < e.conv ∨ v = e.conv) ∧ (e.conv + 1 < v → e.conv < v) ∧ e.conv < e.conv + 1 := by
    have := e.conv.isLt
    have : e.conv.val ≠ 25 := fun h => more (Fin.ext h)
    have val : (e.conv + 1).val = e.conv.val + 1 := Fin.val_add_one_of_lt' (by omega)
    simp only [Fin.lt_def, Fin.ext_iff]
    omega
  obtain ⟨conv, mismatch, timer, trimming, shadowed, rotates, held, rests, apart, assigned, trimmed, serving, startUp, spareless⟩ := h
  unfold Converter.Law at conv law
  obtain ⟨standby, -, sequence⟩ := startUp unbuilt
  obtain ⟨long, sequence⟩ := sequence e engine
  constructor <;> simp only [Bank.setConv, Bank.trim, Function.update_apply, Converter.Law] <;> grind

/-! ## The map build (R123) -/

/-- The channel's own converter (R123). -/
def ownConv (c : Chan) : Conv := c.castLE (by decide)

/-- What the map build has made of the bank once the channels `D` have had their turn. -/
structure Bank.Building (b : Bank) (D : Chan → Prop) : Prop where
  conv : ∀ v, (b.conv v).Law
  states : ∀ v, (b.conv v).state = .spare ∨ (b.conv v).state = .faulted ∨ (b.conv v).state = .serving
  apart : ∀ c d, D c → D d → b.map c = b.map d → c = d
  assigned : ∀ c, D c → (b.conv (b.map c)).state = .serving ∨ (b.conv (b.map c)).state = .faulted
  own : ∀ c, D c → b.map c = ownConv c ∨ b.map c = 24 ∨ b.map c = 25
  serving : ∀ v, (b.conv v).state = .serving → ∃ c, D c ∧ b.map c = v
  spareless : ∀ c, b.noSpare c = true → D c ∧ (b.conv (b.map c)).state = .faulted

/-- A channel takes a converter as it stands (R123). -/
def Bank.serve (b : Bank) (c : Chan) (v : Conv) : Bank :=
  { b with
    conv := Function.update b.conv v { b.conv v with state := .serving, stuck := 0 }
    map := Function.update b.map c v }

theorem bank_serve (s : State) (c : Chan) (v : Conv) : (s.serve c v).bank = s.bank.serve c v := by
  have conv : (s.serve c v).conv = Function.update s.conv v { s.conv v with state := .serving, stuck := 0 } :=
    funext fun w => (State.conv_modConv s v w fun x => { x with state := .serving, stuck := 0 }).trans
      (Function.update_apply _ _ _ _).symm
  have map : (s.serve c v).convOf = Function.update s.convOf c v :=
    funext fun d => (State.convOf_serve s c d v).trans (Function.update_apply _ _ _ _).symm
  simp only [State.bank, Bank.serve, conv, map]
  rfl

namespace Bank.Building

variable {D : Chan → Prop} {c : Chan} {v : Conv}

theorem own_facts (c d : Chan) : (ownConv c = ownConv d → c = d) ∧ ownConv c ≠ 24 ∧ ownConv c ≠ 25 := by
  have spare (v : Conv) (h : ownConv c = v) : v.val < 24 := h ▸ c.isLt
  exact ⟨fun h => Fin.castLE_injective (by decide) h, fun h => absurd (spare _ h) (by decide), fun h => absurd (spare _ h) (by decide)⟩

theorem serve (h : b.Building D) (new : ¬ D c) (own : v = ownConv c ∨ v = 24 ∨ v = 25) (spare : (b.conv v).state = .spare) :
    (b.serve c v).Building fun d => D d ∨ d = c := by
  obtain ⟨conv, states, apart, assigned, fromOwn, serving, spareless⟩ := h
  unfold Converter.Law at conv
  constructor <;> simp only [Bank.serve, Function.update_apply, Converter.Law] <;> grind

/-- Without a SPARE converter a channel stays on its own FAULTED one, in the no-spare set. -/
theorem keep (h : b.Building D) (new : ¬ D c) (none : (b.conv (ownConv c)).state ≠ .spare) :
    (Bank.join { b with map := Function.update b.map c (ownConv c) } c).Building fun d => D d ∨ d = c := by
  obtain ⟨conv, states, apart, assigned, fromOwn, serving, spareless⟩ := h
  have untaken (d : Chan) (hd : D d) : b.map d ≠ ownConv c := fun e => by
    obtain ⟨same, not24, not25⟩ := own_facts c d
    rcases fromOwn d hd with own | own | own
    · exact new (same (e.symm.trans own) ▸ hd)
    · exact not24 (e.symm.trans own)
    · exact not25 (e.symm.trans own)
  have faulted : (b.conv (ownConv c)).state = .faulted := by
    rcases states (ownConv c) with state | state | state
    · exact absurd state none
    · exact state
    · obtain ⟨d, hd, map⟩ := serving _ state
      exact absurd map (untaken d hd)
  constructor <;> simp only [Bank.join, Function.update_apply] <;> grind

end Bank.Building

theorem building_mapChannel (p : Nat) {D : Chan → Prop} (h : s.bank.Building D) {c : Chan} (new : ¬ D c) :
    (State.mapChannel p s c).bank.Building fun d => D d ∨ d = c := by
  simp only [State.mapChannel]
  split_ifs with own first second
  · rw [bank_serve]
    exact h.serve new (.inl rfl) own
  · rw [bank_serve]
    exact h.serve new (.inr (.inl rfl)) first
  · rw [bank_serve]
    exact h.serve new (.inr (.inr rfl)) second
  · have map : State.convOf { s with trim := { s.trim with map := s.trim.map.set c (ownConv c) } } =
        Function.update s.convOf c (ownConv c) := funext fun d => (vector_get_set _ c d _).trans (Function.update_apply _ _ _ _).symm
    have bank : State.bank { s with trim := { s.trim with map := s.trim.map.set c (ownConv c) } } =
        { s.bank with map := Function.update s.bank.map c (ownConv c) } := by
      rw [State.bank, map]
      rfl
    have keep := h.keep new own
    rw [← bank, ← bank_joinNoSpare _ p] at keep
    exact keep

/-- The map build gives each channel in turn its converter. -/
theorem building_fold (p : Nat) : ∀ (l : List Chan) {D : Chan → Prop} {s : State}, s.bank.Building D → l.Nodup →
    (∀ c ∈ l, ¬ D c) → (l.foldl (State.mapChannel p) s).bank.Building fun d => D d ∨ d ∈ l
  | [], D, s, h, _, _ => by simpa using h
  | c :: rest, D, s, h, nodup, new => by
    obtain ⟨apart, nodup⟩ := List.nodup_cons.mp nodup
    have turn := building_mapChannel p h (new c List.mem_cons_self)
    have built := building_fold p rest turn nodup fun d hd => not_or.mpr
      ⟨new d (List.mem_cons_of_mem c hd), fun e => apart (e ▸ hd)⟩
    simpa only [List.foldl_cons, List.mem_cons, or_assoc] using built

/-- The last start-up trim ends (R122). -/
theorem Bank.Law.readyToBuild (h : b.Law P) (unbuilt : b.built = false) {e : Engine} (engine : b.engine = some e)
    {x : Converter} (law : x.Law) (state : x.state = .spare ∨ x.state = .faulted) (last : e.conv = 25) :
    Bank.Building { b.setConv e.conv x with engine := none } fun _ => False := by
  obtain ⟨standby, -, sequence⟩ := h.startUp unbuilt
  have before (v : Conv) (hv : v ≠ e.conv) := ((sequence e engine).2 v).1 (lt_of_le_of_ne (last ▸ Fin.le_last v) hv)
  have conv := h.conv
  have spareless (c : Chan) (hc : b.noSpare c = true) : False := nomatch (h.spareless c hc).1.symm.trans unbuilt
  constructor <;> simp only [Bank.setConv, Function.update_apply] <;> grind

/-- What the map build does not touch. -/
def Bank.unmapped (b : Bank) : Bank :=
  { b with conv := fun _ => Converter.reset, map := fun _ => 0, noSpare := fun _ => false }

theorem mapChannel_unmapped (p : Nat) (s : State) (c : Chan) : (State.mapChannel p s c).bank.unmapped = s.bank.unmapped := by
  have join (u : State) : (u.joinNoSpare p c).bank.unmapped = u.bank.unmapped := by
    rw [bank_joinNoSpare]
    rfl
  simp only [State.mapChannel]
  split_ifs
  · rw [bank_serve]
    rfl
  · rw [bank_serve]
    rfl
  · rw [bank_serve]
    rfl
  · exact join _

/-- With every channel mapped the law stands (R123). -/
theorem Bank.Building.law (h : b.Building fun _ => True) (mismatch : ∀ c, b.mismatch c ≤ 1) (timer : b.timer ≤ 180000)
    (idle : b.engine = none) (shadow : b.shadow = none) (rotation : b.rotation = .idle) :
    ({ b with built := true } : Bank).Law P := by
  obtain ⟨conv, states, apart, assigned, fromOwn, serving, spareless⟩ := h
  constructor <;> grind

theorem law_startUp (law : s.bank.Law P) (unbuilt : s.trim.mapBuilt = false) (p : Nat) :
    (s.completeTrim p).bank.Law P ∧ (s.completeTrim p).bank.Calm := by
  obtain ⟨standby, some, sequence⟩ := law.startUp unbuilt
  obtain ⟨e, engine⟩ := Option.isSome_iff_exists.mp some
  have sequence := sequence e engine
  obtain ⟨u, h, ended⟩ := completeTrim_ended engine p
  have shadow : s.trim.shadow = none := by
    cases hs : s.trim.shadow with
    | none => rfl
    | some r => exact absurd ((law.held r hs).1.symm.trans unbuilt) nofun
  have map : u.trim.mapBuilt = false := (congrArg Bank.built ended.bank).trans unbuilt
  obtain ⟨fits, state⟩ := (law.conv e.conv).trimmed (trimResult e.kind e.sum) s.trim.trimClock
  rw [h, State.afterTrim, if_neg (by simp [map])]
  split_ifs with last
  · have new : u.bank.Building fun _ => False := by
      rw [ended.bank]
      exact law.readyToBuild unbuilt engine fits state last
    have turns := building_fold p allChans new (List.nodup_finRange 24) fun _ _ => not_false
    have whole : (allChans.foldl (State.mapChannel p) u).bank.Building fun _ => True := by
      have all (d : Chan) : (False ∨ d ∈ allChans) = True := eq_true (.inr (List.mem_finRange d))
      simpa only [all] using turns
    have kept := foldl_frame (g := fun s => s.bank.unmapped) (mapChannel_unmapped p) allChans u
    have bank : (u.buildMap p).bank = { (allChans.foldl (State.mapChannel p) u).bank with built := true } := by
      simp only [State.buildMap]
      generalize allChans.foldl (State.mapChannel p) u = w
      rfl
    generalize allChans.foldl (State.mapChannel p) u = w at whole kept bank
    simp only [ended.bank] at kept
    have mismatch : w.bank.mismatch = s.bank.mismatch := (congrArg Bank.mismatch kept :)
    have timer : w.bank.timer = s.bank.timer := (congrArg Bank.timer kept :)
    have idle : w.bank.engine = none := (congrArg Bank.engine kept :)
    have still : w.bank.shadow = none := (congrArg Bank.shadow kept).trans shadow
    have rotation : w.bank.rotation = .idle := (congrArg Bank.rotation kept).trans (law.rests standby)
    rw [bank]
    exact ⟨whole.law (fun c => mismatch ▸ law.mismatch c) (timer ▸ law.timer) idle still rotation, Bank.calm_of_none still⟩
  · rw [bank_startTrim, ended.bank]
    exact ⟨law.startNext unbuilt engine fits state last, Bank.calm_of_none shadow⟩

end Sys2Proof.Machine
end

section
/-! SUPPORT. The converters' law over a sample instant, a final boundary, an OPEN_CAPTURE and every other command. -/

namespace Sys2Proof.Machine

variable {s t : State} {b : Bank} {P Q : Prop}

/-! ## The sample instant -/

/-- The engine counts on, and the match sum rises (R120, R127). -/
theorem Bank.Law.counted (h : b.Law P) {e : Option Engine} (conv : e.map Engine.conv = b.engine.map Engine.conv)
    (kind : e.map Engine.kind = b.engine.map Engine.kind) : ({ b with engine := e } : Bank).Law P := by
  refine { h with
    trimming := fun v => (h.trimming v).trans (by rw [conv])
    held := fun r hr => ?_
    startUp := fun hb => ?_ }
  · obtain ⟨built, idle, map⟩ := h.held r hr
    exact ⟨built, by rw [idle] at conv; simpa using conv, map⟩
  · obtain ⟨standby, some, sequence⟩ := h.startUp hb
    obtain ⟨e', engine⟩ := Option.isSome_iff_exists.mp some
    obtain ⟨long, sequence⟩ := sequence e' engine
    rw [engine] at conv kind
    obtain ⟨e, rfl, same⟩ := Option.map_eq_some_iff.mp conv
    refine ⟨standby, rfl, fun x hx => ?_⟩
    obtain rfl := Option.some.inj hx
    exact ⟨(Option.some.inj kind).trans long, same ▸ sequence⟩

theorem Engine.take_still (e : Engine) (raw : Vector Raw 26) : (e.take raw).conv = e.conv ∧ (e.take raw).kind = e.kind := by
  unfold Engine.take
  split_ifs <;> exact ⟨rfl, rfl⟩

theorem trimLaw_tick (h : s.TrimLaw) (raw : Vector Raw 26) : (s.tick raw).TrimLaw := by
  obtain ⟨law, calm⟩ := trimLaw_iff.mp h
  have trim : (s.tick raw).trim = _ := (trim_tick s raw).trans (tickTrim_trim s raw)
  have engine : (s.tick raw).trim.engine = s.trim.engine.map fun e => e.take raw := (congrArg TrimUnit.engine trim :)
  have conv (v : Conv) : (s.tick raw).conv v =
      if s.capturing = true then (s.conv v).follow s.cap.instant (raw.get v) else s.conv v :=
    (State.conv_congr (congrArg TrimUnit.convs (trim_tick s raw)) v).trans (conv_tickTrim s raw v)
  have chan (c : Chan) : ((s.tick raw).chan c).mismatch = (s.chan c).mismatch ∧
      ((s.tick raw).chan c).noSpare = (s.chan c).noSpare := by
    rw [chan_tick]
    split_ifs <;> exact ⟨rfl, rfl⟩
  have state : (s.tick raw).cap.state = s.cap.state := by rw [cap_tick]
  have bank := bank_counted (s := s) (t := s.tick raw) ?_ (fun c => (chan c).1) fun c => (chan c).2
  · generalize s.tick raw = t at conv engine bank state ⊢
    have followed (v : Conv) : (t.conv v).state = (s.conv v).state ∧ (t.conv v).Law := by
      have law := law.conv v
      rw [conv]
      unfold Converter.follow
      split_ifs <;> exact ⟨rfl, law⟩
    rw [trimLaw_iff, state, bank, engine]
    refine ⟨((law.congr (fun v => (followed v).1) fun v => (followed v).2).counted ?_ ?_).unmarked,
      calm.congr (f := s.bank.handover) fun v => (followed v).1⟩
    · exact Option.map_map .. |>.trans (congrArg (Option.map · s.trim.engine) (funext fun e => (e.take_still raw).1))
    · exact Option.map_map .. |>.trans (congrArg (Option.map · s.trim.engine) (funext fun e => (e.take_still raw).2))
  · rw [trim]

/-! ## The final boundary -/

/-- The state of a final boundary once the trim unit's work is done (R129, R130). -/
def State.workedFinally (s : State) : State := s.completeBlocks.trimFinalWork

theorem endedFinally_trim (s : State) : s.endedFinally.trim = s.workedFinally.trim := by
  obtain ⟨⟨st, ch, e⟩, -⟩ := postBlocks_frame s s.completeBlocks.trimFinalWork
  rw [endedFinally_eq, e]
  rfl

/-- Of the trim unit the steps after its work change no more than stuck counts (R130). -/
theorem trim_finalBoundary (s : State) :
    s.finalBoundary.trim = { s.workedFinally.trim with convs := s.finalBoundary.trim.convs } := by
  have closed : s.finalBoundary.trim = s.closed.trim := by
    obtain ⟨st, m, r, -, e⟩ := closedMarked_changes s
    rw [finalBoundary_eq, toStandby_eq, e]
  rw [closed, (closed_result s).trim, endedFinally_trim]

theorem conv_finalBoundary (s : State) (v : Conv) : s.finalBoundary.conv v = s.endedFinally.commitSettings.conv v := by
  obtain ⟨st, m, r, -, e⟩ := closedMarked_changes s
  rw [← (closed_result s).conv v]
  refine State.conv_congr ?_ v
  rw [finalBoundary_eq, toStandby_eq, e]

theorem conv_state_finalBoundary (s : State) (v : Conv) :
    (s.finalBoundary.conv v).state = (s.workedFinally.conv v).state := by
  have same : s.endedFinally.conv v = s.workedFinally.conv v := State.conv_congr (congrArg TrimUnit.convs (endedFinally_trim s)) v
  rw [conv_finalBoundary, conv_commitSettings, ← same]
  generalize s.endedFinally = u
  split_ifs <;> rfl

theorem marks_finalBoundary (s : State) (c : Chan) :
    (s.finalBoundary.chan c).mismatch = (s.workedFinally.chan c).mismatch ∧
      (s.finalBoundary.chan c).noSpare = (s.workedFinally.chan c).noSpare := by
  have posted := (chan_postBlocks s s.completeBlocks.trimFinalWork c).1
  rw [← endedFinally_eq] at posted
  rw [finalBoundary_eq, chan_toStandby, chan_closedMarked, posted]
  exact ⟨rfl, rfl⟩

theorem bank_finalBoundary (s : State) : s.finalBoundary.bank =
    { s.workedFinally.bank with conv := s.finalBoundary.conv, handover := s.finalBoundary.bank.handover } := by
  refine bank_of ?_ (fun c => (marks_finalBoundary s c).1) fun c => (marks_finalBoundary s c).2
  have trim := trim_finalBoundary s
  generalize s.finalBoundary.trim = x at trim ⊢
  generalize s.workedFinally.trim = y at trim ⊢
  obtain ⟨k, rfl⟩ : ∃ k, x = { y with convs := k } := ⟨_, trim⟩
  rfl

theorem bank_completeBlocks (s : State) : s.completeBlocks.bank = s.bank := by
  have begun : ∃ ch, s.completeBlocks = { s with chans := ch } := mapChans_changes s _
  have chan (c : Chan) := chan_completeBlocks s c
  generalize s.completeBlocks = a at begun chan ⊢
  obtain ⟨ch, rfl⟩ := begun
  simp only [State.bank, chan, Channel.complete_eq]
  rfl

theorem bank_workedFinally (s : State) :
    s.workedFinally.bank = (s.completeBlocks.stuckExamination s.cap.period).bank.abandoned := by
  have cap : s.completeBlocks.cap = s.cap := (congrArg State.cap (mapChans_changes s fun _ ch => ch.complete).choose_spec :)
  rw [State.workedFinally, State.trimFinalWork, bank_abandonRotation, cap]

theorem conv_law_finalBoundary (law : ∀ v, (s.workedFinally.conv v).Law) (v : Conv) : (s.finalBoundary.conv v).Law := by
  have same : s.endedFinally.conv v = s.workedFinally.conv v :=
    State.conv_congr (congrArg TrimUnit.convs (endedFinally_trim s)) v
  have law := law v
  rw [← same] at law
  rw [conv_finalBoundary, conv_commitSettings]
  generalize s.endedFinally = u at law ⊢
  split_ifs
  · exact law.unstuck
  · exact law

theorem trimLaw_finalBoundary (h : s.TrimLaw) : s.finalBoundary.TrimLaw := by
  obtain ⟨law, -⟩ := trimLaw_iff.mp h
  rw [← bank_completeBlocks] at law
  have law := (law_stuckExamination s.cap.period law).abandoned (Q := True) fun _ => trivial
  rw [← bank_workedFinally] at law
  have states := conv_state_finalBoundary s
  have laws := conv_law_finalBoundary law.conv
  have standby : s.finalBoundary.cap.state = .standby := by rw [finalBoundary_eq, toStandby_eq]
  have shadow : s.workedFinally.bank.shadow = none := by rw [bank_workedFinally]; rfl
  have bank := bank_finalBoundary s
  generalize s.finalBoundary = t at states laws standby bank ⊢
  generalize s.workedFinally = w at law states shadow bank
  rw [trimLaw_iff, eq_true standby, bank]
  exact ⟨(law.congr states laws).unmarked, Bank.calm_of_none shadow⟩

/-! ## OPEN_CAPTURE -/

/-- The trim unit of an OPEN_CAPTURE before its replacements (R125, R130). -/
def State.cleared (s : State) : State :=
  { s.clearStuck.endRotation .idle with
    trim := { (s.clearStuck.endRotation .idle).trim with named := none, timer := 0 } }

theorem Bank.Law.cleared (h : b.Law P) (standby : P) (built : b.built = true) : ({ b with
    conv := fun v => { b.conv v with stuck := 0 }, rotation := .idle, shadow := none, named := none, timer := 0 } : Bank).Law Q := by
  have rests := h.rests standby
  have shadow : b.shadow = none := by
    cases hs : b.shadow with
    | none => rfl
    | some r => exact nomatch rests.symm.trans (h.rotates.mpr (congrArg Option.isSome hs))
  have conv (v : Conv) := (h.conv v).unstuck
  obtain ⟨-, mismatch, -, trimming, shadowed, rotates, held, -, apart, assigned, trimmed, serving, startUp, spareless⟩ := h
  constructor <;> grind

theorem bank_cleared (s : State) : s.cleared.bank = { s.bank with
    conv := fun v => { s.conv v with stuck := 0 }, rotation := .idle, shadow := none, named := none, timer := 0 } := by
  have conv (v : Conv) : s.cleared.conv v = { s.conv v with stuck := 0 } := by
    refine Eq.trans ?_ (State.conv_mapConvs s v fun _ x => { x with stuck := 0 })
    exact State.conv_congr (by simp only [State.cleared, State.clearStuck, State.endRotation]) v
  have bank : s.cleared.bank = { s.bank with
      conv := s.cleared.conv, rotation := .idle, shadow := none, named := none, timer := 0 } := by
    have mapped (f : Conv → Converter → Converter) : ∃ y, s.mapConvs f = { s with trim := { s.trim with convs := y } } :=
      ⟨_, rfl⟩
    simp only [State.cleared, State.clearStuck]
    rw [(mapped _).choose_spec]
    rfl
  rw [bank, funext conv]

theorem trimOpenWork_eq (s : State) :
    s.trimOpenWork = s.cleared.replaceFaulted s.cap.period fun c => (s.chan c).settings.enable := by
  have chan (c : Chan) : s.cleared.chan c = s.chan c := by
    refine State.chan_congr ?_ c
    simp only [State.cleared, State.clearStuck, State.endRotation, State.mapConvs]
  have cap : s.cleared.cap = s.cap := by
    simp only [State.cleared, State.clearStuck, State.endRotation, State.mapConvs]
  have work : s.trimOpenWork = s.cleared.replaceFaulted s.cleared.cap.period fun c => (s.cleared.chan c).settings.enable := by
    simp only [State.trimOpenWork, State.cleared]
  rw [work, cap]
  simp only [chan]

theorem bank_openState (s : State) : s.openState.bank = s.bank := by
  obtain ⟨k, ch, m, fl, x, e⟩ := openState_frame s
  have chan (c : Chan) := chan_openState s c
  generalize s.openState = a at e chan ⊢
  subst e
  simp only [State.bank, chan]
  rfl

/-- Of the bank the allocation of an OPEN_CAPTURE leaves all (R8, R9). -/
theorem bank_openCapture (s : State) : s.openCapture.bank = s.openState.trimOpenWork.bank := by
  rw [openCapture_eq]
  simp only [State.openedMarked]
  generalize s.openState.trimOpenWork = u
  obtain ⟨st, m, r, -, e⟩ := takeMarkers_changes u 0 .recess u.stampNow
  have chan (c : Chan) : (u.takeMarkers 0 .recess u.stampNow).chan c = u.chan c := State.chan_congr (by rw [e]) c
  generalize u.takeMarkers 0 .recess u.stampNow = w at e chan
  obtain ⟨⟨st', ch', r', -, e'⟩, slots⟩ := allocate_changes w
  have marks (c : Chan) : (w.allocate.chan c).mismatch = (u.chan c).mismatch ∧
      (w.allocate.chan c).handover = (u.chan c).handover ∧ (w.allocate.chan c).noSpare = (u.chan c).noSpare := by
    have slots := Channel.eq_of_besidesSlots (slots c)
    rw [chan] at slots
    generalize w.allocate.chan c = y at slots ⊢
    rw [slots]
    exact ⟨rfl, rfl, rfl⟩
  exact bank_same (by rw [e', e]) marks

theorem law_cleared {u : State} (bank : u.bank = s.bank) (law : s.bank.Law P) (standby : P) (built : s.trim.mapBuilt = true) :
    u.cleared.bank.Law False ∧ u.cleared.trim.mapBuilt = true := by
  have cleared := bank_cleared u
  have conv : u.conv = s.conv := congrArg Bank.conv bank
  rw [bank, conv] at cleared
  generalize u.cleared = w at cleared ⊢
  have map : w.trim.mapBuilt = true := (congrArg Bank.built cleared).trans built
  exact ⟨cleared ▸ law.cleared standby built, map⟩

theorem trimLaw_openCapture (h : s.TrimLaw) (standby : s.cap.state = .standby) (built : s.trim.mapBuilt = true) :
    s.openCapture.TrimLaw := by
  obtain ⟨law, -⟩ := trimLaw_iff.mp h
  obtain ⟨cleared, map⟩ := law_cleared (bank_openState s) law standby built
  have sound := sound_replaceFaulted s.openState.cap.period (fun c => (s.openState.chan c).settings.enable) cleared map
  rw [← trimOpenWork_eq] at sound
  obtain ⟨law, calm, -⟩ := sound
  rw [← bank_openCapture] at law calm
  have running : s.openCapture.cap.state = .capturing := by rw [(open_frame s).cap, cap_openState]
  generalize s.openCapture = t at law calm running ⊢
  have off : ¬ t.cap.state = .standby := by rw [running]; nofun
  rw [trimLaw_iff, eq_false off]
  exact ⟨law, calm⟩

end Sys2Proof.Machine
end

section
/-! SUPPORT. Every step keeps the agreement of map, rotation, engine and converter states (R118, R122, R124). -/

namespace Sys2Proof.Machine

variable {s t : State} {b : Bank} {P Q : Prop}

/-- What the converters' law reads is the same. -/
structure TrimInputs (s t : State) : Prop where
  state : t.cap.state = s.cap.state
  bank : t.bank = { s.bank with handover := t.bank.handover }

theorem State.TrimLaw.same (h : s.TrimLaw) (g : TrimInputs s t) : t.TrimLaw := by
  obtain ⟨state, bank⟩ := g
  rw [trimLaw_iff] at h ⊢
  rw [state, bank]
  exact ⟨h.1.unmarked, h.2⟩

namespace TrimInputs

theorem refl (s : State) : TrimInputs s s := ⟨rfl, rfl⟩

theorem trans {u : State} (h : TrimInputs s t) (g : TrimInputs t u) : TrimInputs s u :=
  ⟨g.state.trans h.state, by rw [g.bank, h.bank]⟩

theorem withLink (s : State) (l : Link) : TrimInputs s { s with link := l } := ⟨rfl, rfl⟩

/-- The trim unit keeps all but its lists, the channels all the law reads of them. -/
theorem of (state : t.cap.state = s.cap.state)
    (trim : t.trim = { s.trim with events := t.trim.events, unlisted := t.trim.unlisted })
    (mismatch : ∀ c, (t.chan c).mismatch = (s.chan c).mismatch) (noSpare : ∀ c, (t.chan c).noSpare = (s.chan c).noSpare) :
    TrimInputs s t := by
  have conv : t.conv = s.conv := funext fun v => State.conv_congr (congrArg TrimUnit.convs trim :) v
  refine ⟨state, ?_⟩
  rw [bank_of (trim.trans ?_) mismatch noSpare, conv]
  · rfl
  · have clock : t.trim.trimClock = s.trim.trimClock := (congrArg TrimUnit.trimClock trim :)
    have interval : t.trim.interval = s.trim.interval := (congrArg TrimUnit.interval trim :)
    have limit : t.trim.limit = s.trim.limit := (congrArg TrimUnit.limit trim :)
    have convs : t.trim.convs = s.trim.convs := (congrArg TrimUnit.convs trim :)
    rw [clock, interval, limit, convs]

theorem scan (g : ScanFrame s t) : TrimInputs s t := by
  have marks (c : Chan) : (t.chan c).mismatch = (s.chan c).mismatch ∧ (t.chan c).noSpare = (s.chan c).noSpare := by
    obtain ⟨b, h⟩ := g.chan c
    rw [h]
    exact ⟨rfl, rfl⟩
  exact of (by rw [g.cap]) g.trim (fun c => (marks c).1) fun c => (marks c).2

section
variable (f : Command) (s : State)

/-- A command that touches of the channels neither the mismatch count nor the no-spare set. -/
theorem chans (state : t.cap.state = s.cap.state) (trim : t.trim = s.trim)
    (chan : ∀ c, (t.chan c).mismatch = (s.chan c).mismatch ∧ (t.chan c).noSpare = (s.chan c).noSpare) : TrimInputs s t :=
  of state (by rw [trim]) (fun c => (chan c).1) fun c => (chan c).2

theorem routePatternBody : TrimInputs s (routePatternBody f s) := by
  obtain ⟨n, ch, l, h⟩ := routePatternBody_changes f s
  refine chans s (by rw [h]) (by rw [h]) fun c => ?_
  obtain ⟨r, p, hc⟩ := chan_routePatternBody f s c
  rw [hc]
  exact ⟨rfl, rfl⟩

theorem setProceedingBody : TrimInputs s (setProceedingBody f s) := by
  obtain ⟨p, ch, l, h⟩ := setProceedingBody_changes f s
  refine chans s (by rw [h]) (by rw [h]) fun c => ?_
  obtain ⟨p, hc⟩ := chan_setProceedingBody f s c
  rw [hc]
  exact ⟨rfl, rfl⟩

theorem setChannelBody : TrimInputs s (setChannelBody f s) := by
  obtain ⟨ch, l, h⟩ := setChannelBody_changes f s
  refine chans s (by rw [h]) (by rw [h]) fun c => ?_
  rcases chan_setChannelBody f s c with hc | ⟨sel, o, -, -, hc⟩ <;> rw [hc]
  · exact ⟨rfl, rfl⟩
  · split_ifs <;> exact ⟨rfl, rfl⟩

theorem restartBody : TrimInputs s (restartBody f s) := by
  obtain ⟨k, ch, l, h⟩ := restartBody_changes f s
  have state : (Machine.restartBody f s).cap.state = s.cap.state := by
    simp only [Machine.restartBody, State.dropPending, State.mapChans_cap]
  refine chans s state (by rw [h]) fun c => ?_
  rw [chan_restartBody]
  exact ⟨rfl, rfl⟩

end

end TrimInputs

/-! ## The trim unit's own commands (R136, R138, R139) -/

section
variable (f : Command)

/-- Of a rotation that is not SHADOWING the law asks no more than that it rests in STANDBY (R125). -/
theorem Bank.Law.turn (h : b.Law P) {q : RotationState} (next : q ≠ .shadowing) (before : b.rotation ≠ .shadowing)
    (rests : P → q = .idle) {n : Option Conv} : ({ b with rotation := q, named := n } : Bank).Law P :=
  { h with
    rotates := ⟨fun e => absurd e next, fun some => absurd (h.rotates.mpr some) before⟩
    rests := rests }

theorem State.TrimLaw.begun (h : s.TrimLaw) {v : Conv} (free : s.engineBusy = false) (unassigned : s.channelOf v = none)
    (state : (s.conv v).state = .spare ∨ (s.conv v).state = .faulted) (k : TrimKind) : (s.startTrim v k).TrimLaw := by
  obtain ⟨law, -⟩ := trimLaw_iff.mp h
  have idle : s.trim.engine = none ∧ s.trim.rotation ≠ .shadowing := by
    by_contra busy
    refine absurd (engineBusy_iff.mpr ?_) (by rw [free]; decide)
    tauto
  have built : s.trim.mapBuilt = true := by
    by_contra unbuilt
    have some := (law.startUp (by simpa using unbuilt : s.trim.mapBuilt = false)).2.1
    exact nomatch (congrArg Option.isSome idle.1).symm.trans some
  have shadow : s.trim.shadow = none := by
    cases hs : s.trim.shadow with
    | none => rfl
    | some r => exact absurd (law.rotates.mpr (congrArg Option.isSome hs)) idle.2
  rw [trimLaw_iff, bank_startTrim]
  exact ⟨law.trim built idle.1 shadow state (channelOf_none unassigned built), Bank.calm_of_none shadow⟩

/-- A SPARE converter serves no channel. -/
theorem State.TrimLaw.spare_unassigned (h : s.TrimLaw) {v : Conv} (spare : (s.conv v).state = .spare) :
    s.channelOf v = none := by
  obtain ⟨law, -⟩ := trimLaw_iff.mp h
  cases hc : s.channelOf v with
  | none => rfl
  | some c =>
    obtain ⟨built, rfl⟩ := channelOf_some hc
    rcases law.assigned built c with state | state <;> exact nomatch spare.symm.trans state

theorem trimLaw_trimNowBody (h : s.TrimLaw) : (trimNowBody f s).TrimLaw := by
  unfold trimNowBody
  split
  · exact h
  · next v _ =>
    split
    · split
      · exact h
      · split
        · exact h
        · next running rotation =>
          obtain ⟨law, calm⟩ := trimLaw_iff.mp h
          have off : s.cap.state ≠ .standby := fun e => by simp [State.capturing, e] at running
          have next : (s.nameTarget v).trim.rotation ≠ .shadowing := by
            simp only [State.nameTarget]
            split_ifs
            · nofun
            · exact rotation
          exact trimLaw_iff.mpr ⟨law.turn next rotation fun e => absurd e off, calm⟩
    · next spare =>
      split
      · exact h
      · next free => exact h.begun (by simpa using free) (h.spare_unassigned spare) (.inl spare) .short
    all_goals exact h

theorem trimLaw_converterRestoreBody (h : s.TrimLaw) : (converterRestoreBody f s).TrimLaw := by
  unfold converterRestoreBody
  split
  · exact h
  · split
    · exact h
    · next v _ restorable =>
      split
      · exact h
      · next free =>
        rw [not_or, not_not] at restorable
        exact h.begun (by simpa using free) (by simpa using restorable.1) (.inr restorable.2) .long

theorem trimLaw_configureTrim (h : s.TrimLaw) (interval limit : Nat) : (s.configureTrim interval limit).TrimLaw := by
  rw [trimLaw_iff] at h ⊢
  obtain ⟨law, calm⟩ := h
  by_cases stops : interval = 0 ∧ s.trim.rotation = .due ∧ s.trim.named = none
  · have rotation : s.trim.rotation ≠ .shadowing := fun e => nomatch e.symm.trans stops.2.1
    have idle : (s.configureTrim interval limit).bank = { s.bank with rotation := .idle, named := s.trim.named } := by
      simp only [State.configureTrim, if_pos stops]
      rfl
    rw [idle]
    exact ⟨law.turn (q := .idle) nofun rotation fun _ => rfl, calm⟩
  · have same : (s.configureTrim interval limit).bank = s.bank := by
      simp only [State.configureTrim, if_neg stops]
      rfl
    rw [same]
    exact ⟨law, calm⟩

theorem trimLaw_trimConfigBody (h : s.TrimLaw) : (trimConfigBody f s).TrimLaw := by
  unfold trimConfigBody
  split
  · exact h
  · exact trimLaw_configureTrim h _ _

end

theorem calm_completeTrim (law : s.bank.Law P) (calm : s.bank.Calm) (built : s.trim.mapBuilt = true) (p : Nat) :
    (s.completeTrim p).bank.Calm := by
  cases engine : s.trim.engine with
  | none =>
    have same : s.completeTrim p = s := by simp [State.completeTrim, engine]
    rw [same]
    exact calm
  | some e =>
    have shadow : s.trim.shadow = none := by
      cases hs : s.trim.shadow with
      | none => rfl
      | some r => exact nomatch engine.symm.trans (law.held r hs).2.1
    refine Bank.calm_of_none ?_
    rw [(completeTrim_built built engine p).bank]
    exact shadow

/-- A restart abandons the rotation and sets the stuck counts to 0 (R140). -/
theorem Bank.Law.restarted (h : b.Law P) {x : Conv → Converter} {f : Chan → Bool} (conv : ∀ v, x v = { b.conv v with
    state := if (b.conv v).state = .shadow then .spare else (b.conv v).state, stuck := 0 }) :
    ({ b.abandoned with conv := x, handover := f } : Bank).Law True := by
  have abandoned := h.abandoned (Q := True) fun _ => trivial
  have same (v : Conv) : x v = { b.abandoned.conv v with stuck := 0 } := by
    rw [conv]
    simp only [Bank.abandoned]
    split_ifs <;> rfl
  exact (abandoned.congr (fun v => by rw [same]) fun v => by rw [same]; exact (abandoned.conv v).unstuck).unmarked

theorem trimLaw_captureReset (h : s.TrimLaw) : s.captureReset.TrimLaw := by
  obtain ⟨law, -⟩ := trimLaw_iff.mp h
  have trim : s.captureReset.trim = _ := (by rw [captureReset_eq] : s.captureReset.trim = s.trimRestarted.trim).trans
    (trim_trimRestarted s)
  have conv (v : Conv) : s.captureReset.conv v = _ :=
    (State.conv_congr (s := s.trimRestarted) (by rw [captureReset_eq]) v).trans (conv_trimRestarted s v)
  have marks (c : Chan) : (s.captureReset.chan c).mismatch = (s.chan c).mismatch ∧
      (s.captureReset.chan c).noSpare = (s.chan c).noSpare := by
    rw [chan_captureReset]
    exact ⟨rfl, rfl⟩
  have state : s.captureReset.cap.state = .standby := by rw [captureReset_eq]; rfl
  generalize s.captureReset = t at trim conv marks state ⊢
  generalize s.trimRestarted.trim.convs = k at trim
  have bank : t.bank = { s.bank.abandoned with conv := t.conv, handover := t.bank.handover } := by
    have map : t.convOf = s.convOf := funext fun c => (congrArg (fun x : TrimUnit => x.map.get c) trim :)
    simp only [State.bank, Bank.abandoned, map, marks, trim]
  rw [trimLaw_iff, eq_true state, bank]
  exact ⟨law.restarted conv, Bank.calm_of_none rfl⟩

theorem exec_keeps_trimLaw {c : Instr} (h : s.TrimLaw) (e : exec c s = .next t) : t.TrimLaw := by
  have frame := exec_frame e
  have quiet (hc : Block.cap ∉ touched c ∧ .chans ∉ touched c ∧ .trim ∉ touched c) : t.TrimLaw := by
    obtain ⟨hk, hd, ht⟩ := hc
    exact h.same (.chans s (congrArg Capture.state (frame .cap hk)) (frame .trim ht) fun d => by
      rw [State.chan_congr (frame .chans hd) d]; exact ⟨rfl, rfl⟩)
  have scanned {u : State} (g : TrimInputs s u) : u.scan.TrimLaw := (h.same g).same (.scan (.scan u))
  have body {code : Byte} {need : Command → State → Nat} {fits : Command → Bool} {b : Command → State → State}
      (hb : ∀ f s, s.TrimLaw → (b f s).TrimLaw) : (runCommand code need fits b s).TrimLaw :=
    runCommand_keeps (P := State.TrimLaw) _ _ _ (fun _ _ h => h) hb h
  have kept {code : Byte} {need : Command → State → Nat} {fits : Command → Bool} {b : Command → State → State}
      (hb : ∀ f s, TrimInputs s (b f s)) : (runCommand code need fits b s).TrimLaw := body fun f s h => h.same (hb f s)
  cases c
  case sampleInstant raw =>
    cases e
    split_ifs
    · exact trimLaw_tick h raw
    · exact h
  case setChannel => cases e; exact kept .setChannelBody
  case routePattern => cases e; exact kept .routePatternBody
  case setProceeding => cases e; exact kept .setProceedingBody
  case trimNow => cases e; exact body fun f _ => trimLaw_trimNowBody f
  case converterRestore => cases e; exact body fun f _ => trimLaw_converterRestoreBody f
  case trimConfig => cases e; exact body fun f _ => trimLaw_trimConfigBody f
  case closeCapture =>
    cases e
    refine kept fun f s => ?_
    obtain ⟨b, l, e⟩ := closeCaptureBody_changes f s
    rw [e]
    exact ⟨rfl, rfl⟩
  case loadPattern =>
    cases e
    refine kept fun f s => ?_
    obtain ⟨p, l, e⟩ := loadPatternBody_changes f s
    rw [e]
    exact ⟨rfl, rfl⟩
  case trimEnd =>
    cases e
    split_ifs
    · have state : (s.completeTrim s.cap.period).cap.state = s.cap.state := by rw [(TrimFrame.completeTrim s _).cap]
      obtain ⟨law, calm⟩ := trimLaw_iff.mp h
      rw [trimLaw_iff, state]
      cases built : s.trim.mapBuilt with
      | false => exact law_startUp law built _
      | true => exact ⟨(law_completeTrim law built _).1, calm_completeTrim law calm built _⟩
    · exact h
  case fullReset => cases e; exact trimLaw_reset
  case captureReset =>
    cases e
    split_ifs
    · exact trimLaw_captureReset h
    · exact h
  case periodBoundary =>
    cases e
    split_ifs with due
    · exact law_periodBoundary h (boundaryDue_iff.mp due.1).1
    · exact h
  case finalBoundary =>
    cases e
    split_ifs
    · exact trimLaw_finalBoundary h
    · exact h
  case openCapture =>
    cases e
    refine body fun f s h => ?_
    unfold openCaptureBody
    split_ifs with running unready
    · exact h
    · exact h
    · exact h
    · have law := trimLaw_openCapture h (capturing_false_iff.mp (by simpa using running)) (by simpa using unready)
      generalize s.openCapture = u at law
      exact law
  case restart =>
    cases e
    split
    · exact h
    · split_ifs
      · next f _ _ _ _ => exact h.same (.trans (.withLink s _) (.restartBody f s.popCommand))
      · exact h
      · exact kept fun f s => .refl s
  case laneScan => cases e; exact scanned (.refl s)
  case holdRelease => cases e; exact scanned (.withLink s _)
  case noticeFrameEnd =>
    cases e
    split_ifs
    · exact scanned (.withLink s _)
    · exact h
  case blockFrameEnd =>
    cases e
    split_ifs
    · have entered : TrimInputs s s.enterCustody := by
        unfold State.enterCustody
        split <;> exact ⟨rfl, rfl⟩
      exact scanned (entered.trans (.withLink _ _))
    · exact h
  case rereadFrameEnd =>
    cases e
    split
    · next k _ _ _ =>
      have ended : TrimInputs s.popReply (s.popReply.endPin k) := by
        simp only [State.endPin]
        rw [setFree_eq]
        exact ⟨rfl, rfl⟩
      exact scanned ((TrimInputs.withLink s _).trans (ended.trans (.withLink _ _)))
    · exact h
  case replyFrameEnd =>
    cases e
    split
    · exact scanned (.withLink s _)
    · exact h
    · exact h
  all_goals exact quiet (by simp [touched])

/-- Settles O58: each command keeps the law. -/
theorem stepKeepsTrimLaw : Obligations.StepKeepsTrimLaw := by
  unfold Obligations.StepKeepsTrimLaw
  exact fun s t h e => step_keeps (fun _ _ h => h) exec_keeps_trimLaw h e

end Sys2Proof.Machine
end

section
/-! SUPPORT. The replacements of a boundary or an OPEN_CAPTURE as one assignment of helpers to channels (R131, R132). -/

namespace Sys2Proof.Machine

variable {s t : State} {b : Bank}

namespace Bank

/-- The SPARE converters in ascending order. -/
def spares (b : Bank) : List Conv := (List.finRange 26).filter fun v => (b.conv v).state = .spare

/-- The rotation SHADOWING. -/
def shadowing (b : Bank) : Option Shadow := if b.rotation = .shadowing then b.shadow else none

/-- Channel `c` stands on a FAULTED converter. -/
abbrev faulty (b : Bank) (c : Chan) : Prop := (b.conv (b.map c)).state = .faulted

/-- The channels `bad` take the converters `helpers`, one each in turn; those beyond the last join the no-spare set. -/
def assign (b : Bank) : List Chan → List Conv → Bank
  | [], _ => b
  | c :: rest, [] => (b.join c).assign rest []
  | c :: rest, v :: more => (b.give c v).assign rest more

/-- The rotation whose spare has been taken as a replacement (R131). -/
def yield (b : Bank) : Bank :=
  match b.shadowing with
  | some _ => { b.rest .due with named := none }
  | none => b

/-- The converters the channels on a FAULTED one take: the SPARE ones, then the one in SHADOW (R131). -/
def aid (b : Bank) : List Conv := b.spares ++ b.shadowing.toList.map Shadow.spare

/-- The replacements of the channels `bad`. -/
def replaced (b : Bank) (bad : List Chan) : Bank :=
  if b.spares.length < bad.length then (b.assign bad b.aid).yield else b.assign bad b.aid

variable {c : Chan} {v : Conv} {bad : List Chan}

theorem spares_give {rest : List Conv} (h : b.spares = v :: rest) : (b.give c v).spares = rest := by
  have nodup : (v :: rest).Nodup := h ▸ (List.nodup_finRange 26).filter _
  have spare (w : Conv) : decide (((b.give c v).conv w).state = .spare) = (decide (w ≠ v) && decide ((b.conv w).state = .spare)) := by
    by_cases same : w = v <;> simp [Bank.give, same]
  rw [Bank.spares, List.filter_congr fun w _ => spare w, ← List.filter_filter]
  rw [Bank.spares] at h
  rw [h, List.filter_cons_of_neg (by simp), List.filter_eq_self]
  intro w hw
  have apart := (List.nodup_cons.mp nodup).1
  simpa using fun e : w = v => apart (e ▸ hw)

theorem faulty_give (unfaulted : (b.conv v).state ≠ .faulted) {d : Chan} (other : d ≠ c) :
    (b.give c v).faulty d ↔ b.faulty d := by
  simp only [Bank.faulty, Bank.give, Function.update_of_ne other, Function.update_apply]
  split_ifs with same
  · rw [same]
    exact ⟨nofun, fun h => absurd h unfaulted⟩
  · rfl

theorem yield_assign (bad : List Chan) (helpers : List Conv) : ∀ b : Bank, (b.assign bad helpers).yield = b.yield.assign bad helpers := by
  have yield_join (b : Bank) (c : Chan) : (b.join c).yield = b.yield.join c := by
    have same : (b.join c).shadowing = b.shadowing := rfl
    unfold Bank.yield
    rw [same]
    cases b.shadowing <;> rfl
  have yield_give (b : Bank) (c : Chan) (v : Conv) : (b.give c v).yield = b.yield.give c v := by
    have same : (b.give c v).shadowing = b.shadowing := rfl
    unfold Bank.yield
    rw [same]
    cases b.shadowing <;> rfl
  induction bad generalizing helpers with
  | nil => exact fun _ => rfl
  | cons c rest ih =>
    intro b
    cases helpers with
    | nil => rw [assign, ih, yield_join, assign]
    | cons v more => rw [assign, ih, yield_give, assign]

theorem aid_give {rest : List Conv} (h : b.spares = v :: rest) : b.aid = v :: (b.give c v).aid := by
  rw [aid, aid, spares_give h, h]
  rfl

theorem replaced_give {rest : List Conv} (h : b.spares = v :: rest) :
    b.replaced (c :: bad) = (b.give c v).replaced bad := by
  rw [replaced, replaced, aid_give (c := c) h, assign, spares_give h, h]
  simp only [List.length_cons, Nat.add_lt_add_iff_right]

theorem yield_some {r : Shadow} (h : b.shadowing = some r) : b.yield = { b.rest .due with named := none } := by
  unfold yield
  rw [h]

theorem aid_yield {r : Shadow} (none : b.spares = []) (h : b.shadowing = some r) :
    b.aid = [r.spare] ∧ (b.give c r.spare).yield.aid = [] := by
  have given : (b.give c r.spare).shadowing = some r := h
  refine ⟨by rw [aid, none, h]; rfl, ?_⟩
  have idle : (b.give c r.spare).yield.shadowing = Option.none := by rw [yield_some given]; rfl
  rw [aid, idle, yield_some given]
  rw [Bank.spares, List.filter_eq_nil_iff] at none
  simp only [Bank.spares, Bank.rest, Bank.give, Option.toList_none, List.map_nil, List.append_nil, List.filter_eq_nil_iff,
    Function.update_apply]
  intro w hw
  split_ifs
  · simp
  · exact none w hw

theorem replaced_yield {r : Shadow} (none : b.spares = []) (h : b.shadowing = some r) :
    b.replaced (c :: bad) = (b.give c r.spare).yield.replaced bad := by
  obtain ⟨one, nil⟩ := aid_yield (c := c) none h
  have given : (b.give c r.spare).shadowing = some r := h
  have again : (b.give c r.spare).yield.yield = (b.give c r.spare).yield := by
    have idle : (b.give c r.spare).yield.shadowing = Option.none := by rw [yield_some given]; rfl
    rw [yield, idle]
  rw [replaced, if_pos (by simp [none]), one, assign, yield_assign, replaced, nil, yield_assign, again, ite_self]

theorem replaced_join (none : b.spares = []) (h : b.shadowing = Option.none) :
    b.aid = [] ∧ (b.join c).aid = [] ∧ ∀ bad, b.replaced (c :: bad) = (b.join c).replaced bad := by
  have nil : b.aid = [] := by rw [aid, none, h]; rfl
  have still (d : Bank) (hd : d.shadowing = Option.none) : d.yield = d := by
    unfold yield
    rw [hd]
  have same : (b.join c).aid = [] := nil
  refine ⟨nil, same, fun bad => ?_⟩
  rw [replaced, replaced, nil, same, yield_assign, yield_assign, still b h, still (b.join c) h, ite_self, ite_self, assign]

end Bank

theorem lowestSpare_eq (s : State) : s.lowestSpare = s.bank.spares.head? := by
  rw [Bank.spares, List.head?_filter]
  exact congrArg (List.find? · allConvs) (funext fun v => by simp [State.bank]; rfl)

/-! ## The entries of the replacements (R134) -/

theorem replacementEntries_cons (s : State) (c : Chan) (rest : List Chan) (v : Conv) (more : List Conv) (n p : Nat) :
    s.replacementEntries (c :: rest) (v :: more) n p =
      ⟨.handover, .replacement, v, some c, some (s.convOf c), n, p⟩ :: s.replacementEntries rest more n p := by
  simp only [State.replacementEntries, List.zipIdx_cons, List.filterMap_cons, List.getElem?_cons_zero]
  rw [List.zipIdx_succ, List.filterMap_map]
  rfl

theorem replacementEntries_left (s : State) (c : Chan) (rest : List Chan) (n p : Nat) :
    s.replacementEntries (c :: rest) [] n p =
      (if (s.chan c).noSpare = true then [] else [⟨.noSpare, .none, s.convOf c, some c, none, n, p⟩]) ++
        s.replacementEntries rest [] n p := by
  simp only [State.replacementEntries, List.zipIdx_cons, List.filterMap_cons, List.getElem?_nil]
  rw [List.zipIdx_succ, List.filterMap_map]
  split_ifs <;> rfl

/-- The entries read of a state only the converters and the no-spare set of the channels replaced. -/
theorem replacementEntries_congr {bad : List Chan} (same : ∀ c ∈ bad, t.convOf c = s.convOf c ∧
    (t.chan c).noSpare = (s.chan c).noSpare) (helpers : List Conv) (n p : Nat) :
    t.replacementEntries bad helpers n p = s.replacementEntries bad helpers n p := by
  induction bad generalizing helpers with
  | nil => rfl
  | cons c rest ih =>
    obtain ⟨map, noSpare⟩ := same c List.mem_cons_self
    have ih := ih fun d hd => same d (List.mem_cons_of_mem c hd)
    cases helpers with
    | nil => rw [replacementEntries_left, replacementEntries_left, map, noSpare, ih]
    | cons v more => rw [replacementEntries_cons, replacementEntries_cons, map, ih]

/-! ## The replacements (R131, step 4) -/

/-- What a run of replacements leads to: the bank, and the entries of the notice. -/
structure Replacing (s t : State) (bad : List Chan) (p : Nat) : Prop where
  bank : t.bank = s.bank.replaced bad
  logged : Logged s t (s.replacementEntries bad s.bank.aid s.cap.number p)

theorem shadowing_bank (s : State) : s.shadowing = s.bank.shadowing := rfl

/-- One turn, and the turns after it. -/
theorem Replacing.turn {u : State} {c : Chan} {rest : List Chan} {p : Nat} {es : List ConverterEntry} (entry : Logged s u es)
    (cap : u.cap = s.cap) (faults : ∀ d ∈ rest, (u.bank.faulty d ↔ s.bank.faulty d))
    (bank : ∀ bad, s.bank.replaced (c :: bad) = u.bank.replaced bad)
    (entries : ∀ bad, (∀ d ∈ bad, d ∈ rest) → s.replacementEntries (c :: bad) s.bank.aid s.cap.number p =
      es ++ u.replacementEntries bad u.bank.aid s.cap.number p)
    (after : Replacing u t (rest.filter fun c => u.bank.faulty c) p) :
    Replacing s t (c :: rest.filter fun c => s.bank.faulty c) p := by
  have same : (rest.filter fun c => u.bank.faulty c) = rest.filter fun c => s.bank.faulty c :=
    List.filter_congr fun d hd => decide_eq_decide.mpr (faults d hd)
  obtain ⟨replaced, logged⟩ := after
  rw [same] at replaced logged
  refine ⟨replaced.trans (bank _).symm, ?_⟩
  rw [cap] at logged
  rw [entries _ fun d hd => (List.mem_filter.mp hd).1]
  exact entry.trans logged

theorem replace_turn (p : Nat) {c : Chan} {rest : List Chan} (faulted : s.bank.faulty c) (apart : c ∉ rest)
    (held : ∀ r ∈ s.bank.shadowing, (s.conv r.spare).state = .shadow)
    (after : Replacing (State.replace p s c) t (rest.filter fun d => (State.replace p s c).bank.faulty d) p) :
    Replacing s t (c :: rest.filter fun c => s.bank.faulty c) p := by
  have cap : (State.replace p s c).cap = s.cap := (TrimFrame.replace p s c).cap
  have other {d : Chan} (hd : d ∈ rest) : d ≠ c := fun e => apart (e ▸ hd)
  have given (v : Conv) {d : Chan} (hd : d ∈ rest) : (s.bank.give c v).map d = s.convOf d ∧
      (s.bank.give c v).noSpare d = (s.chan d).noSpare :=
    ⟨Function.update_of_ne (other hd) _ _, Function.update_of_ne (other hd) _ _⟩
  rcases replace_cases p s c with ⟨sound, -⟩ | ⟨-, ⟨v, lowest, e⟩ | ⟨none, r, shadowing, e⟩ | ⟨none, shadowing, e⟩⟩
  · exact absurd faulted sound
  · rw [e] at after cap
    obtain ⟨more, spares⟩ : ∃ more, s.bank.spares = v :: more := by
      rw [lowestSpare_eq] at lowest
      exact List.head?_eq_some_iff.mp lowest
    have spare := lowestSpare_some lowest
    have bank := bank_handOver s p c v .replacement
    refine after.turn (.handOver s p c v .replacement) cap (fun d hd => ?_) (fun bad => ?_) fun bad hbad => ?_ 
    · rw [bank]
      exact Bank.faulty_give (by rw [State.bank, spare]; nofun) (other hd)
    · rw [bank, Bank.replaced_give spares]
    · rw [Bank.aid_give (c := c) spares, replacementEntries_cons, bank, List.singleton_append]
      refine congrArg _ (replacementEntries_congr (fun d hd => ?_) _ _ _).symm
      have := given v (hbad d hd)
      rw [← bank] at this
      exact this
  · rw [e] at after cap
    have nil : s.bank.spares = [] := by simpa [lowestSpare_eq] using none
    have spare := held r shadowing
    have taken : (s.bank.give c r.spare).shadowing = some r := shadowing
    have bank : State.bank { (s.handOver p c r.spare .replacement).endRotation .due with
        trim := { ((s.handOver p c r.spare .replacement).endRotation .due).trim with named := Option.none } } =
        (s.bank.give c r.spare).yield := by
      rw [Bank.yield_some taken, ← bank_handOver s p c r.spare .replacement, ← bank_endRotation]
      rfl
    have entry := (Logged.handOver s p c r.spare .replacement).after
      (.silent (t := { (s.handOver p c r.spare .replacement).endRotation .due with
        trim := { ((s.handOver p c r.spare .replacement).endRotation .due).trim with named := Option.none } }) rfl rfl rfl)
    refine after.turn entry cap (fun d hd => ?_) (fun bad => ?_) fun bad hbad => ?_
    · have faults := Bank.faulty_give (b := s.bank) (v := r.spare) (by rw [State.bank, spare]; nofun) (other hd)
      rw [bank, Bank.yield_some taken]
      exact faults
    · rw [bank, Bank.replaced_yield nil shadowing]
    · obtain ⟨one, left⟩ := Bank.aid_yield (c := c) nil shadowing
      rw [one, replacementEntries_cons, bank, left, List.singleton_append]
      refine congrArg _ (replacementEntries_congr (fun d hd => ?_) _ _ _).symm
      have := given r.spare (hbad d hd)
      rw [Bank.yield_some taken] at bank
      exact ⟨(congrFun (congrArg Bank.map bank) d).trans this.1, (congrFun (congrArg Bank.noSpare bank) d).trans this.2⟩
  · rw [e] at after cap
    have nil : s.bank.spares = [] := by simpa [lowestSpare_eq] using none
    have bank := bank_joinNoSpare s p c
    obtain ⟨left, same, replaced⟩ := Bank.replaced_join (c := c) nil shadowing
    refine after.turn (.joinNoSpare s p c) cap (fun d hd => ?_) (fun bad => ?_) fun bad hbad => ?_
    · rw [bank]
      rfl
    · rw [bank, replaced]
    · rw [left, replacementEntries_left, bank, same]
      refine congrArg _ (replacementEntries_congr (fun d hd => ?_) _ _ _).symm
      exact ⟨(congrFun (congrArg Bank.map bank) d :), (congrFun (congrArg Bank.noSpare bank) d).trans
        (Function.update_of_ne (other (hbad d hd)) _ _)⟩

theorem replace_held (p : Nat) (c : Chan) (held : ∀ r ∈ s.bank.shadowing, (s.conv r.spare).state = .shadow) :
    ∀ r ∈ (State.replace p s c).bank.shadowing, ((State.replace p s c).conv r.spare).state = .shadow := by
  intro r hr
  rcases replace_cases p s c with ⟨-, e⟩ | ⟨-, ⟨v, lowest, e⟩ | ⟨-, r', -, e⟩ | ⟨-, -, e⟩⟩ <;> rw [e] at hr ⊢
  · exact held r hr
  · have bank := bank_handOver s p c v .replacement
    have conv := congrFun (congrArg Bank.conv bank) r.spare
    have spare := held r (by rwa [bank] at hr)
    have other : r.spare ≠ v := fun e => nomatch (e ▸ spare).symm.trans (lowestSpare_some lowest)
    exact (congrArg Converter.state (conv.trans (Function.update_of_ne other _ _))).trans spare
  · cases hr
  · have bank := bank_joinNoSpare s p c
    have conv := congrFun (congrArg Bank.conv bank) r.spare
    exact (congrArg Converter.state conv).trans (held r (by rwa [bank] at hr))

theorem replace_fold (p : Nat) : ∀ (cs : List Chan) (s : State), cs.Nodup →
    (∀ r ∈ s.bank.shadowing, (s.conv r.spare).state = .shadow) →
    Replacing s (cs.foldl (State.replace p) s) (cs.filter fun c => s.bank.faulty c) p
  | [], s, _, _ => ⟨by rw [Bank.replaced, if_neg (by simp)]; rfl, .refl s⟩
  | c :: rest, s, nodup, held => by
    obtain ⟨apart, nodup⟩ := List.nodup_cons.mp nodup
    have after := replace_fold p rest (State.replace p s c) nodup (replace_held p c held)
    rw [List.foldl_cons]
    by_cases faulted : s.bank.faulty c
    · rw [List.filter_cons_of_pos (by simpa using faulted)]
      exact replace_turn p faulted apart held after
    · have same : State.replace p s c = s := if_neg faulted
      rw [List.filter_cons_of_neg (by simpa using faulted)]
      rw [same] at after ⊢
      exact after

/-! ## What the assignment gives each channel and each converter -/

/-- What an assignment leads to, channel by channel and converter by converter. -/
structure Assigned (b b' : Bank) (bad : List Chan) (helpers : List Conv) : Prop where
  given : ∀ (i : Nat) c v, bad[i]? = some c → helpers[i]? = some v → b'.map c = v ∧
    b'.conv v = { b.conv v with state := .serving, stuck := 0 } ∧
    b'.handover c = true ∧ b'.mismatch c = 0 ∧ b'.noSpare c = false
  left : ∀ (i : Nat) c, bad[i]? = some c → helpers[i]? = none →
    b'.map c = b.map c ∧ b'.handover c = b.handover c ∧ b'.mismatch c = b.mismatch c ∧ b'.noSpare c = true
  others : ∀ c, c ∉ bad →
    b'.map c = b.map c ∧ b'.handover c = b.handover c ∧ b'.mismatch c = b.mismatch c ∧ b'.noSpare c = b.noSpare c
  unused : ∀ v, (∀ (i : Nat) c, bad[i]? = some c → helpers[i]? ≠ some v) → b'.conv v = b.conv v
  rest : b' = { b with
    conv := b'.conv, map := b'.map, mismatch := b'.mismatch, handover := b'.handover, noSpare := b'.noSpare }

theorem assign_result {bad : List Chan} {helpers : List Conv} (nodup : bad.Nodup) (apart : helpers.Nodup) (b : Bank) :
    Assigned b (b.assign bad helpers) bad helpers := by
  induction bad generalizing helpers b with
  | nil => exact ⟨nofun, nofun, fun _ _ => ⟨rfl, rfl, rfl, rfl⟩, fun _ _ => rfl, rfl⟩
  | cons c rest ih =>
    obtain ⟨new, nodup⟩ := List.nodup_cons.mp nodup
    have other {d : Chan} (hd : d ∈ rest) : d ≠ c := fun e => new (e ▸ hd)
    have mem {i : Nat} {d : Chan} (h : rest[i]? = some d) : d ∈ rest := List.mem_of_getElem? h
    cases helpers with
    | nil =>
      obtain ⟨-, left, others, unused, kept⟩ := ih nodup .nil (b.join c)
      refine ⟨nofun, fun i d hd _ => ?_, fun d hd => ?_, fun v _ => unused v fun i d _ => nofun, kept⟩
      · cases i with
        | zero =>
          obtain rfl := Option.some.inj hd
          have same := others c new
          simpa only [Bank.assign, Bank.join, Function.update_self] using same
        | succ i => exact left i d hd rfl
      · rw [List.mem_cons, not_or] at hd
        have same := others d hd.2
        simpa only [Bank.assign, Bank.join, Function.update_of_ne hd.1] using same
    | cons v more =>
      obtain ⟨fresh, apart⟩ := List.nodup_cons.mp apart
      obtain ⟨given, left, others, unused, kept⟩ := ih nodup apart (b.give c v)
      refine ⟨fun i d w hd hw => ?_, fun i d hd hw => ?_, fun d hd => ?_, fun w hw => ?_, kept⟩
      · cases i with
        | zero =>
          obtain rfl := Option.some.inj hd
          obtain rfl := Option.some.inj hw
          obtain ⟨map, handover, mismatch, noSpare⟩ := others c new
          have conv := unused v fun i d _ hi => fresh (List.mem_of_getElem? hi)
          simp only [Bank.give, Function.update_self] at map handover mismatch noSpare conv
          exact ⟨map, conv, handover, mismatch, noSpare⟩
        | succ i =>
          have turn := given i d w hd hw
          have different : w ≠ v := fun e => fresh (e ▸ List.mem_of_getElem? hw)
          simpa only [Bank.assign, Bank.give, Function.update_of_ne different] using turn
      · cases i with
        | zero => cases hw
        | succ i =>
          have turn := left i d hd hw
          simpa only [Bank.assign, Bank.give, Function.update_of_ne (other (mem hd))] using turn
      · rw [List.mem_cons, not_or] at hd
        have same := others d hd.2
        simpa only [Bank.assign, Bank.give, Function.update_of_ne hd.1] using same
      · have different : w ≠ v := fun e => hw 0 c rfl (by rw [e]; rfl)
        have same := unused w fun i d hi => hw (i + 1) d hi
        simpa only [Bank.assign, Bank.give, Function.update_of_ne different] using same

end Sys2Proof.Machine
end

section
/-! SUPPORT. The examination of the converters at the end of a period, converter by converter (R130), and its entries of the
CONVERTER notice (R134). -/

namespace Sys2Proof.Machine

variable {s t : State} {b : Bank} {P : Prop}

/-- A SERVING converter of an enabled channel after its examination (R130). -/
def Converter.examined (x : Converter) : Converter :=
  if x.runEqual = true then
    if x.stuck + 1 < 2 then { x with stuck := x.stuck + 1 } else { x with stuck := 2, state := .faulted }
  else { x with stuck := 0 }

/-- A converter after the examination (R130). -/
def State.examinedConverter (s : State) (v : Conv) : Converter :=
  match s.channelOf v with
  | none => s.conv v
  | some c => if (s.conv v).state = .serving ∧ (s.chan c).settings.enable = true then (s.conv v).examined else s.conv v

/-- The entry of a converter's examination (R130, R134). -/
def State.stuckEntry (s : State) (period : Nat) (v : Conv) : List ConverterEntry :=
  match s.channelOf v with
  | none => []
  | some c => if s.FoundStuck c then [⟨.faulted, .stuck, v, some c, none, s.cap.number, period⟩] else []

theorem examine_turn (p : Nat) (s : State) (v : Conv) :
    (State.examine p s v).bank = s.bank.setConv v (s.examinedConverter v) ∧
      Logged s (State.examine p s v) (s.stuckEntry p v) := by
  have same : s.bank.setConv v (s.conv v) = s.bank := by
    simp only [Bank.setConv, State.bank, Function.update_eq_self]
  unfold State.examine State.examinedConverter State.stuckEntry
  cases hc : s.channelOf v with
  | none => exact ⟨same.symm, .refl s⟩
  | some c =>
    obtain ⟨-, map⟩ := channelOf_some hc
    simp only [State.FoundStuck, map]
    by_cases examined : (s.conv v).state = .serving ∧ (s.chan c).settings.enable = true
    · rw [if_pos examined, if_pos examined, Converter.examined]
      obtain ⟨serving, enabled⟩ := examined
      by_cases equal : (s.conv v).runEqual = true
      · rw [if_pos equal, if_pos equal]
        by_cases first : (s.conv v).stuck + 1 < 2
        · rw [if_pos first, if_pos first, if_neg (by omega)]
          exact ⟨bank_modConv s v _, .modConv s v _⟩
        · rw [if_neg first, if_neg first, if_pos ⟨serving, enabled, equal, by omega⟩]
          exact ⟨by rw [bank_addConverter, bank_modConv], .before (.modConv s v _) (.add _ _)⟩
      · rw [if_neg equal, if_neg equal, if_neg fun h => equal h.2.2.1]
        exact ⟨bank_modConv s v _, .modConv s v _⟩
    · rw [if_neg examined, if_neg examined, if_neg fun h => examined ⟨h.1, h.2.1⟩]
      exact ⟨same.symm, .refl s⟩

/-- What an examination of converters leads to. -/
structure Examination (s t : State) (p : Nat) (l : List Conv) : Prop where
  bank : t.bank = { s.bank with conv := fun v => if v ∈ l then s.examinedConverter v else s.conv v }
  logged : Logged s t (l.flatMap (s.stuckEntry p))

theorem examine_fold (p : Nat) : ∀ (l : List Conv) (s : State), l.Nodup →
    Examination s (l.foldl (State.examine p) s) p l
  | [], s, _ => ⟨rfl, .refl s⟩
  | v :: rest, s, nodup => by
    obtain ⟨new, nodup⟩ := List.nodup_cons.mp nodup
    obtain ⟨turn, entry⟩ := examine_turn p s v
    obtain ⟨bank, logged⟩ := examine_fold p rest (State.examine p s v) nodup
    have frame := TrimFrame.examine p s v
    rw [List.foldl_cons]
    generalize State.examine p s v = u at turn entry bank logged frame ⊢
    have settings (c : Chan) : (u.chan c).settings = (s.chan c).settings := by rw [frame.chan c]
    have convOf : u.convOf = s.convOf := (congrArg Bank.map turn :)
    have channelOf : u.channelOf = s.channelOf := by
      have built : u.trim.mapBuilt = s.trim.mapBuilt := (congrArg Bank.built turn :)
      unfold State.channelOf
      rw [built, convOf]
    have conv (w : Conv) : u.conv w = if w = v then s.examinedConverter v else s.conv w :=
      (congrFun (congrArg Bank.conv turn) w).trans (Function.update_apply _ _ _ _)
    have later {w : Conv} (hw : w ∈ rest) : u.examinedConverter w = s.examinedConverter w ∧
        u.stuckEntry p w = s.stuckEntry p w := by
      have other : w ≠ v := fun e => new (e ▸ hw)
      have stays : u.conv w = s.conv w := by rw [conv, if_neg other]
      unfold State.examinedConverter State.stuckEntry
      rw [channelOf]
      cases hc : s.channelOf w with
      | none => exact ⟨stays, rfl⟩
      | some c =>
        obtain ⟨-, map⟩ := channelOf_some hc
        simp only [State.FoundStuck, convOf, map, stays, settings, frame.cap, and_self]
    refine ⟨?_, ?_⟩
    · have all : (fun w => if w ∈ rest then u.examinedConverter w else u.conv w) =
          fun w => if w ∈ v :: rest then s.examinedConverter w else s.conv w := funext fun w => by
        by_cases hw : w ∈ rest
        · rw [if_pos hw, if_pos (List.mem_cons_of_mem v hw), (later hw).1]
        · rw [if_neg hw, conv]
          by_cases hv : w = v
          · rw [if_pos hv, if_pos (hv ▸ List.mem_cons_self), hv]
          · rw [if_neg hv, if_neg (by simp [hv, hw])]
      rw [bank, all, turn]
      rfl
    · rw [List.flatMap_cons]
      rw [List.flatMap_congr fun w hw => (later hw).2] at logged
      exact entry.trans logged

/-- The examination of every converter (R130). -/
theorem stuckExamination_result (s : State) (p : Nat) :
    (s.stuckExamination p).bank = { s.bank with conv := s.examinedConverter } ∧
      Logged s (s.stuckExamination p) ((List.finRange 26).flatMap (s.stuckEntry p)) := by
  obtain ⟨bank, logged⟩ := examine_fold p allConvs s (List.nodup_finRange 26)
  refine ⟨bank.trans ?_, logged⟩
  simp only [allConvs, List.mem_finRange, if_true]

/-- With no converter serving two channels the entries are those of the statements. -/
theorem stuckEntries_eq (built : s.trim.mapBuilt = true) (apart : ∀ c d, s.convOf c = s.convOf d → c = d) (p : Nat) :
    s.stuckEntries p = (List.finRange 26).flatMap (s.stuckEntry p) := by
  refine List.flatMap_congr fun v _ => ?_
  unfold State.stuckEntry
  cases hc : s.channelOf v with
  | none =>
    have none : ((List.finRange 24).filter fun c => s.convOf c = v ∧ s.FoundStuck c) = [] :=
      List.filter_eq_nil_iff.mpr fun c _ => by simpa using fun map => absurd map (channelOf_none hc built c)
    rw [none]
    rfl
  | some c =>
    obtain ⟨-, map⟩ := channelOf_some hc
    simp only []
    have only (d : Chan) : (s.convOf d = v ∧ s.FoundStuck d) ↔ (s.FoundStuck c ∧ d = c) := by
      constructor
      · rintro ⟨hd, stuck⟩
        obtain rfl := apart d c (hd.trans map.symm)
        exact ⟨stuck, rfl⟩
      · rintro ⟨stuck, rfl⟩
        exact ⟨map, stuck⟩
    simp only [only]
    split_ifs with stuck
    · have one : ((List.finRange 24).filter fun d => (s.FoundStuck c ∧ d = c)) = [c] := by
        rw [List.filter_congr fun d _ => decide_eq_decide.mpr (and_iff_right stuck), List.filter_eq, List.count_eq_one_of_mem (List.nodup_finRange 24) (List.mem_finRange c)]
        rfl
      rw [one]
      rfl
    · have none : ((List.finRange 24).filter fun d => (s.FoundStuck c ∧ d = c)) = [] :=
        List.filter_eq_nil_iff.mpr fun d _ => by simp [stuck]
      rw [none]
      rfl

end Sys2Proof.Machine
end

section
/-! SUPPORT. The trim unit at a boundary once a trim has ended, the converters are examined and the timer has risen, as the
statements about boundaries read it (R121, R125, R130). -/

namespace Sys2Proof.Machine

variable {s t : State} {b : Bank} {P : Prop}

/-! ## The end of a trim (R121) -/

theorem Engine.mean_eq (e : Engine) : trimResult e.kind e.sum = e.mean := by
  cases h : e.kind <;> simp [Engine.mean, trimResult_eq, h]

/-- A converter once the trim due is over (R121). -/
def State.rested (s : State) (v : Conv) : Converter :=
  match s.trim.engine with
  | some e => if e.remaining = 0 ∧ e.conv = v then (s.conv v).trimmed e.mean s.trim.trimClock else s.conv v
  | none => s.conv v

/-- The entry of a trim that ends out of range (R121, R134). -/
def State.trimEntries (s : State) (period : Nat) : List ConverterEntry :=
  (s.trim.engine.toList.filter fun e => e.EndsFaulted).map fun e =>
    ⟨.faulted, .trim, e.conv, none, none, s.cap.number, period⟩

theorem trimEnd_result (built : s.trim.mapBuilt = true) (p : Nat) :
    (if s.trimDue then s.completeTrim p else s).bank =
        { s.bank with conv := s.rested, engine := s.trim.engine.filter fun e => e.remaining ≠ 0 } ∧
      Logged s (if s.trimDue then s.completeTrim p else s) (s.trimEntries p) := by
  have due : s.trimDue = true ↔ ∃ e ∈ s.trim.engine, e.remaining = 0 := by
    unfold State.trimDue
    cases s.trim.engine <;> simp
  cases engine : s.trim.engine with
  | none =>
    have idle : ¬ s.trimDue = true := by simp [due, engine]
    rw [if_neg idle]
    have rested : s.rested = s.conv := funext fun v => by simp only [State.rested, engine]
    have entries : s.trimEntries p = [] := by simp [State.trimEntries, engine]
    rw [rested, entries]
    exact ⟨by simp only [State.bank, engine]; rfl, .refl s⟩
  | some e =>
    by_cases done : e.remaining = 0
    · have ends : s.trimDue = true := due.mpr ⟨e, engine, done⟩
      rw [if_pos ends]
      obtain ⟨bank, logged, -, -⟩ := completeTrim_built built engine p
      rw [e.mean_eq] at bank logged
      have rested : s.rested = Function.update s.conv e.conv ((s.conv e.conv).trimmed e.mean s.trim.trimClock) :=
        funext fun v => by
          simp only [State.rested, engine, done, true_and, Function.update_apply]
          split_ifs with h1 h2 h2
          · rw [h1]
          · exact absurd h1.symm h2
          · exact absurd h2.symm h1
          · rfl
      have entries : s.trimEntries p = if -24000 ≤ e.mean ∧ e.mean ≤ 24000 then []
          else [⟨.faulted, .trim, e.conv, none, none, s.cap.number, p⟩] := by
        split_ifs with range
        · have within : ¬ e.EndsFaulted := fun h => by have := h.2; omega
          simp [State.trimEntries, engine, within]
        · have beyond : e.EndsFaulted := ⟨done, by omega⟩
          simp [State.trimEntries, engine, beyond]
      rw [rested, entries]
      refine ⟨bank.trans ?_, logged⟩
      simp only [Bank.setConv, Option.filter_some, done]
      rfl
    · have runs : ¬ s.trimDue = true := by simp [due, engine, done]
      rw [if_neg runs]
      have rested : s.rested = s.conv := funext fun v => by simp only [State.rested, engine, done, false_and, if_false]
      have entries : s.trimEntries p = [] := by
        have running : ¬ e.EndsFaulted := fun h => done h.1
        simp [State.trimEntries, engine, running]
      rw [rested, entries]
      refine ⟨?_, .refl s⟩
      simp only [State.bank, engine, Option.filter_some, ne_eq, done, not_false_eq_true, decide_true, if_true]

/-! ## The state before the replacements -/

/-- The rotation and its timer once the timer has risen (R125). -/
def State.nextTimer (s : State) : Nat := satInc 180000 s.trim.timer
def State.nextRotation (s : State) : RotationState :=
  if s.trim.interval ≠ 0 ∧ s.trim.rotation = .idle ∧ s.trim.interval * 50 ≤ s.nextTimer then .due else s.trim.rotation

/-- The state of a boundary before its replacements, as the state in which the boundary began gives it (R121, R125,
R130). -/
structure Examined (s u : State) (p : Nat) : Prop where
  law : u.bank.Law False
  bank : u.bank = { s.bank with
    conv := u.conv, engine := s.trim.engine.filter fun e => e.remaining ≠ 0, rotation := s.nextRotation
    timer := s.nextTimer, handover := fun _ => false }
  assigned : ∀ c, u.conv (s.convOf c) = if (s.conv (s.convOf c)).state = .serving ∧ (s.chan c).settings.enable = true
    then (s.conv (s.convOf c)).examined else s.conv (s.convOf c)
  unassigned : ∀ v, (∀ c, s.convOf c ≠ v) → u.conv v = s.rested v
  logged : Logged s u (s.trimEntries p ++ s.stuckEntries p)
  cap : u.cap = s.cap
  settings : ∀ c, (u.chan c).settings = (s.chan c).settings
  limit : u.trim.limit = s.trim.limit

/-- A converter that serves a channel is not being trimmed. -/
theorem rested_assigned (law : s.bank.Law P) (built : s.trim.mapBuilt = true) (c : Chan) :
    s.rested (s.convOf c) = s.conv (s.convOf c) := by
  unfold State.rested
  cases engine : s.trim.engine with
  | none => rfl
  | some e =>
    refine if_neg fun h => ?_
    have trimming := (law.trimming e.conv).mpr (congrArg (Option.map Engine.conv) engine)
    rw [h.2] at trimming
    rcases law.assigned built c with state | state <;> exact nomatch trimming.symm.trans state

theorem channelOf_convOf (built : s.trim.mapBuilt = true) (apart : ∀ c d, s.convOf c = s.convOf d → c = d) (c : Chan) :
    s.channelOf (s.convOf c) = some c := by
  cases h : s.channelOf (s.convOf c) with
  | none => exact absurd rfl (channelOf_none h built c)
  | some d => rw [apart d c (channelOf_some h).2]

theorem bank_advanceTimer (s : State) :
    s.advanceTimer.bank = { s.bank with timer := s.nextTimer, rotation := s.nextRotation } := rfl

theorem examined_result {a : State} (law : s.bank.Law False) (built : s.trim.mapBuilt = true)
    (begun : ∃ ch, a = { s with chans := ch }) (marks : a.bank = { s.bank with handover := fun _ => false })
    (settings : ∀ c, (a.chan c).settings = (s.chan c).settings) (p : Nat) : Examined s (a.examined p) p := by
  have lawful : a.bank.Law False := marks ▸ law.unmarked
  have map : a.trim.mapBuilt = true := (congrArg Bank.built marks).trans built
  have next := law_examined lawful map p
  have first : TrimFrame a (if a.trimDue then a.completeTrim p else a) := by
    split_ifs
    · exact .completeTrim a p
    · exact .refl a
  have second := TrimFrame.stuckExamination (if a.trimDue then a.completeTrim p else a) p
  obtain ⟨rest, trimmed⟩ := trimEnd_result map p
  obtain ⟨examination, stuck⟩ := stuckExamination_result (if a.trimDue then a.completeTrim p else a) p
  have entries : a.trimEntries p = s.trimEntries p := by obtain ⟨ch, rfl⟩ := begun; rfl
  have rested : a.rested = s.rested := by obtain ⟨ch, rfl⟩ := begun; rfl
  have trim : a.trim = s.trim := by obtain ⟨ch, rfl⟩ := begun; rfl
  have cap : a.cap = s.cap := by obtain ⟨ch, rfl⟩ := begun; rfl
  unfold State.examined at next ⊢
  generalize (if a.trimDue then a.completeTrim p else a) = u at next first second rest trimmed examination stuck ⊢
  rw [marks, trim, rested] at rest
  rw [entries] at trimmed
  have fixed := second.fixed.trans (first.fixed.trans (congrArg TrimUnit.fixed trim))
  generalize u.stuckExamination p = w at next second examination stuck fixed ⊢
  have timer : w.trim.timer = s.trim.timer := (congrArg Bank.timer (examination.trans (by rw [rest])) :)
  have rotation : w.trim.rotation = s.trim.rotation := (congrArg Bank.rotation (examination.trans (by rw [rest])) :)
  have interval : w.trim.interval = s.trim.interval := (congrArg Prod.fst fixed :)
  have limit : w.trim.limit = s.trim.limit := (congrArg (fun x : Nat × Nat × Nat => x.2.1) fixed :)
  have nextTimer : w.nextTimer = s.nextTimer := by rw [State.nextTimer, timer]; rfl
  have nextRotation : w.nextRotation = s.nextRotation := by
    rw [State.nextRotation, nextTimer, interval, rotation]
    rfl
  have convOf : u.convOf = s.convOf := (congrArg Bank.map rest :)
  have mapped : u.trim.mapBuilt = true := (congrArg Bank.built rest).trans built
  have unrested (v : Conv) : u.conv v = s.rested v := (congrFun (congrArg Bank.conv rest) v :)
  have conv (v : Conv) : w.conv v = u.examinedConverter v := (congrFun (congrArg Bank.conv examination) v :)
  have same (c : Chan) : (u.chan c).settings = (s.chan c).settings := by rw [first.chan c, ← settings c]
  refine ⟨next.1, ?_, fun c => ?_, fun v hv => ?_, ?_, ?_, fun c => ?_, limit⟩
  · have all : w.advanceTimer.conv = u.examinedConverter := funext conv
    rw [all, bank_advanceTimer, nextTimer, nextRotation, examination, rest]
  · have own : u.channelOf (s.convOf c) = some c := by
      rw [← convOf]
      exact channelOf_convOf mapped (convOf ▸ law.apart built) c
    refine (conv _).trans ?_
    rw [State.examinedConverter, own]
    simp only [unrested, rested_assigned law built, same]
  · have own : u.channelOf v = none := channelOf_eq_none.mpr (.inr fun c => by rw [convOf]; exact hv c)
    refine (conv _).trans ?_
    rw [State.examinedConverter, own]
    exact unrested v
  · have equal : u.stuckEntries p = s.stuckEntries p := by
      have found (c : Chan) : u.FoundStuck c ↔ s.FoundStuck c := by
        simp only [State.FoundStuck, convOf, unrested, rested_assigned law built, same]
      have number : u.cap.number = s.cap.number := by rw [first.cap, cap]
      simp only [State.stuckEntries, convOf, found, number]
    rw [← stuckEntries_eq mapped (convOf ▸ law.apart built), equal] at stuck
    have entry : Logged a w.advanceTimer (s.trimEntries p ++ s.stuckEntries p) := (trimmed.trans stuck).after (.silent rfl rfl rfl)
    obtain ⟨ch, rfl⟩ := begun
    exact ⟨entry.events, entry.flag⟩
  · exact second.cap.trans (first.cap.trans cap)
  · have stays : w.advanceTimer.chan c = w.chan c := rfl
    rw [stays, ← same, second.chan c]

end Sys2Proof.Machine
end

section
/-! SUPPORT. The replacements of a boundary, from the state in which it began (R131, step 4). -/

namespace Sys2Proof.Machine

variable {s t u : State} {b : Bank} {P : Prop} {p : Nat}

theorem Examined.convOf (h : Examined s u p) : u.convOf = s.convOf := (congrArg Bank.map h.bank :)

theorem Examined.shadow (h : Examined s u p) : u.trim.shadow = s.trim.shadow := (congrArg Bank.shadow h.bank :)

/-- A channel stands on a FAULTED converter after the examination exactly when the statements call it faulty. -/
theorem Examined.faulty (h : Examined s u p) (c : Chan) : u.bank.faulty c ↔ s.Faulty c := by
  have conv : (u.bank.conv (u.bank.map c)) = u.conv (s.convOf c) := congrArg u.conv (congrFun h.convOf c)
  rw [Bank.faulty, conv, h.assigned c]
  simp only [State.Faulty, State.FoundStuck, Converter.examined]
  split_ifs with examined equal first
  · simp only [examined, equal, true_and]
    simp only [reduceCtorEq, false_or, false_iff]
    omega
  · simp only [examined, equal, true_and, true_iff]
    exact .inr (by omega)
  · simp [examined, equal]
  · constructor
    · exact .inl
    · rintro (state | found)
      · exact state
      · exact absurd ⟨found.1, found.2.1⟩ examined

theorem Examined.serving (h : Examined s u p) (built : s.trim.mapBuilt = true) {c : Chan} (sound : ¬ s.Faulty c) :
    (u.conv (s.convOf c)).state = .serving := by
  have assigned := h.law.assigned ((congrArg Bank.built h.bank).trans built) c
  have conv : (u.bank.conv (u.bank.map c)) = u.conv (s.convOf c) := congrArg u.conv (congrFun h.convOf c)
  rw [conv] at assigned
  refine assigned.resolve_right fun faulted => sound ((h.faulty c).mp ?_)
  rw [Bank.faulty, conv]
  exact faulted

/-- The SPARE converters at the replacements are those the statements name. -/
theorem Examined.spares (h : Examined s u p) (law : s.bank.Law False) (built : s.trim.mapBuilt = true) :
    u.bank.spares = s.spares := by
  refine List.filter_congr fun v _ => decide_eq_decide.mpr ?_
  have trimming := law.trimming v
  by_cases assigned : ∃ c, s.convOf c = v
  · obtain ⟨c, rfl⟩ := assigned
    have before := law.assigned built c
    have after : (u.conv (s.convOf c)).state ≠ .spare := by
      have assigned := h.law.assigned ((congrArg Bank.built h.bank).trans built) c
      have conv : (u.bank.conv (u.bank.map c)) = u.conv (s.convOf c) := congrArg u.conv (congrFun h.convOf c)
      rw [conv] at assigned
      intro e
      rcases assigned with state | state <;> exact nomatch e.symm.trans state
    refine iff_of_false after ?_
    rintro (state | ⟨e, engine, same, -⟩)
    · rcases before with state' | state' <;> exact nomatch state.symm.trans state'
    · have state := trimming.mpr ((congrArg (Option.map Engine.conv) engine).trans (congrArg some same))
      rcases before with state' | state' <;> exact nomatch state.symm.trans state'
  · have conv : u.bank.conv v = s.rested v := h.unassigned v fun c hc => assigned ⟨c, hc⟩
    rw [conv, State.rested]
    cases engine : s.trim.engine with
    | none => simp
    | some e =>
      simp only [Option.mem_def, Option.some.injEq, exists_eq_left']
      split_ifs with ends
      · obtain ⟨done, rfl⟩ := ends
        have state : (s.conv e.conv).state ≠ .spare := fun state =>
          nomatch state.symm.trans (trimming.mpr (congrArg (Option.map Engine.conv) engine))
        simp only [Converter.trimmed, state, Engine.EndsInRange, done, true_and, false_or]
        split_ifs with range <;> simp [range]
      · refine ⟨.inl, fun h => h.resolve_right ?_⟩
        rintro ⟨rfl, done, -⟩
        exact ends ⟨done, rfl⟩

/-! ## The replacements -/

theorem Bank.rest_assign (q : RotationState) (bad : List Chan) (helpers : List Conv) :
    ∀ b : Bank, (b.assign bad helpers).rest q = (b.rest q).assign bad helpers := by
  induction bad generalizing helpers with
  | nil => exact fun _ => rfl
  | cons c more ih =>
    intro b
    cases helpers with
    | nil => exact ih [] (b.join c)
    | cons v rest => exact ih rest (b.give c v)

theorem Bank.shadowing_assign (bad : List Chan) (helpers : List Conv) :
    ∀ b : Bank, (b.assign bad helpers).shadowing = b.shadowing := by
  induction bad generalizing helpers with
  | nil => exact fun _ => rfl
  | cons c more ih =>
    intro b
    cases helpers with
    | nil => exact ih [] (b.join c)
    | cons v rest => exact ih rest (b.give c v)

theorem turns_nodup (enabled : Chan → Bool) : (turns enabled).Nodup := by
  refine (((List.nodup_finRange 24).filter _).append ((List.nodup_finRange 24).filter _)) fun c on off => ?_
  rw [List.mem_filter] at on off
  have on := on.2
  have off := off.2
  simp_all

/-- The entry of a target's replacement (R131, R134). -/
def State.targetEntries (s : State) (period : Nat) : List ConverterEntry :=
  (s.trim.shadow.toList.filter fun r => s.Faulty r.channel).map fun r =>
    ⟨.handover, .unmatched, r.spare, some r.channel, some r.target, s.cap.number, period⟩

/-- The replacements of a boundary, by what they find of the rotation (R131). -/
structure Replacements (s u x : State) (p : Nat) : Prop where
  plain : s.trim.shadow = none → x.bank = u.bank.assign s.waiting s.spares
  target : ∀ r, s.trim.shadow = some r → s.Faulty r.channel →
    x.bank = (u.bank.assign (r.channel :: s.waiting) (r.spare :: s.spares)).rest .idle
  taken : ∀ r, s.trim.shadow = some r → ¬ s.Faulty r.channel → s.spares.length < s.waiting.length →
    x.bank = { (u.bank.assign s.waiting (s.spares ++ [r.spare])).rest .due with named := none }
  held : ∀ r, s.trim.shadow = some r → ¬ s.Faulty r.channel → s.waiting.length ≤ s.spares.length →
    x.bank = u.bank.assign s.waiting (s.spares ++ [r.spare])
  logged : Logged u x (s.targetEntries p ++ s.replacementEntries s.waiting s.helpers s.cap.number p)

/-- Step 4 begins with the rotation's target. -/
structure TargetReplaced (s u w : State) (p : Nat) : Prop where
  bank : w.bank = match s.trim.shadow with
    | some r => if s.Faulty r.channel then (u.bank.give r.channel r.spare).rest .idle else u.bank
    | none => u.bank
  logged : Logged u w (s.targetEntries p)

theorem Examined.replaceTarget (h : Examined s u p) : TargetReplaced s u (u.replaceTarget p) p := by
  unfold State.replaceTarget
  rw [shadowing_eq h.law, h.shadow]
  cases shadow : s.trim.shadow with
  | none =>
    have entries : s.targetEntries p = [] := by simp [State.targetEntries, shadow]
    exact ⟨by rw [shadow], entries ▸ .refl u⟩
  | some r =>
    have map : s.convOf r.channel = r.target := h.convOf ▸ (h.law.held r (h.shadow.trans shadow)).2.2
    have faulted : (u.conv r.target).state = .faulted ↔ s.Faulty r.channel := by
      rw [← h.faulty, ← map, ← h.convOf]
      rfl
    simp only []
    by_cases faulty : s.Faulty r.channel
    · have entries : s.targetEntries p =
          [⟨.handover, .unmatched, r.spare, some r.channel, some r.target, s.cap.number, p⟩] := by
        simp [State.targetEntries, shadow, faulty]
      rw [if_pos (faulted.mpr faulty)]
      refine ⟨?_, ?_⟩
      · rw [shadow]
        simp only [if_pos faulty]
        rw [bank_endRotation, bank_handOver]
      · have logged := (Logged.handOver u p r.channel r.spare .unmatched).after (.endRotation _ .idle)
        rw [h.convOf, map, h.cap] at logged
        rw [entries]
        exact logged
    · have entries : s.targetEntries p = [] := by simp [State.targetEntries, shadow, faulty]
      rw [if_neg fun e => faulty (faulted.mp e)]
      refine ⟨?_, entries ▸ .refl u⟩
      rw [shadow]
      simp only [if_neg faulty]

/-- What the replacements after the target's find. -/
structure TargetSettled (s w : State) : Prop where
  bad : ((turns fun c => (s.newSettings c).enable).filter fun c => w.bank.faulty c) = s.waiting
  aid : w.bank.aid = s.helpers
  spares : w.bank.spares = s.spares
  entries : ∀ c ∈ s.waiting, w.convOf c = s.convOf c ∧ (w.chan c).noSpare = (s.chan c).noSpare

theorem mem_waiting {c : Chan} (h : c ∈ s.waiting) : s.Faulty c ∧ ∀ r ∈ s.trim.shadow, r.channel ≠ c := by
  simpa using (List.mem_filter.mp h).2

theorem Bank.aid_idle (h : b.shadow = none) : b.aid = b.spares ∧ ∀ bad, b.replaced bad = b.assign bad b.spares := by
  have idle : b.shadowing = none := by rw [Bank.shadowing, h, ite_self]
  have aid : b.aid = b.spares := by rw [Bank.aid, idle]; exact List.append_nil _
  refine ⟨aid, fun bad => ?_⟩
  have still : b.yield = b := by rw [Bank.yield, idle]
  rw [Bank.replaced, Bank.yield_assign, still, ite_self, aid]

theorem helpers_none (shadow : s.trim.shadow = none) : s.helpers = s.spares := by
  rw [State.helpers, shadow]
  exact List.append_nil _

theorem helpers_some {r : Shadow} (shadow : s.trim.shadow = some r) :
    s.helpers = if s.Faulty r.channel then s.spares else s.spares ++ [r.spare] := by
  rw [State.helpers, shadow]
  split_ifs with faulty
  · have none : ((some r).toList.filter fun r => ¬ s.Faulty r.channel) = [] :=
      List.filter_cons_of_neg (decide_eq_false (not_not.mpr faulty) ▸ Bool.false_ne_true)
    rw [none]
    exact List.append_nil _
  · have one : ((some r).toList.filter fun r => ¬ s.Faulty r.channel) = [r] :=
      List.filter_cons_of_pos (decide_eq_true faulty)
    rw [one]
    rfl

theorem Examined.settled (h : Examined s u p) (law : s.bank.Law False) (built : s.trim.mapBuilt = true) {w : State}
    (target : TargetReplaced s u w p) : TargetSettled s w := by
  have spares := h.spares law built
  have noSpare (c : Chan) : u.bank.noSpare c = (s.chan c).noSpare := (congrFun (congrArg Bank.noSpare h.bank) c :)
  have map (c : Chan) : u.bank.map c = s.convOf c := congrFun h.convOf c
  have bank := target.bank
  cases shadow : s.trim.shadow with
  | none =>
    rw [shadow] at bank
    simp only [] at bank
    have free : u.bank.shadow = none := h.shadow.trans shadow
    refine ⟨?_, ?_, by rw [bank, spares], fun c _ => ?_⟩
    · rw [bank]
      exact List.filter_congr fun c _ => decide_eq_decide.mpr (by rw [h.faulty, shadow]; simp)
    · rw [bank, (Bank.aid_idle free).1, spares, helpers_none shadow]
    · exact ⟨(congrFun (congrArg Bank.map bank) c).trans (map c), (congrFun (congrArg Bank.noSpare bank) c).trans (noSpare c)⟩
  | some r =>
    have held : u.bank.shadow = some r := h.shadow.trans shadow
    have spare : (u.bank.conv r.spare).state = .shadow := (h.law.shadowed r.spare).mpr (congrArg (Option.map Shadow.spare) held)
    rw [shadow] at bank
    simp only [] at bank
    by_cases faulty : s.Faulty r.channel
    · rw [if_pos faulty] at bank
      have free : w.bank.shadow = none := congrArg Bank.shadow bank
      have other {c : Chan} (hc : c ≠ r.channel) : w.bank.map c = s.convOf c ∧ w.bank.noSpare c = (s.chan c).noSpare := by
        rw [bank]
        exact ⟨(Function.update_of_ne hc _ _).trans (map c), (Function.update_of_ne hc _ _).trans (noSpare c)⟩
      have same : w.bank.spares = u.bank.spares := by
        refine List.filter_congr fun v _ => decide_eq_decide.mpr ?_
        rw [bank]
        simp only [Bank.rest, Bank.give, Function.update_apply]
        split_ifs with e
        · rw [e, spare]
          simp
        · rfl
      refine ⟨?_, ?_, same.trans spares, fun c hc => other fun e => (mem_waiting hc).2 r shadow e.symm⟩
      · refine List.filter_congr fun c _ => decide_eq_decide.mpr ?_
        simp only [shadow, Option.mem_def, Option.some.injEq, forall_eq']
        by_cases hc : c = r.channel
        · rw [hc, bank]
          have served : ((u.bank.give r.channel r.spare).conv ((u.bank.give r.channel r.spare).map r.channel)).state = .serving := by
            simp only [Bank.give, Function.update_self]
          exact iff_of_false (fun e => nomatch served.symm.trans e) fun e => e.2 rfl
        · have kept : w.bank.faulty c ↔ u.bank.faulty c := by
            rw [bank]
            exact Bank.faulty_give (by rw [spare]; nofun) hc
          rw [kept, h.faulty]
          exact ⟨fun e => ⟨e, fun e => hc e.symm⟩, And.left⟩
      · rw [(Bank.aid_idle free).1, same, spares, helpers_some shadow, if_pos faulty]
    · rw [if_neg faulty] at bank
      have rotation : u.bank.rotation = .shadowing := h.law.rotates.mpr (congrArg Option.isSome held)
      refine ⟨?_, ?_, by rw [bank, spares], fun c _ => ?_⟩
      · rw [bank]
        refine List.filter_congr fun c _ => decide_eq_decide.mpr ?_
        rw [h.faulty, shadow]
        simp only [Option.mem_def, Option.some.injEq, forall_eq']
        exact ⟨fun hc => ⟨hc, fun e => faulty (e ▸ hc)⟩, And.left⟩
      · rw [bank, Bank.aid, Bank.shadowing, if_pos rotation, held, spares, helpers_some shadow, if_neg faulty]
        rfl
      · exact ⟨(congrFun (congrArg Bank.map bank) c).trans (map c), (congrFun (congrArg Bank.noSpare bank) c).trans (noSpare c)⟩

theorem Examined.replacements (h : Examined s u p) (law : s.bank.Law False) (built : s.trim.mapBuilt = true) :
    Replacements s u (u.replaceFaulted p s.enabledNext) p := by
  have target := h.replaceTarget
  have ⟨bad, aid, spares, entries⟩ := h.settled law built target
  have ⟨lawful, _, _⟩ := sound_replaceTarget p h.law ((congrArg Bank.built h.bank).trans built)
  have cap : (u.replaceTarget p).cap = s.cap := (TrimFrame.replaceTarget u p).cap.trans h.cap
  have fold := replace_fold p (turns fun c => (s.newSettings c).enable) (u.replaceTarget p) ?_ fun r hr => ?_
  · obtain ⟨bank, logged⟩ := fold
    rw [bad] at bank logged
    change Replacements s u ((turns fun c => (s.newSettings c).enable).foldl (State.replace p) (u.replaceTarget p)) p
    rw [aid, cap, replacementEntries_congr entries] at logged
    have begun := target.bank
    generalize u.replaceTarget p = w at *
    generalize (turns fun c => (s.newSettings c).enable).foldl (State.replace p) w = x at *
    refine ⟨fun shadow => ?_, fun r shadow faulty => ?_, fun r shadow sound more => ?_, fun r shadow sound enough => ?_,
      target.logged.trans logged⟩ <;> rw [shadow] at begun <;> simp only [] at begun
    · have free : w.bank.shadow = none := by rw [begun]; exact h.shadow.trans shadow
      rw [bank, (Bank.aid_idle free).2, spares, begun]
    · rw [if_pos faulty] at begun
      have free : w.bank.shadow = none := congrArg Bank.shadow begun
      rw [bank, (Bank.aid_idle free).2, spares, begun, ← Bank.rest_assign]
      rfl
    · rw [if_neg sound] at begun
      have given : (u.bank.assign s.waiting (s.spares ++ [r.spare])).shadowing = some r := by
        have rotation := h.law.rotates.mpr (congrArg Option.isSome (h.shadow.trans shadow))
        rw [Bank.shadowing_assign, Bank.shadowing, if_pos rotation]
        exact h.shadow.trans shadow
      rw [bank, Bank.replaced, spares, if_pos more, aid, helpers_some shadow, if_neg sound, begun, Bank.yield_some given]
    · rw [if_neg sound] at begun
      rw [bank, Bank.replaced, spares, if_neg (by omega), aid, helpers_some shadow, if_neg sound, begun]
  · exact turns_nodup _
  · have rotating : (u.replaceTarget p).bank.shadow = some r := (shadowing_some (s := u.replaceTarget p) hr).2
    exact (lawful.shadowed r.spare).mpr (congrArg (Option.map Shadow.spare) rotating)

end Sys2Proof.Machine
end

section
/-! SUPPORT. What the trim unit's work after the examination may move, and what it leaves (R126, R128, R131, R133). -/

namespace Sys2Proof.Machine

variable {s t u : State} {b b' : Bank} {P : Prop} {p : Nat} {E : Chan → Prop}

/-- A converter a channel may take, or a rotation may hold: a SPARE one, or the one in SHADOW. -/
def Bank.free (b : Bank) (v : Conv) : Prop := (b.conv v).state = .spare ∨ (b.conv v).state = .shadow

/-- What the work of one boundary has moved: channels take free converters, each with its mark, and a converter keeps all but
its state and its stuck count. The channels `E` may lose a SERVING converter. -/
structure Moved (E : Chan → Prop) (b b' : Bank) : Prop where
  map : ∀ c, (b'.map c = b.map c ∧ b'.handover c = false) ∨ (b.free (b'.map c) ∧ b'.handover c = true)
  shadow : ∀ r ∈ b'.shadow, b.free r.spare
  kept : ∀ v, b'.conv v = { b.conv v with state := (b'.conv v).state, stuck := (b'.conv v).stuck }
  assigned : ∀ c, (b'.conv (b.map c)).stuck = (b.conv (b.map c)).stuck
  unassigned : ∀ v, (∀ c, b.map c ≠ v) → (b'.conv v).stuck = if ∃ c, b'.map c = v then 0 else (b.conv v).stuck
  still : ∀ c, ¬ E c → (b'.conv (b.map c)).state = (b.conv (b.map c)).state
  idle : ∀ v, (∀ c, b.map c ≠ v) → (∀ c, b'.map c ≠ v) → (∀ r ∈ b'.shadow, r.spare ≠ v) → (b.conv v).state ≠ .shadow →
    (b'.conv v).state = (b.conv v).state
  spare : ∀ v, (b'.conv v).state = .spare → (b.conv v).state = .spare

theorem Bank.Law.free_unassigned (h : b.Law P) (built : b.built = true) {v : Conv} (free : b.free v) (c : Chan) :
    b.map c ≠ v := by
  rintro rfl
  rcases h.assigned built c with state | state <;> rcases free with state' | state' <;> exact nomatch state.symm.trans state'

namespace Moved

theorem refl (law : b.Law P) (marks : b.handover = fun _ => false) : Moved E b b where
  map c := .inl ⟨rfl, congrFun marks c⟩
  shadow r hr := .inr ((law.shadowed r.spare).mpr (congrArg (Option.map Shadow.spare) hr))
  kept _ := rfl
  assigned _ := rfl
  unassigned _ hv := (if_neg fun h => hv h.choose h.choose_spec).symm
  still _ _ := rfl
  idle _ _ _ _ _ := rfl
  spare _ := id

/-- Channel `c` takes a free converter that is not yet another's. -/
theorem give (h : Moved E b b') (law : b.Law P) (built : b.built = true) {c : Chan} {v : Conv} (own : b'.map c = b.map c)
    (free : b.free v) : Moved E b (b'.give c v) := by
  have hv := law.free_unassigned built free
  obtain ⟨map, shadow, kept, assigned, loose, still, idle, spare⟩ := h
  constructor <;> simp only [Bank.give, Function.update_apply]
  case unassigned =>
    intro w hw
    by_cases same : w = v
    · rw [if_pos same, if_pos ⟨c, (if_pos rfl).trans same.symm⟩]
    · have serves : (∃ d, (if d = c then v else b'.map d) = w) ↔ ∃ d, b'.map d = w := by
        refine ⟨fun ⟨d, hd⟩ => ?_, fun ⟨d, hd⟩ => ⟨d, ?_⟩⟩
        · split_ifs at hd with e
          · exact absurd hd.symm same
          · exact ⟨d, hd⟩
        · rw [if_neg fun e : d = c => hw c (own.symm.trans (e ▸ hd))]
          exact hd
      rw [if_neg same, loose w hw]
      simp only [serves]
  all_goals grind

theorem join (h : Moved E b b') (c : Chan) : Moved E b (b'.join c) :=
  ⟨h.map, h.shadow, h.kept, h.assigned, h.unassigned, h.still, h.idle, h.spare⟩

/-- The state alone of a converter changes. -/
theorem of_state (h : Moved E b b') {v : Conv} {x : ConvState} (hx : x ≠ .spare) {d : Bank} (conv : d.conv =
      Function.update b'.conv v { b'.conv v with state := x }) (map : d.map = b'.map) (handover : d.handover = b'.handover)
    (shadow : ∀ r ∈ d.shadow, b.free r.spare) (still : ∀ c, ¬ E c → b.map c ≠ v)
    (idle : ∀ w, (∀ c, b.map c ≠ w) → (∀ c, d.map c ≠ w) → (∀ r ∈ d.shadow, r.spare ≠ w) → (b.conv w).state ≠ .shadow →
      (d.conv w).state = (b.conv w).state) : Moved E b d := by
  have stuck (w : Conv) : (d.conv w).stuck = (b'.conv w).stuck := by
    rw [conv, Function.update_apply]
    split_ifs with e
    · rw [e]
    · rfl
  refine ⟨fun c => by rw [map, handover]; exact h.map c, shadow, fun w => ?_, fun c => (stuck _).trans (h.assigned c),
    fun w hw => ?_, fun c hc => ?_, idle, fun w hw => ?_⟩
  · rw [stuck, conv, Function.update_apply]
    split_ifs with e
    · rw [e, h.kept v]
    · exact h.kept w
  · rw [stuck, h.unassigned w hw, map]
  · rw [conv, Function.update_of_ne (still c hc)]
    exact h.still c hc
  · rw [conv, Function.update_apply] at hw
    split_ifs at hw
    · exact absurd hw hx
    · exact h.spare w hw

/-- The state of the one in SHADOW changes, or that of a converter a channel may lose. -/
theorem turn (h : Moved E b b') (law : b.Law P) (built : b.built = true) {v : Conv}
    (change : (b.conv v).state = .shadow ∨ ∃ c, E c ∧ b.map c = v) {x : ConvState}
    (hx : x ≠ .spare) : Moved E b (b'.setConv v { b'.conv v with state := x }) := by
  refine h.of_state hx rfl rfl rfl h.shadow (fun c hc e => ?_) fun w free loose held shadow => ?_
  · rcases change with shadow | ⟨d, hd, map⟩
    · exact law.free_unassigned built (.inr shadow) c e
    · exact hc (law.apart built c d (e.trans map.symm) ▸ hd)
  · have other : w ≠ v := by
      rintro rfl
      rcases change with e | ⟨c, -, map⟩
      · exact shadow e
      · exact free c map
    simp only [Bank.setConv, Function.update_of_ne other]
    exact h.idle w free loose held shadow

/-- A rotation begins with a SPARE converter. -/
theorem begin (h : Moved E b b') (law : b.Law P) (built : b.built = true) {v w : Conv} {c : Chan}
    (spare : (b.conv v).state = .spare) (none : ∀ r ∈ b'.shadow, (b.conv r.spare).state = .shadow) :
    Moved E b { b'.setConv v { b'.conv v with state := .shadow } with
      rotation := .shadowing, shadow := some ⟨v, w, c⟩, matchSum := 0, named := Option.none, timer := 0 } := by
  refine h.of_state (x := .shadow) nofun rfl rfl rfl (fun r hr => ?_) (fun c _ => law.free_unassigned built (.inl spare) c)
    fun z free loose held shadow => ?_
  · obtain rfl := Option.some.inj hr
    exact .inl spare
  · have other : z ≠ v := fun e => held _ rfl e.symm
    simp only [Bank.setConv, Function.update_of_ne other]
    exact h.idle z free loose (fun r hr e => shadow (e ▸ none r hr)) shadow

/-- Engine, timer, match sum and the other marks are not read; a rotation may be over. -/
theorem fields (h : Moved E b b') {d : Bank} (conv : d.conv = b'.conv) (map : d.map = b'.map) (handover : d.handover = b'.handover)
    (shadow : d.shadow = b'.shadow ∨ d.shadow = none ∧ ∀ r ∈ b'.shadow, (b.conv r.spare).state = .shadow) : Moved E b d := by
  refine ⟨fun c => by rw [map, handover]; exact h.map c, fun r hr => ?_, fun v => by rw [conv]; exact h.kept v,
    fun c => by rw [conv]; exact h.assigned c, fun v hv => by rw [conv, map]; exact h.unassigned v hv,
    fun c hc => by rw [conv]; exact h.still c hc, fun v free loose held other => ?_, fun v hv => h.spare v (by rwa [conv] at hv)⟩
  · rcases shadow with e | ⟨e, -⟩ <;> rw [e] at hr
    · exact h.shadow r hr
    · cases hr
  · rw [conv]
    rw [map] at loose
    refine h.idle v free loose (fun r hr => ?_) other
    rcases shadow with e | ⟨-, spare⟩
    · exact held r (e ▸ hr)
    · exact fun e => other (e ▸ spare r hr)

/-- The channels `bad` take free converters in turn. -/
theorem assign (law : b.Law P) (built : b.built = true) : ∀ (bad : List Chan) (helpers : List Conv) {b' : Bank},
    Moved E b b' → bad.Nodup → (∀ c ∈ bad, b'.map c = b.map c) → (∀ v ∈ helpers, b.free v) →
    Moved E b (b'.assign bad helpers)
  | [], _, _, h, _, _, _ => h
  | c :: rest, [], _, h, nodup, own, free => by
    obtain ⟨-, nodup⟩ := List.nodup_cons.mp nodup
    exact assign law built rest [] (h.join c) nodup (fun d hd => own d (List.mem_cons_of_mem c hd)) free
  | c :: rest, v :: more, _, h, nodup, own, free => by
    obtain ⟨apart, nodup⟩ := List.nodup_cons.mp nodup
    refine assign law built rest more (h.give law built (own c List.mem_cons_self) (free v List.mem_cons_self)) nodup (fun d hd => ?_)
      fun w hw => free w (List.mem_cons_of_mem v hw)
    have other : d ≠ c := fun e => apart (e ▸ hd)
    simp only [Bank.give, Function.update_of_ne other]
    exact own d (List.mem_cons_of_mem c hd)

end Moved

end Sys2Proof.Machine
end

section
/-! SUPPORT. The whole work of a boundary on the converters (R126, R128, R131): what each channel and each converter has in the end,
from the state in which the boundary began. -/

namespace Sys2Proof.Machine

variable {s t u x : State} {b b' : Bank} {P : Prop} {p : Nat}

/-! ## After the replacements -/

theorem waiting_nodup (s : State) : s.waiting.Nodup := (turns_nodup _).filter _

/-- What stands of the channels that wait for a replacement, and of those that do not (R131, R132). -/
structure Placed (s : State) (b b' : Bank) : Prop where
  given : ∀ (i : Nat) c v, s.waiting[i]? = some c → s.helpers[i]? = some v → b'.map c = v ∧
    b'.conv v = { b.conv v with state := .serving, stuck := 0 } ∧
    b'.handover c = true ∧ b'.mismatch c = 0 ∧ b'.noSpare c = false
  left : ∀ (i : Nat) c, s.waiting[i]? = some c → s.helpers[i]? = none →
    b'.map c = b.map c ∧ b'.handover c = b.handover c ∧ b'.mismatch c = b.mismatch c ∧ b'.noSpare c = true
  others : ∀ c, c ∉ s.waiting → (∀ r ∈ s.trim.shadow, r.channel ≠ c) →
    b'.map c = b.map c ∧ b'.handover c = b.handover c ∧ b'.mismatch c = b.mismatch c ∧ b'.noSpare c = b.noSpare c

theorem Examined.spare_apart (h : Examined s u p) (law : s.bank.Law False) (built : s.trim.mapBuilt = true) {r : Shadow}
    (shadow : s.trim.shadow = some r) : (u.conv r.spare).state = .shadow ∧ r.spare ∉ s.spares := by
  have state : (u.conv r.spare).state = .shadow :=
    (h.law.shadowed r.spare).mpr (congrArg (Option.map Shadow.spare) (h.shadow.trans shadow))
  refine ⟨state, fun spare => ?_⟩
  rw [← h.spares law built, Bank.spares, List.mem_filter] at spare
  have spare : (u.conv r.spare).state = .spare := of_decide_eq_true spare.2
  exact nomatch state.symm.trans spare

theorem spares_nodup (s : State) : s.spares.Nodup := (List.nodup_finRange 26).filter _

theorem Placed.of_assigned (h : Assigned b b' s.waiting s.helpers) : Placed s b b' :=
  ⟨h.given, h.left, fun c hc _ => h.others c hc⟩

theorem Examined.helpers_nodup (h : Examined s u p) (law : s.bank.Law False) (built : s.trim.mapBuilt = true) :
    s.helpers.Nodup := by
  cases shadow : s.trim.shadow with
  | none => exact helpers_none shadow ▸ spares_nodup s
  | some r =>
    rw [helpers_some shadow]
    split_ifs
    · exact spares_nodup s
    · refine List.nodup_append.mpr ⟨spares_nodup s, List.nodup_singleton _, fun v hv w hw => ?_⟩
      rw [List.mem_singleton.mp hw]
      exact fun e => (h.spare_apart law built shadow).2 (e ▸ hv)

theorem Examined.placed (h : Examined s u p) (law : s.bank.Law False) (built : s.trim.mapBuilt = true)
    (replaced : Replacements s u x p) : Placed s u.bank x.bank := by
  have plain := assign_result (waiting_nodup s) (h.helpers_nodup law built) u.bank
  cases shadow : s.trim.shadow with
  | none =>
    rw [replaced.plain shadow, ← helpers_none shadow]
    exact .of_assigned plain
  | some r =>
    by_cases faulty : s.Faulty r.channel
    · have helpers : s.helpers = s.spares := by rw [helpers_some shadow, if_pos faulty]
      have new : r.channel ∉ s.waiting := fun mem => (mem_waiting mem).2 r shadow rfl
      have all := assign_result (List.nodup_cons.mpr ⟨new, waiting_nodup s⟩)
        (List.nodup_cons.mpr ⟨(h.spare_apart law built shadow).2, spares_nodup s⟩) u.bank
      rw [replaced.target r shadow faulty]
      refine ⟨fun i c v hc hv => all.given (i + 1) c v hc (helpers ▸ hv), fun i c hc none => all.left (i + 1) c hc (helpers ▸ none),
        fun c hc other => all.others c ?_⟩
      rw [List.mem_cons, not_or]
      exact ⟨fun e => other r shadow e.symm, hc⟩
    · have helpers : s.helpers = s.spares ++ [r.spare] := by rw [helpers_some shadow, if_neg faulty]
      rw [helpers] at plain
      have placed : Placed s u.bank (u.bank.assign s.waiting (s.spares ++ [r.spare])) := .of_assigned (helpers ▸ plain)
      by_cases more : s.spares.length < s.waiting.length
      · rw [replaced.taken r shadow faulty more]
        exact ⟨placed.given, placed.left, placed.others⟩
      · rw [replaced.held r shadow faulty (by omega)]
        exact placed

/-! ## The match and the beginning of a rotation -/

/-- What the end of one rotation and the beginning of the next leave: all channels but the rotation's own, and the converters
that serve them. -/
structure Settled (R : Option Shadow) (b b' : Bank) : Prop where
  chan : ∀ c, (∀ r ∈ R, r.channel ≠ c) →
    b'.map c = b.map c ∧ b'.handover c = b.handover c ∧ b'.mismatch c = b.mismatch c ∧ b'.noSpare c = b.noSpare c
  serving : ∀ v, (b.conv v).state = .serving → (∀ r ∈ R, r.target ≠ v) → b'.conv v = b.conv v

theorem settled_match (law : x.bank.Law P) (p : Nat) : Settled x.trim.shadow x.bank (x.evaluateMatch p).bank := by
  rw [bank_evaluateMatch law]
  cases shadow : x.trim.shadow with
  | none => exact ⟨fun c _ => ⟨rfl, rfl, rfl, rfl⟩, fun v _ _ => rfl⟩
  | some r =>
    have spare : (x.conv r.spare).state = .shadow := (law.shadowed r.spare).mpr (congrArg (Option.map Shadow.spare) shadow)
    refine ⟨fun c hc => ?_, fun v serving hv => ?_⟩
    · have other : c ≠ r.channel := fun e => hc r rfl e.symm
      simp only []
      split_ifs <;> simp only [Bank.give, Bank.trim, Bank.rest, Bank.setConv, Function.update_of_ne other, and_self]
    · have notSpare : v ≠ r.spare := fun e => nomatch (e ▸ serving).symm.trans spare
      have notTarget : v ≠ r.target := fun e => hv r rfl e.symm
      simp only []
      split_ifs <;> simp only [Bank.give, Bank.trim, Bank.rest, Bank.setConv, Function.update_of_ne notSpare,
        Function.update_of_ne notTarget]

theorem settled_begin (x : State) (enabled : Chan → Bool) : Settled none x.bank (x.beginRotation enabled).bank := by
  rcases beginRotation_cases x enabled with e | e | ⟨v, t, c, -, -, lowest, -, -, e⟩ <;> rw [e]
  · exact ⟨fun c _ => ⟨rfl, rfl, rfl, rfl⟩, fun v _ _ => rfl⟩
  · exact ⟨fun c _ => ⟨rfl, rfl, rfl, rfl⟩, fun v _ _ => rfl⟩
  · rw [bank_begun]
    refine ⟨fun c _ => ⟨rfl, rfl, rfl, rfl⟩, fun w serving _ => Function.update_of_ne ?_ _ _⟩
    rintro rfl
    exact nomatch (lowestSpare_some lowest).symm.trans serving

end Sys2Proof.Machine
end

section
/-! SUPPORT. The trim unit's work of a whole boundary, from the state in which it began (R121 to R133). -/

namespace Sys2Proof.Machine

variable {s t u x z : State} {b b' : Bank} {P : Prop} {p : Nat}

/-- The channel of a rotation whose target is not faulty: its converter may be relieved (R128). -/
def State.relieved (s : State) (c : Chan) : Prop := ∃ r ∈ s.trim.shadow, r.channel = c ∧ ¬ s.Faulty c

/-- The entries of a match (R128, R134). -/
def State.matchEntries (s : State) (period : Nat) : List ConverterEntry :=
  (s.trim.shadow.toList.filter fun r => ¬ s.Faulty r.channel ∧ s.waiting.length ≤ s.spares.length).flatMap fun r =>
    if s.trim.matchSum ≤ s.trim.limit * 320 then
      [⟨.handover, .rotation, r.spare, some r.channel, some r.target, s.cap.number, period⟩]
    else if (s.chan r.channel).mismatch = 0 then []
    else [⟨.faulted, .mismatch, r.target, some r.channel, none, s.cap.number, period⟩,
      ⟨.handover, .mismatch, r.spare, some r.channel, some r.target, s.cap.number, period⟩]

/-- What the examination and the replacements leave, as the rest of the boundary reads it. -/
structure Replaced (s u x : State) (p : Nat) : Prop where
  examined : Examined s u p
  before : s.bank.Law False
  calm : s.bank.Calm
  built : s.trim.mapBuilt = true
  found : Replacements s u x p
  law : x.bank.Law False
  cap : x.cap = s.cap
  limit : x.trim.limit = s.trim.limit

theorem option_toList_filter {α : Type} (o : Option α) (q : α → Bool) : o.toList.filter q = (o.filter q).toList := by
  cases o with
  | none => rfl
  | some a =>
    rw [Option.toList_some, List.filter_cons, Option.filter_some]
    split_ifs <;> rfl

theorem Bank.shadow_assign (bad : List Chan) (helpers : List Conv) : ∀ b : Bank, (b.assign bad helpers).shadow = b.shadow := by
  induction bad generalizing helpers with
  | nil => exact fun _ => rfl
  | cons c more ih =>
    intro b
    cases helpers with
    | nil => exact ih [] (b.join c)
    | cons v rest => exact ih rest (b.give c v)

namespace Replaced

theorem unmarked (h : Replaced s u x p) : u.bank.handover = fun _ => false := (congrArg Bank.handover h.examined.bank :)

theorem map (h : Replaced s u x p) (c : Chan) : u.bank.map c = s.convOf c := congrFun h.examined.convOf c

theorem ready (h : Replaced s u x p) : u.bank.built = true := (congrArg Bank.built h.examined.bank).trans h.built

theorem free {v : Conv} (h : Replaced s u x p) (hv : v ∈ s.spares) : (u.bank.conv v).state = .spare := by
  rw [← h.examined.spares h.before h.built] at hv
  exact of_decide_eq_true (List.mem_filter.mp hv).2

theorem spare {r : Shadow} (h : Replaced s u x p) (shadow : s.trim.shadow = some r) : (u.bank.conv r.spare).state = .shadow :=
  (h.examined.spare_apart h.before h.built shadow).1

theorem held (h : Replaced s u x p) : ∀ r ∈ u.bank.shadow, (u.bank.conv r.spare).state = .shadow := fun _ hr =>
  h.spare (h.examined.shadow.symm.trans hr)

/-- The rotation left after the replacements (R131). -/
theorem shadow (h : Replaced s u x p) : x.trim.shadow =
    s.trim.shadow.filter fun r => ¬ s.Faulty r.channel ∧ s.waiting.length ≤ s.spares.length := by
  have found := h.found
  change x.bank.shadow = _
  cases shadow : s.trim.shadow with
  | none => exact (congrArg Bank.shadow (found.plain shadow)).trans ((Bank.shadow_assign _ _ _).trans (h.examined.shadow.trans shadow))
  | some r =>
    rw [Option.filter_some]
    by_cases faulty : s.Faulty r.channel
    · rw [found.target r shadow faulty, if_neg (by simp only [faulty, not_true, false_and, decide_false]; decide)]
      rfl
    · by_cases more : s.spares.length < s.waiting.length
      · rw [found.taken r shadow faulty more, if_neg (by rw [decide_eq_true_iff]; omega)]
        rfl
      · rw [found.held r shadow faulty (by omega), if_pos (decide_eq_true ⟨faulty, by omega⟩), Bank.shadow_assign]
        exact h.examined.shadow.trans shadow

theorem moved (h : Replaced s u x p) : Moved s.relieved u.bank x.bank := by
  have begun : Moved s.relieved u.bank u.bank := .refl h.examined.law h.unmarked
  have spares (v : Conv) (hv : v ∈ s.spares) : u.bank.free v := .inl (h.free hv)
  have found := h.found
  cases shadow : s.trim.shadow with
  | none =>
    rw [found.plain shadow]
    exact .assign h.examined.law h.ready _ _ begun (waiting_nodup s) (fun _ _ => rfl) spares
  | some r =>
    have spare : u.bank.free r.spare := .inr (h.spare shadow)
    have all (v : Conv) (hv : v ∈ s.spares ++ [r.spare]) : u.bank.free v := by
      rcases List.mem_append.mp hv with hv | hv
      · exact spares v hv
      · rw [List.mem_singleton.mp hv]
        exact spare
    have plain := Moved.assign h.examined.law h.ready s.waiting (s.spares ++ [r.spare]) begun (waiting_nodup s)
      (fun _ _ => rfl) all
    by_cases faulty : s.Faulty r.channel
    · rw [found.target r shadow faulty]
      have new : r.channel ∉ s.waiting := fun mem => (mem_waiting mem).2 r shadow rfl
      have whole := Moved.assign h.examined.law h.ready (r.channel :: s.waiting) (r.spare :: s.spares) begun
        (List.nodup_cons.mpr ⟨new, waiting_nodup s⟩) (fun _ _ => rfl) fun v hv => by
          rcases List.mem_cons.mp hv with rfl | hv
          · exact spare
          · exact spares v hv
      exact whole.fields rfl rfl rfl (.inr ⟨rfl, fun r' hr' => h.held r' (Bank.shadow_assign _ _ _ ▸ hr')⟩)
    · by_cases more : s.spares.length < s.waiting.length
      · rw [found.taken r shadow faulty more]
        exact plain.fields rfl rfl rfl (.inr ⟨rfl, fun r' hr' => h.held r' (Bank.shadow_assign _ _ _ ▸ hr')⟩)
      · rw [found.held r shadow faulty (by omega)]
        exact plain

/-- A rotation left holds what it held. -/
theorem rotating {r : Shadow} (h : Replaced s u x p) (left : x.trim.shadow = some r) : s.trim.shadow = some r ∧
    ¬ s.Faulty r.channel ∧ s.waiting.length ≤ s.spares.length ∧
    x.bank = u.bank.assign s.waiting (s.spares ++ [r.spare]) ∧ x.convOf r.channel = r.target ∧
    s.convOf r.channel = r.target ∧ x.bank.mismatch r.channel = (s.chan r.channel).mismatch ∧
    x.trim.matchSum = s.trim.matchSum := by
  rw [h.shadow, Option.filter_eq_some_iff] at left
  obtain ⟨shadow, left⟩ := left
  obtain ⟨sound, enough⟩ := of_decide_eq_true left
  have bank := h.found.held r shadow sound enough
  have target : s.convOf r.channel = r.target := (h.before.held r shadow).2.2
  have apart : r.channel ∉ s.waiting := fun mem => (mem_waiting mem).2 r shadow rfl
  have nodup : (s.spares ++ [r.spare]).Nodup := by
    have nodup := h.examined.helpers_nodup h.before h.built
    rwa [helpers_some shadow, if_neg sound] at nodup
  have result := assign_result (waiting_nodup s) nodup u.bank
  rw [← bank] at result
  obtain ⟨map, -, mismatch, -⟩ := result.others r.channel apart
  have sum : x.trim.matchSum = u.trim.matchSum := (congrArg Bank.matchSum result.rest :)
  exact ⟨shadow, sound, enough, bank, (map.trans (h.map _)).trans target, target,
    mismatch.trans (congrFun (congrArg Bank.mismatch h.examined.bank) _), sum.trans (congrArg Bank.matchSum h.examined.bank :)⟩

theorem moved_match (h : Replaced s u x p) : Moved s.relieved u.bank (x.evaluateMatch p).bank := by
  have moved := h.moved
  rw [bank_evaluateMatch h.law]
  cases left : x.trim.shadow with
  | none => exact moved
  | some r =>
    obtain ⟨shadow, sound, enough, bank, own, target, -⟩ := h.rotating left
    have lose : ∃ c, s.relieved c ∧ u.bank.map c = r.target :=
      ⟨r.channel, ⟨r, shadow, rfl, sound⟩, (h.map r.channel).trans target⟩
    have spare : u.bank.free r.spare := .inr (h.spare shadow)
    have ends (r' : Shadow) (hr' : x.bank.shadow = some r') : (u.bank.conv r'.spare).state = .shadow :=
      h.spare (h.rotating hr').1
    have same : x.bank.map r.channel = u.bank.map r.channel := by
      rw [h.map, target]
      exact own
    simp only []
    split_ifs
    · have taken := moved.give h.examined.law h.ready same spare
      exact (taken.turn h.examined.law h.ready (.inr lose) (x := .trimming) nofun).fields rfl rfl rfl (.inr ⟨rfl, ends⟩)
    · exact (moved.turn h.examined.law h.ready (.inl (h.spare shadow)) (x := .trimming) nofun).fields rfl rfl rfl
        (.inr ⟨rfl, ends⟩)
    · have lost := moved.turn h.examined.law h.ready (.inr lose) (x := .faulted) nofun
      exact (lost.give h.examined.law h.ready same spare).fields rfl rfl rfl (.inr ⟨rfl, ends⟩)

theorem logged_match (h : Replaced s u x p) : Logged x (x.evaluateMatch p) (s.matchEntries p) := by
  have shadow := h.shadow
  rcases evaluateMatch_cases x p with ⟨none, e⟩ | ⟨r, some, cases⟩
  · rw [shadowing_eq h.law] at none
    have entries : s.matchEntries p = [] := by
      rw [State.matchEntries, option_toList_filter, ← shadow, none]
      rfl
    rw [e, entries]
    exact .refl x
  · rw [shadowing_eq h.law] at some
    obtain ⟨_, sound, enough, -, own, target, mismatch, sum⟩ := h.rotating some
    have entries : s.matchEntries p = if s.trim.matchSum ≤ s.trim.limit * 320 then
        [⟨.handover, .rotation, r.spare, Option.some r.channel, Option.some r.target, s.cap.number, p⟩]
      else if (s.chan r.channel).mismatch = 0 then []
      else [⟨.faulted, .mismatch, r.target, Option.some r.channel, none, s.cap.number, p⟩,
        ⟨.handover, .mismatch, r.spare, Option.some r.channel, Option.some r.target, s.cap.number, p⟩] := by
      rw [State.matchEntries, option_toList_filter, ← shadow, some]
      exact List.append_nil _
    have mismatch : (x.chan r.channel).mismatch = (s.chan r.channel).mismatch := mismatch
    rw [entries, ← sum, ← h.limit, ← h.cap, ← mismatch]
    rcases cases with ⟨within, e⟩ | ⟨beyond, first, e⟩ | ⟨beyond, second, e⟩ <;> rw [e]
    · rw [if_pos within]
      have turn := Logged.handOver x p r.channel r.spare .rotation
      rw [own] at turn
      exact (turn.after (.startTrim _ _ _)).after (.endRotation _ _)
    · rw [if_neg (by omega), if_pos first]
      exact .silent rfl rfl rfl
    · rw [if_neg (by omega), if_neg second]
      have fault := (Logged.modConv x r.target fun x => { x with state := .faulted }).before (.add _
        ⟨.faulted, .mismatch, r.target, Option.some r.channel, none, x.cap.number, p⟩)
      have turn := Logged.handOver ((x.modConv r.target fun x => { x with state := .faulted }).addConverter
        ⟨.faulted, .mismatch, r.target, Option.some r.channel, none, x.cap.number, p⟩) p r.channel r.spare .mismatch
      have same : ((x.modConv r.target fun x => { x with state := .faulted }).addConverter
        ⟨.faulted, .mismatch, r.target, Option.some r.channel, none, x.cap.number, p⟩).convOf r.channel = r.target := own
      rw [same] at turn
      exact (fault.trans turn).after (.endRotation _ _)

end Replaced

end Sys2Proof.Machine
end

section
/-! SUPPORT. The end of a boundary's trim unit work: the rotation that begins, and all that the work has moved (R126, R131). -/

namespace Sys2Proof.Machine

variable {s t u x y z : State} {b b' : Bank} {P : Prop} {p : Nat}

/-! ## The SPARE converters left -/

theorem Bank.spares_assign : ∀ (bad : List Chan) (more : List Conv) (b : Bank), (∀ v ∈ more, (b.conv v).state ≠ .spare) →
    (b.assign bad (b.spares ++ more)).spares = b.spares.drop bad.length
  | [], _, _, _ => rfl
  | c :: rest, more, b, busy => by
    cases spares : b.spares with
    | cons v others =>
      have given := Bank.spares_give (c := c) spares
      have kept (w : Conv) (hw : w ∈ more) : ((b.give c v).conv w).state ≠ .spare := by
        simp only [Bank.give, Function.update_apply]
        split_ifs
        · nofun
        · exact busy w hw
      have after := spares_assign rest more (b.give c v) kept
      rw [given] at after
      exact after
    | nil =>
      have none (w : Conv) : (b.conv w).state ≠ .spare := by
        simpa using List.filter_eq_nil_iff.mp spares w (List.mem_finRange w)
      cases more with
      | nil =>
        have after := spares_assign rest [] (b.join c) busy
        have same : (b.join c).spares = [] := spares
        rw [same, List.drop_nil] at after
        exact after.trans List.drop_nil.symm
      | cons v others =>
        have same (w : Conv) : ((b.give c v).conv w).state ≠ .spare := by
          simp only [Bank.give, Function.update_apply]
          split_ifs
          · nofun
          · exact none w
        have empty : (b.give c v).spares = [] := List.filter_eq_nil_iff.mpr fun w _ => by simpa using same w
        have after := spares_assign rest others (b.give c v) fun w _ => same w
        rw [empty, List.drop_nil] at after
        exact after.trans List.drop_nil.symm

theorem beginRotation_rests {enabled : Chan → Bool} (h : z.trim.rotation ≠ .due ∨ z.trim.engine ≠ none ∨ z.bank.spares = []) :
    z.beginRotation enabled = z := by
  unfold State.beginRotation
  split_ifs with due
  · have none : z.lowestSpare = none := by
      rw [lowestSpare_eq, (h.resolve_left (not_not.mpr due.1)).resolve_left (not_not.mpr due.2)]
      rfl
    rw [none]
  · rfl

namespace Replaced

variable {enabled : Chan → Bool}

theorem match_shadow (h : Replaced s u x p) : (x.evaluateMatch p).trim.shadow = none := by
  change (x.evaluateMatch p).bank.shadow = none
  rw [bank_evaluateMatch h.law]
  cases left : x.trim.shadow with
  | none => exact left
  | some r =>
    simp only []
    split_ifs <;> rfl

theorem helpers_free (h : Replaced s u x p) {v : Conv} (hv : v ∈ s.helpers) : u.bank.free v := by
  cases shadow : s.trim.shadow with
  | none => exact .inl (h.free (helpers_none shadow ▸ hv))
  | some r =>
    rw [helpers_some shadow] at hv
    split_ifs at hv
    · exact .inl (h.free hv)
    · rcases List.mem_append.mp hv with hv | hv
      · exact .inl (h.free hv)
      · rw [List.mem_singleton.mp hv]
        exact .inr (h.spare shadow)

/-- The rotation takes no part in the channels that wait, nor in their helpers. -/
theorem apart (h : Replaced s u x p) {r : Shadow} (left : r ∈ x.trim.shadow) :
    r ∈ s.trim.shadow ∧ ∀ v ∈ s.helpers, r.target ≠ v := by
  obtain ⟨shadow, -, -, -, -, target, -⟩ := h.rotating left
  refine ⟨shadow, fun v hv e => ?_⟩
  exact h.examined.law.free_unassigned h.ready (h.helpers_free hv) r.channel (((h.map _).trans target).trans e)

theorem moved_begin (h : Replaced s u x p) :
    Moved s.relieved u.bank ((x.evaluateMatch p).beginRotation enabled).bank := by
  have moved := h.moved_match
  have shadow : (x.evaluateMatch p).trim.shadow = none := h.match_shadow
  rcases beginRotation_cases (x.evaluateMatch p) enabled with e | e | ⟨v, t, c, -, -, lowest, -, -, e⟩ <;> rw [e]
  · exact moved
  · exact moved.fields rfl rfl rfl (.inl rfl)
  · rw [bank_begun]
    refine moved.begin h.examined.law h.ready (moved.spare v (lowestSpare_some lowest)) fun r hr => ?_
    rw [State.bank, shadow] at hr
    cases hr

theorem logged_all (h : Replaced s u x p) : Logged u ((x.evaluateMatch p).beginRotation enabled)
    (s.targetEntries p ++ s.replacementEntries s.waiting s.helpers s.cap.number p ++ s.matchEntries p) := by
  refine (h.found.logged.trans h.logged_match).after ?_
  rcases beginRotation_cases (x.evaluateMatch p) enabled with e | e | ⟨v, t, c, -, -, -, -, -, e⟩ <;> rw [e] <;>
    exact .silent rfl rfl rfl

theorem placed_all (h : Replaced s u x p) : Placed s u.bank ((x.evaluateMatch p).beginRotation enabled).bank := by
  obtain ⟨given, left, others⟩ := h.examined.placed h.before h.built h.found
  obtain ⟨chans, convs⟩ := settled_match h.law p
  obtain ⟨chans', convs'⟩ := settled_begin (x.evaluateMatch p) enabled
  have same (c : Chan) (hc : ∀ r ∈ s.trim.shadow, r.channel ≠ c) := chans c fun r hr => hc r (h.apart hr).1
  have waits {i : Nat} {c : Chan} (hi : s.waiting[i]? = some c) := (mem_waiting (List.mem_of_getElem? hi)).2
  refine ⟨fun i c v hc hv => ?_, fun i c hc hv => ?_, fun c hc apart => ?_⟩
  · obtain ⟨map, conv, handover, mismatch, noSpare⟩ := given i c v hc hv
    obtain ⟨map', handover', mismatch', noSpare'⟩ := chans' c nofun
    obtain ⟨map'', handover'', mismatch'', noSpare''⟩ := same c (waits hc)
    have matched := convs v (by rw [conv]) fun r hr => (h.apart hr).2 v (List.mem_of_getElem? hv)
    have begun := convs' v (by rw [matched, conv]) nofun
    rw [map', map'', begun, matched, handover', handover'', mismatch', mismatch'', noSpare', noSpare'']
    exact ⟨map, conv, handover, mismatch, noSpare⟩
  · obtain ⟨map', handover', mismatch', noSpare'⟩ := chans' c nofun
    obtain ⟨map'', handover'', mismatch'', noSpare''⟩ := same c (waits hc)
    rw [map', map'', handover', handover'', mismatch', mismatch'', noSpare', noSpare'']
    exact left i c hc hv
  · obtain ⟨map', handover', mismatch', noSpare'⟩ := chans' c nofun
    obtain ⟨map'', handover'', mismatch'', noSpare''⟩ := same c apart
    rw [map', map'', handover', handover'', mismatch', mismatch'', noSpare', noSpare'']
    exact others c hc apart

end Replaced

end Sys2Proof.Machine
end

section
/-! SUPPORT. A boundary that is not final, as the statements about the trim unit read it (R121 to R134). -/

namespace Sys2Proof.Machine

variable {s t u x y z : State} {b b' : Bank} {P : Prop} {p : Nat}

/-- The number of the period that begins. -/
abbrev State.nextPeriod (s : State) : Nat := wrapInc s.cap.period

/-- The states of a boundary's trim unit work: after the examination, and after the replacements (R131). -/
def State.boundaryExamined (s : State) : State := s.completeBlocks.clearMarks.examined s.nextPeriod
def State.boundaryReplaced (s : State) : State := s.boundaryExamined.replaceFaulted s.nextPeriod s.enabledNext

theorem worked_eq (s : State) :
    s.worked = (s.boundaryReplaced.evaluateMatch s.nextPeriod).beginRotation s.enabledNext := rfl

theorem law_of_running (h : s.TrimLaw) (running : s.cap.state = .capturing) :
    s.bank.Law False ∧ s.bank.Calm ∧ s.trim.mapBuilt = true := by
  obtain ⟨law, calm⟩ := trimLaw_iff.mp h
  have off : ¬ s.cap.state = .standby := by rw [running]; nofun
  rw [eq_false off] at law
  refine ⟨law, calm, ?_⟩
  by_contra unbuilt
  exact (law.startUp (by simpa using unbuilt : s.trim.mapBuilt = false)).1

theorem boundary_replaced (h : s.TrimLaw) (running : s.cap.state = .capturing) :
    Replaced s s.boundaryExamined s.boundaryReplaced s.nextPeriod := by
  obtain ⟨law, calm, built⟩ := law_of_running h running
  have begun : ∃ ch, s.completeBlocks.clearMarks = { s with chans := ch } := by
    rw [State.clearMarks, (mapChans_changes _ _).choose_spec, State.completeBlocks, (mapChans_changes _ _).choose_spec]
    exact ⟨_, rfl⟩
  have settings (c : Chan) : (s.completeBlocks.clearMarks.chan c).settings = (s.chan c).settings := by
    rw [chan_clearMarks, chan_completeBlocks, Channel.complete_eq]
  have examined : Examined s s.boundaryExamined s.nextPeriod :=
    examined_result law built begun (bank_begin s) settings s.nextPeriod
  have frame : TrimFrame s.boundaryExamined s.boundaryReplaced := .replaceFaulted _ _ _
  have ready : s.boundaryExamined.trim.mapBuilt = true := (congrArg Bank.built examined.bank).trans built
  have sound : Sound s.boundaryReplaced := sound_replaceFaulted s.nextPeriod s.enabledNext examined.law ready
  have limit : s.boundaryReplaced.trim.limit = s.boundaryExamined.trim.limit :=
    congrArg (fun x : Nat × Nat × Nat => x.2.1) frame.fixed
  exact ⟨examined, law, calm, built, examined.replacements law built, sound.law, frame.cap.trans examined.cap,
    limit.trans examined.limit⟩

theorem worked_moved (h : s.TrimLaw) (running : s.cap.state = .capturing) :
    Moved s.relieved s.boundaryExamined.bank s.worked.bank := (boundary_replaced h running).moved_begin

theorem worked_sound (h : s.TrimLaw) (running : s.cap.state = .capturing) : Sound s.worked := by
  obtain ⟨law, -, built⟩ := law_of_running h running
  have begun : s.completeBlocks.clearMarks.bank.Law False := by rw [bank_begin]; exact law.unmarked
  exact sound_trimBoundaryWork begun ((congrArg Bank.built (bank_begin s)).trans built) _ _

/-! ## The entries of the CONVERTER notice -/

theorem converter_flag_periodBoundary (s : State) :
    flagSet s.periodBoundary.link.raised .converter = flagSet s.worked.link.raised .converter := by
  obtain ⟨⟨st, ch, m, fl, r, hr, h⟩, -⟩ := opening_frame s
  obtain ⟨⟨st', ch', e⟩, -⟩ := postBlocks_frame s s.worked
  have raised : s.periodBoundary.link.raised = r := by rw [h]
  have same : s.renumbered.link.raised = s.worked.link.raised := by
    simp only [State.renumbered]
    rw [ended_eq, e]
  rw [raised, hr.same (by decide), (committed_result s).flags.same (by decide), same]

/-- The entries a boundary adds, in the order of the events (R134). -/
def State.boundaryEntries (s : State) : List ConverterEntry :=
  s.trimEntries s.nextPeriod ++ s.stuckEntries s.nextPeriod ++ s.targetEntries s.nextPeriod ++
    s.replacementEntries s.waiting s.helpers s.cap.number s.nextPeriod ++ s.matchEntries s.nextPeriod

theorem logged_worked (h : s.TrimLaw) (running : s.cap.state = .capturing) : Logged s s.worked s.boundaryEntries := by
  have replaced := boundary_replaced h running
  have logged := replaced.examined.logged.trans (replaced.logged_all (enabled := s.enabledNext))
  rw [← worked_eq] at logged
  simpa only [State.boundaryEntries, List.append_assoc] using logged

theorem logged_periodBoundary (h : s.TrimLaw) (running : s.cap.state = .capturing) :
    Logged s s.periodBoundary s.boundaryEntries := by
  obtain ⟨events, flag⟩ := logged_worked h running
  have trim := trim_periodBoundary s
  refine ⟨?_, (converter_flag_periodBoundary s).trans flag⟩
  rw [trim]
  exact events

end Sys2Proof.Machine
end

section
/-! SUPPORT. The rotation at a boundary that is not final (R125 to R128, R131). -/

namespace Sys2Proof.Machine

variable {s t u x y z : State} {b b' : Bank} {P : Prop} {p : Nat}

/-! ## The rotation SHADOWING -/

theorem evaluateMatch_idle (h : x.trim.shadow = none) (p : Nat) : x.evaluateMatch p = x := by
  have none : x.shadowing = none := by rw [State.shadowing, h, ite_self]
  unfold State.evaluateMatch
  rw [none]

namespace Replaced

variable {enabled : Chan → Bool} {r : Shadow}

/-- What a rotation comes to in every case: no shadow, the timer risen, and a SERVING converter on its channel (R128, R131). -/
structure RotationOver (s : State) (r : Shadow) (y : Bank) : Prop where
  shadow : y.shadow = none
  timer : y.timer = s.nextTimer
  matchSum : y.matchSum = s.trim.matchSum
  serving : (y.conv (y.map r.channel)).state = .serving

/-- The target is faulty: the spare takes its channel without a match. -/
structure TargetFaulted (s : State) (r : Shadow) (y : Bank) : Prop extends RotationOver s r y where
  rotation : y.rotation = .idle
  named : y.named = s.trim.named
  engine : y.engine = none
  map : y.map r.channel = r.spare
  spare : (y.conv r.spare).state = .serving ∧ (y.conv r.spare).stuck = 0
  target : (y.conv r.target).state = .faulted
  marks : y.handover r.channel = true ∧ y.mismatch r.channel = 0 ∧ y.noSpare r.channel = false

theorem engine_none (h : Replaced s u x p) (shadow : s.trim.shadow = some r) : u.bank.engine = none := by
  have idle : s.trim.engine = none := (h.before.held r shadow).2.1
  have engine : u.bank.engine = s.trim.engine.filter fun e => e.remaining ≠ 0 := (congrArg Bank.engine h.examined.bank :)
  rw [engine, idle]
  rfl

theorem reads (h : Replaced s u x p) : u.bank.timer = s.nextTimer ∧ u.bank.matchSum = s.trim.matchSum ∧
    u.bank.named = s.trim.named ∧ u.bank.mismatch = fun c => (s.chan c).mismatch := by
  have bank := h.examined.bank
  exact ⟨(congrArg Bank.timer bank :), (congrArg Bank.matchSum bank :), (congrArg Bank.named bank :),
    (congrArg Bank.mismatch bank :)⟩

theorem target_map (h : Replaced s u x p) (shadow : s.trim.shadow = some r) : s.convOf r.channel = r.target :=
  (h.before.held r shadow).2.2

theorem target_faulted (h : Replaced s u x p) (shadow : s.trim.shadow = some r) (faulty : s.Faulty r.channel) :
    TargetFaulted s r ((x.evaluateMatch p).beginRotation enabled).bank := by
  have moved := h.moved_begin (enabled := enabled)
  have bank := h.found.target r shadow faulty
  have over' : x.trim.shadow = none := (congrArg Bank.shadow bank :)
  have rotation : x.trim.rotation = .idle := (congrArg Bank.rotation bank :)
  rw [evaluateMatch_idle over', beginRotation_rests (.inl (by rw [rotation]; nofun))] at moved ⊢
  have new : r.channel ∉ s.waiting := fun mem => (mem_waiting mem).2 r shadow rfl
  obtain ⟨given, -, -, -, rest⟩ := assign_result (List.nodup_cons.mpr ⟨new, waiting_nodup s⟩)
    (List.nodup_cons.mpr ⟨(h.examined.spare_apart h.before h.built shadow).2, spares_nodup s⟩) u.bank
  obtain ⟨map, conv, handover, mismatch, noSpare⟩ := given 0 r.channel r.spare rfl rfl
  obtain ⟨timer, matchSum, named, -⟩ := h.reads
  have still := moved.still r.channel fun ⟨r', hr', _, sound⟩ => sound faulty
  rw [h.map, h.target_map shadow] at still
  have target : (u.bank.conv r.target).state = .faulted := by
    have faulted := (h.examined.faulty r.channel).mpr faulty
    rwa [Bank.faulty, h.map, h.target_map shadow] at faulted
  rw [bank] at still ⊢
  refine { shadow := rfl, timer := ?_, matchSum := ?_, serving := ?_, rotation := rfl, named := ?_, engine := ?_,
           map := map, spare := ?_, target := still.trans target, marks := ⟨handover, mismatch, noSpare⟩ }
  · exact (congrArg Bank.timer rest).trans timer
  · exact (congrArg Bank.matchSum rest).trans matchSum
  · rw [Bank.rest, map, conv]
  · exact (congrArg Bank.named rest).trans named
  · exact (congrArg Bank.engine rest).trans (h.engine_none shadow)
  · rw [Bank.rest, conv]
    exact ⟨rfl, rfl⟩

end Replaced

end Sys2Proof.Machine
end

section
/-! SUPPORT. A rotation SHADOWING at a boundary whose target is not faulty: its spare taken, or the match (R128, R131). -/

namespace Sys2Proof.Machine

variable {s t u x y z : State} {b b' : Bank} {P : Prop} {p : Nat}

namespace Replaced

variable {enabled : Chan → Bool} {r : Shadow}

/-- The spare is taken as a replacement: the rotation is DUE. -/
structure SpareTaken (s : State) (r : Shadow) (y : Bank) : Prop extends RotationOver s r y where
  rotation : y.rotation = .due
  named : y.named = none
  engine : y.engine = none
  map : y.map r.channel = r.target
  mismatch : y.mismatch r.channel = (s.chan r.channel).mismatch

/-- The match decides (R128). -/
structure Matched (s : State) (r : Shadow) (y : Bank) : Prop extends RotationOver s r y where
  rotation : y.rotation = .idle
  named : y.named = s.trim.named
  within : s.trim.matchSum ≤ s.trim.limit * 320 →
    y.map r.channel = r.spare ∧ (y.conv r.spare).stuck = 0 ∧ (y.conv r.target).state = .trimming ∧
    y.engine = some ⟨r.target, .short, 640, 0⟩ ∧ y.mismatch r.channel = 0 ∧ y.handover r.channel = true
  first : s.trim.limit * 320 < s.trim.matchSum → (s.chan r.channel).mismatch = 0 →
    y.map r.channel = r.target ∧ (y.conv r.spare).state = .trimming ∧
    y.engine = some ⟨r.spare, .long, 2560, 0⟩ ∧ y.mismatch r.channel = 1
  second : s.trim.limit * 320 < s.trim.matchSum → (s.chan r.channel).mismatch ≠ 0 →
    y.map r.channel = r.spare ∧ (y.conv r.spare).stuck = 0 ∧ (y.conv r.target).state = .faulted ∧
    y.engine = none ∧ y.mismatch r.channel = 0 ∧ y.handover r.channel = true

/-- The replacements leave a rotation's target on its channel, SERVING, while it is not faulty. -/
theorem target_serving (h : Replaced s u x p) (shadow : s.trim.shadow = some r) (sound : ¬ s.Faulty r.channel) {y : Bank}
    (assigned : Assigned u.bank y s.waiting s.helpers) :
    y.map r.channel = r.target ∧ (y.conv r.target).state = .serving ∧
      y.mismatch r.channel = (s.chan r.channel).mismatch := by
  have target := h.target_map shadow
  obtain ⟨map, -, mismatch, -⟩ := assigned.others r.channel fun mem => (mem_waiting mem).2 r shadow rfl
  have unused := assigned.unused r.target fun i c _ hi => h.examined.law.free_unassigned h.ready
    (h.helpers_free (List.mem_of_getElem? hi)) r.channel ((h.map r.channel).trans target)
  have serving := h.examined.serving h.built sound
  refine ⟨map.trans ((h.map _).trans target), ?_, mismatch.trans (congrFun h.reads.2.2.2 _)⟩
  rw [unused, ← target]
  exact serving

theorem helpers_result (h : Replaced s u x p) :
    Assigned u.bank (u.bank.assign s.waiting s.helpers) s.waiting s.helpers :=
  assign_result (waiting_nodup s) (h.examined.helpers_nodup h.before h.built) u.bank

theorem spare_taken (h : Replaced s u x p) (shadow : s.trim.shadow = some r) (sound : ¬ s.Faulty r.channel)
    (more : s.spares.length < s.waiting.length) : SpareTaken s r ((x.evaluateMatch p).beginRotation enabled).bank := by
  have bank := h.found.taken r shadow sound more
  have over' : x.trim.shadow = none := (congrArg Bank.shadow bank :)
  have helpers : s.helpers = s.spares ++ [r.spare] := by rw [helpers_some shadow, if_neg sound]
  have left : x.bank.spares = [] := by
    have apart := Bank.spares_assign s.waiting [r.spare] u.bank fun v hv => by
      rw [List.mem_singleton.mp hv, h.spare shadow]
      nofun
    rw [h.examined.spares h.before h.built] at apart
    rw [bank]
    exact apart.trans (List.drop_eq_nil_of_le (by omega))
  rw [evaluateMatch_idle over', beginRotation_rests (.inr (.inr left)), bank, ← helpers]
  have result := h.helpers_result
  obtain ⟨map, serving, mismatch⟩ := h.target_serving shadow sound result
  obtain ⟨timer, matchSum, -, -⟩ := h.reads
  refine { shadow := rfl, timer := (congrArg Bank.timer result.rest).trans timer
           matchSum := (congrArg Bank.matchSum result.rest).trans matchSum, serving := ?_, rotation := rfl, named := rfl
           engine := (congrArg Bank.engine result.rest).trans (h.engine_none shadow), map := map, mismatch := mismatch }
  rw [Bank.rest, map]
  exact serving

theorem matched (h : Replaced s u x p) (shadow : s.trim.shadow = some r) (sound : ¬ s.Faulty r.channel)
    (enough : s.waiting.length ≤ s.spares.length) : Matched s r ((x.evaluateMatch p).beginRotation enabled).bank := by
  have left : x.trim.shadow = some r := by
    rw [h.shadow, shadow, Option.filter_some, if_pos (decide_eq_true ⟨sound, enough⟩)]
  have helpers : s.helpers = s.spares ++ [r.spare] := by rw [helpers_some shadow, if_neg sound]
  have bank := h.found.held r shadow sound enough
  rw [← helpers] at bank
  have result := h.helpers_result
  rw [← bank] at result
  obtain ⟨map, serving, mismatch⟩ := h.target_serving shadow sound result
  obtain ⟨timer, matchSum, named, -⟩ := h.reads
  have timer : x.bank.timer = s.nextTimer := (congrArg Bank.timer result.rest).trans timer
  have matchSum : x.bank.matchSum = s.trim.matchSum := (congrArg Bank.matchSum result.rest).trans matchSum
  have named : x.bank.named = s.trim.named := (congrArg Bank.named result.rest).trans named
  have engine : x.bank.engine = none := (congrArg Bank.engine result.rest).trans (h.engine_none shadow)
  have apart : r.target ≠ r.spare := fun e => by
    have spare : (x.bank.conv r.spare).state = .shadow := (h.law.shadowed r.spare).mpr (congrArg (Option.map Shadow.spare) left)
    rw [← e, serving] at spare
    cases spare
  have sum : x.trim.matchSum = s.trim.matchSum := matchSum
  have own : (x.chan r.channel).mismatch = (s.chan r.channel).mismatch := mismatch
  have turn := bank_evaluateMatch h.law p
  rw [left] at turn
  simp only [] at turn
  rw [sum, h.limit, own] at turn
  have rotation : (x.evaluateMatch p).trim.rotation ≠ .due := by
    have rotation := congrArg Bank.rotation turn
    split_ifs at rotation <;> exact fun e => nomatch e.symm.trans rotation
  rw [beginRotation_rests (.inl rotation), turn]
  have faulted : x.conv r.target = x.bank.conv r.target := rfl
  rw [faulted]
  generalize x.bank = y at *
  split_ifs with fits first
  · refine { shadow := rfl, timer := timer, matchSum := matchSum, serving := ?_, rotation := rfl, named := named
             within := fun _ => ?_, first := fun _ => by omega, second := fun _ => by omega } <;>
      simp [Bank.rest, Bank.trim, Bank.give, apart, apart.symm, TrimKind.length]
  · refine { shadow := rfl, timer := timer, matchSum := matchSum, serving := ?_, rotation := rfl, named := named
             within := fun _ => by contradiction, first := fun _ _ => ?_, second := fun _ _ => by contradiction } <;>
      simp [Bank.rest, Bank.trim, apart, map, serving, TrimKind.length]
  · refine { shadow := rfl, timer := timer, matchSum := matchSum, serving := ?_, rotation := rfl, named := named
             within := fun _ => by contradiction, first := fun _ _ => by contradiction, second := fun _ _ => ?_ } <;>
      simp [Bank.rest, Bank.give, Bank.setConv, apart, engine]

end Replaced

end Sys2Proof.Machine
end

section
/-! SUPPORT. A boundary with no rotation SHADOWING: the timer, and the rotation that begins (R125, R126). -/

namespace Sys2Proof.Machine

variable {s t u x y z : State} {b b' : Bank} {P : Prop} {p : Nat}

/-! ## The target of a rotation about to begin (R126) -/

theorem trimmedBefore_antisymm {v w : Conv} (h : z.trimmedBefore v w) (g : z.trimmedBefore w v) : v = w := by
  unfold State.trimmedBefore at h g
  rcases h with h | ⟨same, h⟩ <;> rcases g with g | ⟨same', g⟩
  · exact absurd h g.asymm
  · exact absurd same' h.ne'
  · exact absurd same g.ne'
  · exact le_antisymm h g

/-- Of the converters that may be targets the first in their order is the oldest trim. -/
theorem oldestTarget_some {enabled : Chan → Bool} {v : Conv} (may : z.targetable enabled v = true)
    (first : ∀ w, z.targetable enabled w = true → z.trimmedBefore v w) : z.oldestTarget enabled = some v := by
  obtain ⟨none, best⟩ := older_spec (s := z) ((List.pairwise_lt_finRange 26).filter (z.targetable enabled))
  have mem : v ∈ (List.finRange 26).filter (z.targetable enabled) := List.mem_filter.mpr ⟨List.mem_finRange v, may⟩
  rw [oldestTarget_eq]
  change ((List.finRange 26).filter (z.targetable enabled)).foldl z.older Option.none = some v
  cases found : ((List.finRange 26).filter (z.targetable enabled)).foldl z.older Option.none with
  | none => rw [none found] at mem; cases mem
  | some w =>
    obtain ⟨among, before⟩ := best w found
    rw [trimmedBefore_antisymm (before v mem) (first w (List.mem_filter.mp among).2)]

/-- Every channel has a SERVING converter of its own. -/
structure AllServing (z : State) : Prop where
  built : z.trim.mapBuilt = true
  apart : ∀ c d, z.convOf c = z.convOf d → c = d
  serving : ∀ c, (z.conv (z.convOf c)).state = .serving

namespace AllServing

variable {enabled : Chan → Bool} {c : Chan}

theorem targetable (h : AllServing z) {v : Conv} : z.targetable enabled v = true ↔ ∃ c, z.convOf c = v ∧ enabled c = true := by
  rw [targetable_iff h.built h.apart, and_iff_right_iff_imp]
  rintro ⟨c, rfl, -⟩
  exact h.serving c

theorem no_target (h : AllServing z) (none : ∀ c, ¬ enabled c = true) : z.rotationTarget enabled = Option.none := by
  cases target : z.rotationTarget enabled with
  | none => rfl
  | some v =>
    obtain ⟨c, -, on⟩ := h.targetable.mp (rotationTarget_spec target)
    exact absurd on (none c)

theorem named_target (h : AllServing z) (on : enabled c = true) (named : z.trim.named = some (z.convOf c)) :
    z.rotationTarget enabled = some (z.convOf c) := by
  unfold State.rotationTarget
  rw [named]
  exact if_pos (h.targetable.mpr ⟨c, rfl, on⟩)

theorem oldest_target (h : AllServing z) (on : enabled c = true) (first : ∀ d, enabled d = true →
    z.trim.named ≠ some (z.convOf d) ∧ z.trimmedBefore (z.convOf c) (z.convOf d)) :
    z.rotationTarget enabled = some (z.convOf c) := by
  have oldest : z.oldestTarget enabled = some (z.convOf c) := by
    refine oldestTarget_some (h.targetable.mpr ⟨c, rfl, on⟩) fun w may => ?_
    obtain ⟨d, rfl, on⟩ := h.targetable.mp may
    exact (first d on).2
  unfold State.rotationTarget
  split
  · next v named =>
    refine (if_neg fun may => ?_).trans oldest
    obtain ⟨d, map, on⟩ := h.targetable.mp may
    exact (first d on).1 (named.trans (congrArg some map.symm))
  · exact oldest

end AllServing

/-! ## The boundary -/

namespace Replaced

variable {enabled : Chan → Bool}

/-- The trim unit after the replacements with no rotation SHADOWING. -/
structure Unrotated (s : State) (x : Bank) : Prop where
  shadow : x.shadow = none
  rotation : x.rotation = s.nextRotation
  engine : x.engine = s.trim.engine.filter fun e => e.remaining ≠ 0
  timer : x.timer = s.nextTimer
  named : x.named = s.trim.named
  matchSum : x.matchSum = s.trim.matchSum
  spares : x.spares = s.spares.drop s.waiting.length

theorem helpers_assigned (h : Replaced s u x p) (shadow : s.trim.shadow = none) :
    Assigned u.bank x.bank s.waiting s.spares := by
  rw [h.found.plain shadow]
  exact assign_result (waiting_nodup s) (spares_nodup s) u.bank

theorem unrotated (h : Replaced s u x p) (shadow : s.trim.shadow = none) : Unrotated s x.bank := by
  have bank := h.examined.bank
  have rest := (h.helpers_assigned shadow).rest
  obtain ⟨timer, matchSum, named, -⟩ := h.reads
  have spares := h.examined.spares h.before h.built
  have left := Bank.spares_assign s.waiting [] u.bank nofun
  rw [List.append_nil, spares, ← h.found.plain shadow] at left
  exact {
    shadow := (congrArg Bank.shadow rest).trans (h.examined.shadow.trans shadow)
    rotation := (congrArg Bank.rotation rest).trans (congrArg Bank.rotation bank)
    engine := (congrArg Bank.engine rest).trans (congrArg Bank.engine bank)
    timer := (congrArg Bank.timer rest).trans timer
    named := (congrArg Bank.named rest).trans named
    matchSum := (congrArg Bank.matchSum rest).trans matchSum
    spares := left }

/-- The rotation stays as it is. -/
theorem rotation_waits (h : Replaced s u x p) (shadow : s.trim.shadow = none) (wait : s.nextRotation ≠ .due ∨
    (s.trim.engine.filter fun e => e.remaining ≠ 0) ≠ none ∨ s.spares.drop s.waiting.length = []) :
    ((x.evaluateMatch p).beginRotation enabled).bank = x.bank := by
  have state := h.unrotated shadow
  rw [evaluateMatch_idle state.shadow, beginRotation_rests]
  rw [← state.rotation, ← state.engine, ← state.spares] at wait
  exact wait

/-- With a SPARE converter left no channel stands on a FAULTED one. -/
theorem all_serving (h : Replaced s u x p) (shadow : s.trim.shadow = none) (left : s.spares.drop s.waiting.length ≠ []) :
    AllServing x := by
  have built : x.trim.mapBuilt = true := (congrArg Bank.built (h.helpers_assigned shadow).rest).trans h.ready
  refine ⟨built, h.law.apart built, fun c => ?_⟩
  have assigned := h.helpers_assigned shadow
  by_cases mem : c ∈ s.waiting
  · obtain ⟨i, hi⟩ := List.mem_iff_getElem?.mp mem
    have below : i < s.waiting.length := (List.getElem?_eq_some_iff.mp hi).1
    have enough : s.waiting.length < s.spares.length := by
      by_contra few
      exact left (List.drop_eq_nil_of_le (by omega))
    obtain ⟨map, conv, -⟩ := assigned.given i c _ hi (List.getElem?_eq_getElem (by omega))
    have conv : x.conv (x.convOf c) = _ := (congrArg x.conv map).trans conv
    rw [conv]
  · have sound : ¬ s.Faulty c := fun faulty => mem (List.mem_filter.mpr ⟨?_, ?_⟩)
    · obtain ⟨map, -⟩ := assigned.others c mem
      have map : x.convOf c = s.convOf c := map.trans (h.map c)
      have unused : x.conv (s.convOf c) = u.conv (s.convOf c) := assigned.unused _ fun i d _ hi =>
        h.examined.law.free_unassigned h.ready (.inl (h.free (List.mem_of_getElem? hi))) c (h.map c)
      rw [map, unused]
      exact h.examined.serving h.built sound
    · simp only [turns, List.mem_append, List.mem_filter, List.mem_finRange, true_and]
      exact (Bool.eq_false_or_eq_true _).imp_right fun e => by rw [e]; rfl
    · rw [decide_eq_true_iff]
      exact ⟨faulty, by rw [shadow]; nofun⟩

/-- A DUE rotation may begin: the engine is idle and a converter is SPARE. -/
structure Ready (s u x : State) (p : Nat) (v : Conv) (more : List Conv) : Prop where
  replaced : Replaced s u x p
  shadow : s.trim.shadow = none
  due : s.nextRotation = .due
  idle : (s.trim.engine.filter fun e => e.remaining ≠ 0) = none
  left : s.spares.drop s.waiting.length = v :: more

variable {v : Conv} {more : List Conv}

theorem Ready.may_begin (h : Ready s u x p v more) :
    x.evaluateMatch p = x ∧ (x.trim.rotation = .due ∧ x.trim.engine = none) ∧ x.lowestSpare = some v := by
  have state := h.replaced.unrotated h.shadow
  refine ⟨evaluateMatch_idle state.shadow p, ⟨state.rotation.trans h.due, state.engine.trans h.idle⟩, ?_⟩
  rw [lowestSpare_eq, state.spares, h.left]
  rfl

theorem Ready.serving (h : Ready s u x p v more) : AllServing x :=
  h.replaced.all_serving h.shadow (by rw [h.left]; nofun)

theorem Ready.no_target (h : Ready s u x p v more) (none : ∀ c, ¬ enabled c = true) :
    (x.evaluateMatch p).beginRotation enabled = { x with trim := { x.trim with named := Option.none } } := by
  obtain ⟨idle, due, lowest⟩ := h.may_begin
  have target := h.serving.no_target none
  rw [idle, State.beginRotation, if_pos due]
  simp only [lowest, target]

theorem Ready.begun (h : Ready s u x p v more) {c : Chan} (target : x.rotationTarget enabled = some (x.convOf c)) :
    ((x.evaluateMatch p).beginRotation enabled).bank = { x.bank.setConv v { x.conv v with state := .shadow } with
      rotation := .shadowing, shadow := some ⟨v, x.convOf c, c⟩, matchSum := 0, named := none, timer := 0 } := by
  obtain ⟨idle, due, lowest⟩ := h.may_begin
  have serving := h.serving
  have own := channelOf_convOf serving.built serving.apart c
  rw [idle, State.beginRotation, if_pos due]
  simp only [lowest, target, own]
  exact bank_begun x v _ c

end Replaced

end Sys2Proof.Machine
end

section
/-! SUPPORT. The trim unit, the converters and the channels' marks after a boundary that is not final (R125 to R133); O13. -/

namespace Sys2Proof.Machine

variable {s t u x y z : State} {b b' : Bank} {P : Prop} {p : Nat}

/-! ## What the rest of the boundary leaves of the trim unit's work -/

/-- The trim unit's work, as the state after the boundary shows it. -/
structure Carried (s t : State) (y : Bank) : Prop where
  rotation : t.trim.rotation = y.rotation
  named : t.trim.named = y.named
  shadow : t.trim.shadow = y.shadow
  timer : t.trim.timer = y.timer
  matchSum : t.trim.matchSum = y.matchSum
  engine : t.trim.engine = y.engine
  map : ∀ c, t.convOf c = y.map c
  conv : ∀ v, t.conv v = { y.conv v with stuck := (t.conv v).stuck }
  reset : ∀ v, (y.conv v).stuck = 0 → (t.conv v).stuck = 0
  mismatch : ∀ c, (t.chan c).mismatch = y.mismatch c
  noSpare : ∀ c, (t.chan c).noSpare = y.noSpare c
  handover : ∀ c, (t.chan c).handover = if (s.chan c).filling.isSome = true then y.handover c
    else y.handover c || (s.chan c).handover

theorem carried_conv (s : State) (v : Conv) :
    s.periodBoundary.conv v = { s.worked.conv v with stuck := (s.periodBoundary.conv v).stuck } ∧
      ((s.worked.conv v).stuck = 0 → (s.periodBoundary.conv v).stuck = 0) := by
  have conv := conv_periodBoundary s v
  generalize s.periodBoundary.conv v = x at conv ⊢
  rw [conv]
  split_ifs
  · exact ⟨rfl, fun _ => rfl⟩
  · exact ⟨rfl, id⟩

theorem carried_handover (s : State) (c : Chan) : (s.periodBoundary.chan c).handover =
    if (s.chan c).filling.isSome = true then (s.worked.chan c).handover
    else (s.worked.chan c).handover || (s.chan c).handover := by
  obtain ⟨-, -, -, handover, -⟩ := ended_chan s c
  have opened := Channel.eq_of_besidesSlots ((opening_frame s).chan c)
  rw [chan_committed] at opened
  rw [← handover]
  generalize s.periodBoundary.chan c = y at opened ⊢
  generalize s.ended.chan c = x at opened ⊢
  rw [opened]
  rfl

theorem carried (s : State) : Carried s s.periodBoundary s.worked.bank := by
  have bank := bank_periodBoundary s
  have handover := carried_handover s
  have conv := carried_conv s
  generalize s.periodBoundary = t at *
  exact ⟨(congrArg Bank.rotation bank :), (congrArg Bank.named bank :), (congrArg Bank.shadow bank :), (congrArg Bank.timer bank :),
    (congrArg Bank.matchSum bank :), (congrArg Bank.engine bank :), fun c => (congrFun (congrArg Bank.map bank) c :),
    fun v => (conv v).1, fun v => (conv v).2, fun c => (congrFun (congrArg Bank.mismatch bank) c :),
    fun c => (congrFun (congrArg Bank.noSpare bank) c :), handover⟩

theorem Carried.state {y : Bank} (h : Carried s t y) (v : Conv) : (t.conv v).state = (y.conv v).state := by rw [h.conv v]

theorem Carried.doneAt {y : Bank} (h : Carried s t y) (v : Conv) : (t.conv v).doneAt = (y.conv v).doneAt := by rw [h.conv v]

theorem Carried.marked {y : Bank} (h : Carried s t y) {c : Chan} (mark : y.handover c = true) : (t.chan c).handover = true := by
  rw [h.handover, mark]
  split_ifs <;> rfl

theorem matchSum_begin (x : State) (enabled : Chan → Bool) (shadow : x.trim.shadow = none) :
    (x.beginRotation enabled).trim.matchSum =
      if (x.beginRotation enabled).trim.shadow.isSome = true then 0 else x.trim.matchSum := by
  rcases beginRotation_cases x enabled with e | e | ⟨v, t, c, -, -, -, -, -, e⟩ <;> rw [e]
  · rw [shadow]
    rfl
  · simp only [shadow]
    rfl
  · rfl

theorem doneAt_begin (x : State) (enabled : Chan → Bool) (v : Conv) :
    ((x.beginRotation enabled).conv v).doneAt = (x.conv v).doneAt := by
  rcases beginRotation_cases x enabled with e | e | ⟨w, t, c, -, -, -, -, -, e⟩ <;> rw [e]
  · rfl
  · have bank := congrFun (congrArg Bank.conv (bank_begun x w t c)) v
    refine (congrArg Converter.doneAt bank).trans ?_
    simp only [Bank.setConv, Function.update_apply]
    split_ifs with same
    · rw [same]
    · rfl

/-- The match sum of a rotation that begins is 0, and any other stays (R126). -/
theorem Replaced.matchSum (h : Replaced s u x p) {enabled : Chan → Bool} :
    ((x.evaluateMatch p).beginRotation enabled).bank.matchSum =
      if ((x.evaluateMatch p).beginRotation enabled).bank.shadow.isSome = true then 0 else s.trim.matchSum := by
  have over' {r : Shadow} (e : Replaced.RotationOver s r ((x.evaluateMatch p).beginRotation enabled).bank) :
      ((x.evaluateMatch p).beginRotation enabled).bank.matchSum =
        if ((x.evaluateMatch p).beginRotation enabled).bank.shadow.isSome = true then 0 else s.trim.matchSum := by
    rw [e.shadow, e.matchSum]
    rfl
  cases shadow : s.trim.shadow with
  | none =>
    have state := h.unrotated shadow
    have sum := matchSum_begin x enabled state.shadow
    have same : x.trim.matchSum = s.trim.matchSum := state.matchSum
    rw [same, ← evaluateMatch_idle state.shadow p] at sum
    exact sum
  | some r =>
    by_cases faulty : s.Faulty r.channel
    · exact over' (h.target_faulted shadow faulty).toRotationOver
    · by_cases more : s.spares.length < s.waiting.length
      · exact over' (h.spare_taken shadow faulty more).toRotationOver
      · exact over' (h.matched shadow faulty (by omega)).toRotationOver

/-- What a boundary leaves of the trim unit, the rotation and the entries apart. -/
theorem trim_kept (h : s.TrimLaw) (running : s.cap.state = .capturing) : s.periodBoundary.trim = { s.trim with
    convs := s.periodBoundary.trim.convs, map := s.periodBoundary.trim.map, engine := s.periodBoundary.trim.engine
    rotation := s.periodBoundary.trim.rotation, named := s.periodBoundary.trim.named
    shadow := s.periodBoundary.trim.shadow, timer := s.periodBoundary.trim.timer
    matchSum := if s.periodBoundary.trim.shadow.isSome = true then 0 else s.trim.matchSum
    events := s.periodBoundary.trim.events, unlisted := s.periodBoundary.trim.unlisted } := by
  have replaced := boundary_replaced h running
  have begun : s.completeBlocks.clearMarks.trim = s.trim := by
    rw [State.clearMarks, (mapChans_changes _ _).choose_spec, State.completeBlocks, (mapChans_changes _ _).choose_spec]
  have fixed := (TrimFrame.trimBoundaryWork s.completeBlocks.clearMarks s.nextPeriod s.enabledNext).fixed
  change s.worked.trim.fixed = _ at fixed
  rw [begun] at fixed
  have built : s.worked.trim.mapBuilt = s.trim.mapBuilt := (worked_sound h running).built.trans replaced.built.symm
  have sum := replaced.matchSum (enabled := s.enabledNext)
  rw [← worked_eq] at sum
  have carried := carried s
  have trim := trim_periodBoundary s
  have shadow := carried.shadow
  have matchSum := carried.matchSum.trans sum
  rw [← shadow] at matchSum
  clear carried sum replaced shadow begun
  generalize s.worked.trim = w at fixed built trim
  generalize s.periodBoundary.trim = x at trim matchSum ⊢
  obtain ⟨k, rfl⟩ : ∃ k, x = { w with convs := k } := ⟨_, trim⟩
  simp only [TrimUnit.fixed, Prod.mk.injEq] at fixed
  obtain ⟨interval, limit, clock⟩ := fixed
  cases w
  cases hs : s.trim
  rw [hs] at interval limit clock built matchSum
  simp_all

end Sys2Proof.Machine
end

section
/-! SUPPORT. O13: the rotation at a boundary that is not final (R125 to R128, R131). -/

namespace Sys2Proof.Machine

variable {s t u x : State} {y : Bank} {p : Nat} {r : Shadow} {enabled : Chan → Bool}

namespace Carried

theorem rotationOver (h : Carried s t y) (ends : Replaced.RotationOver s r y) :
    t.trim.shadow = none ∧ t.trim.timer = s.nextTimer ∧ (t.conv (t.convOf r.channel)).state = .serving := by
  refine ⟨h.shadow.trans ends.shadow, h.timer.trans ends.timer, ?_⟩
  rw [h.state, h.map]
  exact ends.serving

theorem targetFaulted (h : Carried s t y) (ends : Replaced.TargetFaulted s r y) :
    t.trim.rotation = .idle ∧ t.trim.named = s.trim.named ∧ t.trim.engine = none ∧ t.convOf r.channel = r.spare ∧
      (t.conv r.spare).state = .serving ∧ (t.conv r.spare).stuck = 0 ∧ (t.conv r.target).state = .faulted ∧
      (t.chan r.channel).handover = true ∧ (t.chan r.channel).mismatch = 0 ∧ (t.chan r.channel).noSpare = false := by
  obtain ⟨mark, mismatch, noSpare⟩ := ends.marks
  exact ⟨h.rotation.trans ends.rotation, h.named.trans ends.named, h.engine.trans ends.engine, (h.map _).trans ends.map,
    (h.state _).trans ends.spare.1, h.reset _ ends.spare.2, (h.state _).trans ends.target, h.marked mark,
    (h.mismatch _).trans mismatch, (h.noSpare _).trans noSpare⟩

theorem spareTaken (h : Carried s t y) (ends : Replaced.SpareTaken s r y) :
    t.trim.rotation = .due ∧ t.trim.named = none ∧ t.trim.engine = none ∧ t.convOf r.channel = r.target ∧
      (t.conv r.target).state = .serving ∧ (t.chan r.channel).mismatch = (s.chan r.channel).mismatch := by
  obtain ⟨-, -, serving⟩ := h.rotationOver ends.toRotationOver
  have map := (h.map _).trans ends.map
  rw [map] at serving
  exact ⟨h.rotation.trans ends.rotation, h.named.trans ends.named, h.engine.trans ends.engine, map, serving,
    (h.mismatch _).trans ends.mismatch⟩

theorem matched (h : Carried s t y) (ends : Replaced.Matched s r y) :
    t.trim.rotation = .idle ∧ t.trim.named = s.trim.named ∧
      (s.trim.matchSum ≤ s.trim.limit * 320 →
        t.convOf r.channel = r.spare ∧ (t.conv r.spare).state = .serving ∧ (t.conv r.spare).stuck = 0 ∧
        (t.conv r.target).state = .trimming ∧ t.trim.engine = some ⟨r.target, .short, 640, 0⟩ ∧
        (t.chan r.channel).mismatch = 0 ∧ (t.chan r.channel).handover = true) ∧
      (s.trim.limit * 320 < s.trim.matchSum → (s.chan r.channel).mismatch = 0 →
        t.convOf r.channel = r.target ∧ (t.conv r.spare).state = .trimming ∧ (t.conv r.target).state = .serving ∧
        t.trim.engine = some ⟨r.spare, .long, 2560, 0⟩ ∧ (t.chan r.channel).mismatch = 1) ∧
      (s.trim.limit * 320 < s.trim.matchSum → (s.chan r.channel).mismatch ≠ 0 →
        t.convOf r.channel = r.spare ∧ (t.conv r.spare).state = .serving ∧ (t.conv r.spare).stuck = 0 ∧
        (t.conv r.target).state = .faulted ∧ t.trim.engine = none ∧ (t.chan r.channel).mismatch = 0 ∧
        (t.chan r.channel).handover = true) := by
  obtain ⟨-, -, serving⟩ := h.rotationOver ends.toRotationOver
  refine ⟨h.rotation.trans ends.rotation, h.named.trans ends.named, fun within => ?_, fun beyond first => ?_,
    fun beyond second => ?_⟩
  · obtain ⟨map, stuck, target, engine, mismatch, mark⟩ := ends.within within
    have map := (h.map _).trans map
    rw [map] at serving
    exact ⟨map, serving, h.reset _ stuck, (h.state _).trans target, h.engine.trans engine, (h.mismatch _).trans mismatch,
      h.marked mark⟩
  · obtain ⟨map, spare, engine, mismatch⟩ := ends.first beyond first
    have map := (h.map _).trans map
    rw [map] at serving
    exact ⟨map, (h.state _).trans spare, serving, h.engine.trans engine, (h.mismatch _).trans mismatch⟩
  · obtain ⟨map, stuck, target, engine, mismatch, mark⟩ := ends.second beyond second
    have map := (h.map _).trans map
    rw [map] at serving
    exact ⟨map, serving, h.reset _ stuck, (h.state _).trans target, h.engine.trans engine, (h.mismatch _).trans mismatch,
      h.marked mark⟩

theorem waits (h : Carried s t x.bank) (state : Replaced.Unrotated s x.bank) : t.trim.rotation = s.nextRotation ∧
    t.trim.timer = s.nextTimer ∧ t.trim.shadow = none ∧ t.trim.named = s.trim.named :=
  ⟨h.rotation.trans state.rotation, h.timer.trans state.timer, h.shadow.trans state.shadow, h.named.trans state.named⟩

end Carried

/-! ## A rotation that begins -/

variable {v : Conv} {more : List Conv}

theorem Replaced.Ready.left_due (h : Replaced.Ready s u x p v more)
    (carried : Carried s t ((x.evaluateMatch p).beginRotation enabled).bank) (none : ∀ c, ¬ enabled c = true) :
    t.trim.rotation = .due ∧ t.trim.timer = s.nextTimer ∧ t.trim.shadow = Option.none ∧ t.trim.named = Option.none := by
  have state := h.replaced.unrotated h.shadow
  rw [h.no_target none] at carried
  exact ⟨carried.rotation.trans (state.rotation.trans h.due), carried.timer.trans state.timer, carried.shadow.trans state.shadow,
    carried.named⟩

/-- The named target of an enabled channel, or without one the converter trimmed longest ago (R126). -/
theorem Replaced.Ready.shadowing (h : Replaced.Ready s u x p v more)
    (carried : Carried s t ((x.evaluateMatch p).beginRotation enabled).bank) {c : Chan} (on : enabled c = true)
    (chosen : s.trim.named = some (t.convOf c) ∨ ∀ d, enabled d = true → s.trim.named ≠ some (t.convOf d) ∧
      t.trimmedBefore (t.convOf c) (t.convOf d)) :
    t.trim.rotation = .shadowing ∧ t.trim.shadow = some ⟨v, t.convOf c, c⟩ ∧ (t.conv v).state = .shadow ∧
      (t.conv (t.convOf c)).state = .serving ∧ t.trim.timer = 0 ∧ t.trim.matchSum = 0 ∧ t.trim.named = none := by
  have state := h.replaced.unrotated h.shadow
  have idle := evaluateMatch_idle state.shadow p
  have named : x.trim.named = s.trim.named := state.named
  have map (d : Chan) : t.convOf d = x.convOf d := by
    have kept := ((settled_begin x enabled).chan d nofun).1
    rw [← idle] at kept
    rw [carried.map, kept, idle]
    rfl
  have doneAt (w : Conv) : t.trimTime w = x.trimTime w := by
    have kept := doneAt_begin x enabled w
    have same := carried.doneAt w
    rw [idle] at same
    exact congrArg (Option.getD · 0) (same.trans kept)
  have target : x.rotationTarget enabled = some (x.convOf c) := by
    simp only [State.trimmedBefore, map, doneAt, ← named] at chosen
    rcases chosen with taken | oldest
    · exact h.serving.named_target on taken
    · exact h.serving.oldest_target on oldest
  have serving := h.serving.serving c
  have spare : (x.bank.conv v).state = .spare := by
    have mem : v ∈ x.bank.spares := by
      rw [state.spares, h.left]
      exact List.mem_cons_self
    exact of_decide_eq_true (List.mem_filter.mp mem).2
  have apart : x.convOf c ≠ v := fun e => by
    rw [e] at serving
    exact nomatch serving.symm.trans spare
  rw [h.begun target] at carried
  rw [map]
  refine ⟨carried.rotation, carried.shadow, ?_, ?_, carried.timer, carried.matchSum, carried.named⟩
  · rw [carried.state]
    simp only [Bank.setConv, Function.update_self]
  · rw [carried.state]
    simp only [Bank.setConv, Function.update_of_ne apart]
    exact serving

/-! ## The obligation -/

/-- Settles O13: the rotation SHADOWING by what the replacements leave of it, and the one that begins by the SPARE converters
they leave. -/
theorem periodBoundaryTurnsTheRotation : Obligations.PeriodBoundaryTurnsTheRotation := by
  unfold Obligations.PeriodBoundaryTurnsTheRotation
  intro s boundary law
  have running := boundary.1
  have replaced := boundary_replaced law running
  have carried := carried s
  have kept := trim_kept law running
  have run := exec_periodBoundary boundary
  rw [worked_eq] at carried
  generalize s.boundaryReplaced = x at replaced carried
  generalize s.periodBoundary = t at run kept carried
  refine ⟨t, run, kept, fun n enabled left hn hen hleft => ?_⟩
  obtain rfl : n = s.nextTimer := hn
  obtain rfl : enabled = fun c => (s.newSettings c).enable = true := funext fun c => propext (hen c)
  obtain rfl := hleft
  refine ⟨fun r shadow => ?_, fun idle early => ?_, fun due => ?_⟩
  · have ends : Replaced.RotationOver s r ((x.evaluateMatch s.nextPeriod).beginRotation s.enabledNext).bank := by
      by_cases faulty : s.Faulty r.channel
      · exact (replaced.target_faulted shadow faulty).toRotationOver
      · by_cases few : s.spares.length < s.waiting.length
        · exact (replaced.spare_taken shadow faulty few).toRotationOver
        · exact (replaced.matched shadow faulty (by omega)).toRotationOver
    obtain ⟨ended, timer, -⟩ := carried.rotationOver ends
    exact ⟨ended, timer, fun faulty => carried.targetFaulted (replaced.target_faulted shadow faulty),
      fun sound few => carried.spareTaken (replaced.spare_taken shadow sound few),
      fun sound enough => carried.matched (replaced.matched shadow sound enough)⟩
  · have shadow : s.trim.shadow = none := by
      rw [← Option.not_isSome_iff_eq_none]
      exact fun some => nomatch idle.symm.trans (replaced.before.rotates.mpr some)
    have next : s.nextRotation = .idle := by
      rw [State.nextRotation, if_neg (by omega), idle]
    rw [replaced.rotation_waits shadow (.inl (by rw [next]; nofun))] at carried
    rw [← next]
    exact carried.waits (replaced.unrotated shadow)
  · have shadow : s.trim.shadow = none := by
      rw [← Option.not_isSome_iff_eq_none]
      intro some
      have rotates := replaced.before.rotates.mpr some
      rcases due with due | ⟨idle, -⟩
      · exact nomatch due.symm.trans rotates
      · exact nomatch idle.symm.trans rotates
    have next : s.nextRotation = .due := by
      rw [State.nextRotation]
      split_ifs with begins
      · rfl
      · rcases due with due | ⟨idle, on, late⟩
        · exact due
        · exact absurd ⟨on, idle, late⟩ begins
    refine ⟨fun wait => ?_, fun v more done left => ?_⟩
    · rw [replaced.rotation_waits shadow (.inr (wait.imp_left fun ⟨e, engine, runs⟩ => ?_))] at carried
      · rw [← next]
        exact carried.waits (replaced.unrotated shadow)
      · rw [Option.mem_def.mp engine, Option.filter_some, if_pos (decide_eq_true runs)]
        nofun
    · have ready : Replaced.Ready s s.boundaryExamined x s.nextPeriod v more := by
        refine ⟨replaced, shadow, next, Option.filter_eq_none_iff.mpr fun e he => ?_, left⟩
        simpa using done e he
      exact ⟨ready.left_due carried, fun c on chosen => ready.shadowing carried on
        (chosen.imp_right fun first d hd => first d hd)⟩

end Sys2Proof.Machine
end

section
/-! SUPPORT. The converters and the channels after a boundary that is not final (R121, R130 to R133). -/

namespace Sys2Proof.Machine

variable {s t u x : State} {y : Bank} {p : Nat} {c : Chan} {v : Conv}

/-- The trim unit's work of a boundary and the state after it. -/
structure Work (s u : State) (y : Bank) (t : State) (p : Nat) : Prop where
  examined : Examined s u p
  before : s.bank.Law False
  built : s.trim.mapBuilt = true
  moved : Moved s.relieved u.bank y
  placed : Placed s u.bank y
  carried : Carried s t y
  loose : ∀ v, (∀ c, t.convOf c ≠ v) → t.conv v = y.conv v

theorem work (h : s.TrimLaw) (running : s.cap.state = .capturing) :
    Work s s.boundaryExamined s.worked.bank s.periodBoundary s.nextPeriod := by
  have replaced := boundary_replaced h running
  refine ⟨replaced.examined, replaced.before, replaced.built, worked_moved h running, replaced.placed_all, carried s,
    fun v free => ?_⟩
  have map (c : Chan) := (carried s).map c
  have none : s.worked.channelOf v = none := channelOf_eq_none.mpr (.inr fun c e => free c ((map c).trans e))
  rw [conv_periodBoundary, none]
  rfl

namespace Work

theorem ready (h : Work s u y t p) : u.bank.built = true := (congrArg Bank.built h.examined.bank).trans h.built

theorem map (h : Work s u y t p) (c : Chan) : u.bank.map c = s.convOf c := congrFun h.examined.convOf c

theorem marks (h : Work s u y t p) (c : Chan) : u.bank.mismatch c = (s.chan c).mismatch ∧ u.bank.handover c = false ∧
    u.bank.noSpare c = (s.chan c).noSpare := by
  have bank := h.examined.bank
  exact ⟨(congrFun (congrArg Bank.mismatch bank) c :), (congrFun (congrArg Bank.handover bank) c :),
    (congrFun (congrArg Bank.noSpare bank) c :)⟩

/-- No free converter serves a channel. -/
theorem free_apart (h : Work s u y t p) (free : u.bank.free v) (c : Chan) : s.convOf c ≠ v := by
  rw [← h.map]
  exact h.examined.law.free_unassigned h.ready free c

/-- A channel keeps its converter, or takes a free one and is marked (R133). -/
theorem handed (h : Work s u y t p) (c : Chan) : (t.convOf c = s.convOf c ∧ y.handover c = false) ∨
    (t.convOf c ≠ s.convOf c ∧ u.bank.free (t.convOf c) ∧ y.handover c = true) := by
  rw [h.carried.map]
  rcases h.moved.map c with ⟨map, mark⟩ | ⟨free, mark⟩
  · exact .inl ⟨map.trans (h.map c), mark⟩
  · exact .inr ⟨fun e => h.free_apart free c e.symm, free, mark⟩

theorem handover (h : Work s u y t p) (c : Chan) : (t.chan c).handover = if t.convOf c ≠ s.convOf c then true
    else if (s.chan c).filling.isSome = true then false else (s.chan c).handover := by
  rw [h.carried.handover]
  rcases h.handed c with ⟨kept, mark⟩ | ⟨new, -, mark⟩
  · rw [if_neg (not_not.mpr kept), mark, Bool.false_or]
  · rw [if_pos new, mark, Bool.true_or, ite_self]

/-- The channels that wait for a replacement (R131, R132). -/
theorem replaced (h : Work s u y t p) : s.Replaced t s.waiting s.helpers := by
  intro i c hc
  obtain ⟨faulty, apart⟩ := mem_waiting (List.mem_of_getElem? hc)
  have faulted := (h.examined.faulty c).mpr faulty
  have still := h.moved.still c fun ⟨r, hr, own, _⟩ => apart r hr own
  rw [Bank.faulty, h.map] at faulted
  rw [h.map] at still
  refine ⟨(h.carried.state _).trans (still.trans faulted), fun v hv => ?_, fun none => ?_⟩
  · obtain ⟨map, conv, mark, mismatch, noSpare⟩ := h.placed.given i c v hc hv
    exact ⟨(h.carried.map c).trans map, by rw [h.carried.state, conv], h.carried.reset v (by rw [conv]), h.carried.marked mark,
      (h.carried.mismatch c).trans mismatch, (h.carried.noSpare c).trans noSpare⟩
  · obtain ⟨map, -, mismatch, noSpare⟩ := h.placed.left i c hc none
    exact ⟨(h.carried.map c).trans (map.trans (h.map c)), (h.carried.noSpare c).trans noSpare,
      (h.carried.mismatch c).trans (mismatch.trans (h.marks c).1)⟩

/-- A channel that does not wait keeps what it has. -/
theorem kept (h : Work s u y t p) (idle : c ∉ s.waiting) (apart : ∀ r ∈ s.trim.shadow, r.channel ≠ c) :
    t.convOf c = s.convOf c ∧ (t.chan c).mismatch = (s.chan c).mismatch ∧ (t.chan c).noSpare = (s.chan c).noSpare := by
  obtain ⟨map, -, mismatch, noSpare⟩ := h.placed.others c idle apart
  obtain ⟨mismatch', -, noSpare'⟩ := h.marks c
  exact ⟨(h.carried.map c).trans (map.trans (h.map c)), (h.carried.mismatch c).trans (mismatch.trans mismatch'),
    (h.carried.noSpare c).trans (noSpare.trans noSpare')⟩

/-- A channel that keeps its converter keeps its mismatch count. -/
theorem mismatch (h : Work s u y t p) (apart : ∀ r ∈ s.trim.shadow, r.channel ≠ c) (same : t.convOf c = s.convOf c) :
    (t.chan c).mismatch = (s.chan c).mismatch := by
  by_cases waits : c ∈ s.waiting
  · obtain ⟨i, hi⟩ := List.mem_iff_getElem?.mp waits
    obtain ⟨-, given, left⟩ := h.replaced i c hi
    cases hv : s.helpers[i]? with
    | none => exact (left hv).2.2
    | some v =>
      rcases h.moved.map c with ⟨-, mark⟩ | ⟨free, -⟩
      · exact nomatch mark.symm.trans (h.placed.given i c v hi hv).2.2.1
      · rw [← h.carried.map] at free
        exact absurd same.symm (h.free_apart free c)
  · exact (h.kept waits apart).2.1

/-! ## Converters that serve no channel -/

/-- A converter outside every channel, before and after, and outside the rotation, is as the examination left it. -/
theorem idle (h : Work s u y t p) (before : ∀ c, s.convOf c ≠ v) (after : ∀ c, t.convOf c ≠ v)
    (held : ∀ r ∈ t.trim.shadow, r.spare ≠ v) (calm : (u.conv v).state ≠ .shadow) : t.conv v = u.conv v := by
  have before : ∀ c, u.bank.map c ≠ v := fun c => by rw [h.map]; exact before c
  have after' : ∀ c, y.map c ≠ v := fun c => by rw [← h.carried.map]; exact after c
  have state := h.moved.idle v before after' (fun r hr => held r (h.carried.shadow.trans hr)) calm
  have stuck := h.moved.unassigned v before
  rw [if_neg fun ⟨c, hc⟩ => after' c hc] at stuck
  rw [h.loose v after, h.moved.kept v, state, stuck]
  rfl

/-- A converter that is not free is outside every channel and the rotation, if it was. -/
theorem busy (h : Work s u y t p) (before : ∀ c, s.convOf c ≠ v) (busy : ¬ u.bank.free v) : t.conv v = u.conv v := by
  refine h.idle before (fun c e => ?_) (fun r hr e => ?_) fun state => busy (.inr state)
  · rcases h.handed c with ⟨same, -⟩ | ⟨-, free, -⟩
    · exact before c (same.symm.trans e)
    · exact busy (e ▸ free)
  · exact busy (e ▸ h.moved.shadow r (h.carried.shadow.symm.trans hr))

theorem fields (h : Work s u y t p) (v : Conv) : t.conv v = { u.conv v with state := (t.conv v).state, stuck := (t.conv v).stuck } := by
  have state := h.carried.state v
  rw [h.carried.conv v, h.moved.kept v]
  rfl

/-- The converter whose trim has ended, or goes on (R121). -/
theorem trimmed (h : Work s u y t p) {e : Engine} (engine : s.trim.engine = some e) :
    (∀ c, s.convOf c ≠ e.conv) ∧ (s.conv e.conv).state = .trimming ∧
      u.conv e.conv = if e.remaining = 0 then (s.conv e.conv).trimmed e.mean s.trim.trimClock else s.conv e.conv := by
  have state : (s.conv e.conv).state = .trimming := (h.before.trimming e.conv).mpr (congrArg (Option.map Engine.conv) engine)
  have apart (c : Chan) : s.convOf c ≠ e.conv := fun same => by
    have assigned : (s.conv (s.convOf c)).state = .serving ∨ (s.conv (s.convOf c)).state = .faulted := h.before.assigned h.built c
    rw [same, state] at assigned
    rcases assigned with e | e <;> cases e
  refine ⟨apart, state, ?_⟩
  rw [h.examined.unassigned _ apart, State.rested, engine]
  simp only [and_true]

/-- A converter whose trim does not end keeps all but its state and its stuck count through the examination. -/
theorem examined_fields (h : Work s u y t p) (ends : ∀ e ∈ s.trim.engine, e.conv = v → ¬ e.EndsInRange) :
    t.conv v = { s.conv v with state := (t.conv v).state, stuck := (t.conv v).stuck } := by
  have same : u.conv v = { s.conv v with state := (u.conv v).state, stuck := (u.conv v).stuck } := by
    by_cases assigned : ∃ c, s.convOf c = v
    · obtain ⟨c, rfl⟩ := assigned
      rw [h.examined.assigned, Converter.examined]
      split_ifs <;> rfl
    · rw [h.examined.unassigned v fun c hc => assigned ⟨c, hc⟩, State.rested]
      cases engine : s.trim.engine with
      | none => rfl
      | some e =>
        simp only []
        split_ifs with done
        · have beyond : ¬ (-24000 ≤ e.mean ∧ e.mean ≤ 24000) := fun range => ends e engine done.2 ⟨done.1, range⟩
          rw [Converter.trimmed, if_neg beyond]
        · rfl
  rw [h.fields v, same]

end Work

end Sys2Proof.Machine
end

section
/-! SUPPORT. O12: the trim unit's work at a boundary, but for the rotation (R121, R131 to R134). -/

namespace Sys2Proof.Machine

variable {s t u x : State} {y : Bank} {p : Nat} {c : Chan} {v : Conv} {r : Shadow}

/-- Whatever becomes of a rotation, its channel has a SERVING converter, and so is not in the no-spare set (R131). -/
theorem Replaced.ends (h : Replaced s u x p) {enabled : Chan → Bool} (shadow : s.trim.shadow = some r) :
    Replaced.RotationOver s r ((x.evaluateMatch p).beginRotation enabled).bank := by
  by_cases faulty : s.Faulty r.channel
  · exact (h.target_faulted shadow faulty).toRotationOver
  · by_cases few : s.spares.length < s.waiting.length
    · exact (h.spare_taken shadow faulty few).toRotationOver
    · exact (h.matched shadow faulty (by omega)).toRotationOver

theorem spared (h : s.TrimLaw) (running : s.cap.state = .capturing) (shadow : s.trim.shadow = some r) :
    (s.periodBoundary.chan r.channel).noSpare = false := by
  have ends := (boundary_replaced h running).ends (enabled := s.enabledNext) shadow
  rw [← worked_eq] at ends
  rw [(carried s).noSpare, ← Bool.not_eq_true]
  intro member
  obtain ⟨-, faulted⟩ := (worked_sound h running).law.spareless r.channel member
  exact nomatch ends.serving.symm.trans faulted

/-- With no rotation SHADOWING no trim begins at a boundary. -/
theorem engine_periodBoundary (h : s.TrimLaw) (running : s.cap.state = .capturing) (shadow : s.trim.shadow = none) :
    s.periodBoundary.trim.engine = s.trim.engine.filter fun e => e.remaining ≠ 0 := by
  have state := (boundary_replaced h running).unrotated shadow
  rw [(carried s).engine, worked_eq, evaluateMatch_idle state.shadow, ← state.engine]
  rcases beginRotation_cases s.boundaryReplaced s.enabledNext with e | e | ⟨v, t, c, -, -, -, -, -, e⟩ <;> rw [e] <;> rfl

/-- The converter in the engine (R121). -/
theorem Work.engine (h : Work s u y t p) : ∀ e ∈ s.trim.engine,
    (e.EndsInRange →
      t.conv e.conv = { s.conv e.conv with
        state := (t.conv e.conv).state, stuck := (t.conv e.conv).stuck
        offset := e.mean, doneAt := some s.trim.trimClock } ∧
      ((∀ c, t.convOf c ≠ e.conv) → (∀ r ∈ t.trim.shadow, r.spare ≠ e.conv) → (t.conv e.conv).state = .spare)) ∧
    (e.EndsFaulted → t.conv e.conv = { s.conv e.conv with state := .faulted }) ∧
    (e.remaining ≠ 0 → t.conv e.conv = s.conv e.conv) := by
  intro e engine
  obtain ⟨apart, trimming, after⟩ := h.trimmed engine
  refine ⟨fun ⟨done, range⟩ => ?_, fun ⟨done, beyond⟩ => ?_, fun runs => ?_⟩
  · rw [if_pos done, Converter.trimmed, if_pos range] at after
    have state : (u.conv e.conv).state = .spare := by rw [after]
    refine ⟨?_, fun unassigned held => ?_⟩
    · have fields := h.fields e.conv
      rwa [after] at fields
    · rw [h.idle apart unassigned held (by rw [state]; nofun), state]
  · rw [if_pos done, Converter.trimmed, if_neg (by omega)] at after
    have state : (u.bank.conv e.conv).state = .faulted := congrArg Converter.state after
    rw [h.busy apart (by rw [Bank.free, state]; nofun), after]
  · rw [if_neg runs] at after
    have state : (u.bank.conv e.conv).state = .trimming := (congrArg Converter.state after).trans trimming
    rw [h.busy apart (by rw [Bank.free, state]; nofun), after]

/-- A SPARE or FAULTED converter that takes no part is unchanged. -/
theorem Work.unchanged (h : Work s u y t p) (state : (s.conv v).state = .spare ∨ (s.conv v).state = .faulted)
    (apart : ∀ c, s.convOf c ≠ v ∧ t.convOf c ≠ v) (held : ∀ r ∈ t.trim.shadow, r.spare ≠ v) : t.conv v = s.conv v := by
  have rested : u.conv v = s.conv v := by
    rw [h.examined.unassigned v fun c => (apart c).1, State.rested]
    cases engine : s.trim.engine with
    | none => rfl
    | some e =>
      refine if_neg fun ends => ?_
      have trimming := (h.trimmed engine).2.1
      rw [ends.2] at trimming
      rcases state with state | state <;> exact nomatch state.symm.trans trimming
  rw [← rested] at state ⊢
  exact h.idle (fun c => (apart c).1) (fun c => (apart c).2) held fun shadow => by
    rcases state with state | state <;> exact nomatch state.symm.trans shadow

theorem logged_entries (logged : Logged s t s.boundaryEntries) (next : Nat)
    (entry : ConverterEvent → ConverterCause → Conv → Option Chan → Option Conv → ConverterEntry) (all : List ConverterEntry)
    (hnext : next = (s.cap.period + 1) % 4294967296) (hentry : ∀ ev k v c o, entry ev k v c o = ⟨ev, k, v, c, o, s.cap.number, next⟩)
    (hall : all = ((s.trim.engine.toList.filter fun e => e.EndsFaulted).map fun e => entry .faulted .trim e.conv none none) ++
      s.stuckEntries next ++
      ((s.trim.shadow.toList.filter fun r => s.Faulty r.channel).map fun r =>
        entry .handover .unmatched r.spare (some r.channel) (some r.target)) ++
      s.replacementEntries s.waiting s.helpers s.cap.number next ++
      ((s.trim.shadow.toList.filter fun r => ¬ s.Faulty r.channel ∧ s.waiting.length ≤ s.spares.length).flatMap fun r =>
        if s.trim.matchSum ≤ s.trim.limit * 320 then
          [entry .handover .rotation r.spare (some r.channel) (some r.target)]
        else if (s.chan r.channel).mismatch = 0 then []
        else [entry .faulted .mismatch r.target (some r.channel) none,
          entry .handover .mismatch r.spare (some r.channel) (some r.target)])) :
    (t.trim.events, t.trim.unlisted) = pushAll (s.trim.events, s.trim.unlisted) all ∧
      flagSet t.link.raised .converter = (flagSet s.link.raised .converter || decide (all ≠ [])) := by
  obtain rfl : next = s.nextPeriod := hnext
  simp only [hentry] at hall
  obtain rfl : all = s.boundaryEntries := hall
  refine ⟨logged.events, logged.flag.trans ?_⟩
  cases s.boundaryEntries <;> rfl

/-- Settles O12: the work read channel by channel and converter by converter, with the entries in the order of its stages. -/
theorem periodBoundaryReplacesFaultedConverters : Obligations.PeriodBoundaryReplacesFaultedConverters := by
  unfold Obligations.PeriodBoundaryReplacesFaultedConverters
  intro s boundary law
  have running := boundary.1
  have run := exec_periodBoundary boundary
  have work := work law running
  have spared (r : Shadow) (hr : r ∈ s.trim.shadow) := spared law running hr
  have engine := engine_periodBoundary law running
  have logged := logged_periodBoundary law running
  generalize s.boundaryExamined = u at work
  generalize s.periodBoundary = t at run work spared engine logged
  refine ⟨t, run, work.replaced, fun c sound apart => ?_, work.handover, fun c apart => work.mismatch apart, spared, work.engine,
    engine, fun v ends => work.examined_fields ends, fun v state => work.unchanged state, fun next entry all => logged_entries logged next entry all⟩
  have idle : c ∉ s.waiting := fun waits => sound (mem_waiting waits).1
  obtain ⟨map, mismatch, noSpare⟩ := work.kept idle apart
  have mark := work.handover c
  rw [if_neg (not_not.mpr map)] at mark
  exact ⟨map, mismatch, noSpare, mark⟩

end Sys2Proof.Machine
end

section
/-! SUPPORT. The converters after a final boundary (R129, R130, R134). -/

namespace Sys2Proof.Machine

variable {s t u x : State} {y : Bank} {p : Nat} {c : Chan} {v : Conv}

theorem exec_finalBoundary (h : s.AtFinalBoundary) : exec .finalBoundary s = .next s.finalBoundary := by
  obtain ⟨running, last, ends⟩ := h
  have due : s.boundaryDue = true := boundaryDue_iff.mpr ⟨running, last⟩
  have final : s.finalDue = true := by
    rw [State.finalDue, Bool.or_eq_true]
    exact ends.imp_right fun limit => decide_eq_true limit
  exact congrArg Host.Outcome.next (if_pos ⟨due, final⟩)

/-! ## The examination -/

theorem mapped_of_trim (h : t.trim = s.trim) : t.convOf = s.convOf ∧ t.trim.mapBuilt = s.trim.mapBuilt :=
  ⟨funext fun c => (congrArg (fun x : TrimUnit => x.map.get c) h :), congrArg TrimUnit.mapBuilt h⟩

theorem built_of_bank {b : Bank} (h : t.bank = b) : t.trim.mapBuilt = b.built := congrArg Bank.built h

theorem convOf_of_bank {b : Bank} (h : t.bank = b) : t.convOf = b.map := congrArg Bank.map h

theorem conv_of_bank {b : Bank} (h : t.bank = b) : t.conv = b.conv := congrArg Bank.conv h

theorem examinedConverter_congr (convOf : t.convOf = s.convOf) (built : t.trim.mapBuilt = s.trim.mapBuilt) (conv : t.conv = s.conv)
    (settings : ∀ c, (t.chan c).settings = (s.chan c).settings) : t.examinedConverter = s.examinedConverter := by
  have channelOf : t.channelOf = s.channelOf := by
    unfold State.channelOf
    rw [built, convOf]
  funext v
  unfold State.examinedConverter
  rw [channelOf, conv]
  simp only [settings]

theorem stuckEntries_congr (convOf : t.convOf = s.convOf) (conv : t.conv = s.conv) (cap : t.cap = s.cap)
    (settings : ∀ c, (t.chan c).settings = (s.chan c).settings) (p : Nat) : t.stuckEntries p = s.stuckEntries p := by
  have found (c : Chan) : t.FoundStuck c ↔ s.FoundStuck c := by simp only [State.FoundStuck, convOf, conv, settings]
  simp only [State.stuckEntries, convOf, found, cap]

theorem settings_completeBlocks (s : State) (c : Chan) : (s.completeBlocks.chan c).settings = (s.chan c).settings := by
  rw [chan_completeBlocks, Channel.complete_eq]

theorem cap_completeBlocks (s : State) : s.completeBlocks.cap = s.cap :=
  (congrArg State.cap (mapChans_changes s fun _ ch => ch.complete).choose_spec :)

theorem trim_completeBlocks (s : State) : s.completeBlocks.trim = s.trim :=
  (congrArg State.trim (mapChans_changes s fun _ ch => ch.complete).choose_spec :)

/-- The work of a final boundary on the converters: the examination, and the end of a rotation (R129, R130). -/
theorem bank_workedFinally_eq (s : State) :
    s.workedFinally.bank = ({ s.bank with conv := s.examinedConverter } : Bank).abandoned := by
  have bank := bank_completeBlocks s
  rw [bank_workedFinally, (stuckExamination_result _ _).1, bank, examinedConverter_congr (convOf_of_bank bank)
    (built_of_bank bank) (conv_of_bank bank) (settings_completeBlocks s)]

/-- A converter after a final boundary: its stuck count is 0 when the commit disables its channel (R130). -/
theorem conv_committedFinally (s : State) (v : Conv) : s.finalBoundary.conv v =
    if (s.channelOf v).any (fun c => (s.chan c).settings.enable && !(s.newSettings c).enable) = true then
      { s.workedFinally.conv v with stuck := 0 } else s.workedFinally.conv v := by
  have conv : s.endedFinally.conv v = s.workedFinally.conv v :=
    State.conv_congr (congrArg TrimUnit.convs (endedFinally_trim s)) v
  have bank := bank_workedFinally_eq s
  have map : s.endedFinally.convOf = s.convOf := by
    have map : s.workedFinally.convOf = s.convOf := convOf_of_bank bank
    exact (mapped_of_trim (endedFinally_trim s)).1.trans map
  have built : s.endedFinally.trim.mapBuilt = s.trim.mapBuilt := by
    have built : s.workedFinally.trim.mapBuilt = s.trim.mapBuilt := built_of_bank bank
    exact (mapped_of_trim (endedFinally_trim s)).2.trans built
  have channelOf : s.endedFinally.channelOf v = s.channelOf v := by
    unfold State.channelOf
    rw [built, map]
  have settings (c : Chan) : (s.endedFinally.chan c).settings = (s.chan c).settings ∧
      (s.endedFinally.chan c).pendingSettings = (s.chan c).pendingSettings := by
    rw [(endedFinally_frame s).chan c]
    exact ⟨rfl, rfl⟩
  rw [conv_finalBoundary, conv_commitSettings, conv, channelOf]
  simp only [State.enabledNext, settings]

theorem convOf_finalBoundary (s : State) : s.finalBoundary.convOf = s.convOf := by
  have worked : s.workedFinally.convOf = s.convOf := convOf_of_bank (bank_workedFinally_eq s)
  have ended : s.finalBoundary.convOf = s.workedFinally.convOf := convOf_of_bank (bank_finalBoundary s)
  exact ended.trans worked

/-! ## The entries of the CONVERTER notice -/

theorem converter_flag_finalBoundary (s : State) :
    flagSet s.finalBoundary.link.raised .converter = flagSet s.workedFinally.link.raised .converter := by
  obtain ⟨⟨st, ch, e⟩, -⟩ := postBlocks_frame s s.completeBlocks.trimFinalWork
  obtain ⟨st', m, r, flags, h⟩ := closedMarked_changes s
  have ended : s.endedFinally.link.raised = s.workedFinally.link.raised := by
    rw [endedFinally_eq, e]
    rfl
  have closed : s.closed.link.raised = s.endedFinally.link.raised := by
    rw [(closed_result s).link]
  have marked : flagSet s.closedMarked.link.raised .converter = flagSet s.workedFinally.link.raised .converter := by
    rw [h, flags.same (by decide), closed, ended]
  rw [finalBoundary_eq, toStandby_eq, ← marked]
  simp only [flagSet_or]
  simp

theorem Logged.abandonRotation (s : State) : Logged s s.abandonRotation [] := by
  have mapped (f : Conv → Converter → Converter) : ∃ y, s.mapConvs f = { s with trim := { s.trim with convs := y } } :=
    ⟨_, rfl⟩
  refine silent ?_ ?_ ?_ <;> simp only [State.abandonRotation] <;> rw [(mapped _).choose_spec]

/-- The entries of a final boundary's work (R130, R134). -/
theorem logged_workedFinally (h : s.TrimLaw) (running : s.cap.state = .capturing) :
    Logged s.completeBlocks s.workedFinally (s.stuckEntries s.cap.period) := by
  obtain ⟨law, -, built⟩ := law_of_running h running
  have bank := bank_completeBlocks s
  have map : s.completeBlocks.convOf = s.convOf := convOf_of_bank bank
  have mapped : s.completeBlocks.trim.mapBuilt = true := (built_of_bank bank).trans built
  have same := stuckEntries_congr map (conv_of_bank bank) (cap_completeBlocks s) (settings_completeBlocks s) s.cap.period
  have entries := (stuckExamination_result s.completeBlocks s.cap.period).2
  have apart : ∀ c d, s.completeBlocks.convOf c = s.completeBlocks.convOf d → c = d := by
    rw [map]
    exact law.apart built
  rw [← stuckEntries_eq mapped apart, same] at entries
  rw [State.workedFinally, State.trimFinalWork, cap_completeBlocks]
  exact entries.after (.abandonRotation _)

theorem logged_finalBoundary (h : s.TrimLaw) (running : s.cap.state = .capturing) :
    Logged s s.finalBoundary (s.stuckEntries s.cap.period) := by
  obtain ⟨events, flag⟩ := logged_workedFinally h running
  have same : s.completeBlocks.link = s.link :=
    (congrArg State.link (mapChans_changes s fun _ ch => ch.complete).choose_spec :)
  have final := converter_flag_finalBoundary s
  have trim := trim_finalBoundary s
  rw [trim_completeBlocks] at events
  rw [same] at flag
  generalize s.workedFinally = w at events flag final trim
  generalize s.finalBoundary = t at final trim ⊢
  refine ⟨?_, final.trans flag⟩
  rw [trim]
  exact events

end Sys2Proof.Machine
end

section
/-! SUPPORT. O11: the examination at both boundaries (R130). -/

namespace Sys2Proof.Machine

variable {s t u x : State} {y : Bank} {p : Nat} {c : Chan} {v : Conv}

/-- The stuck counts after a boundary (R130). -/
structure Counted (s t : State) : Prop where
  served : ∀ c, (t.conv (s.convOf c)).stuck =
    if t.convOf c = s.convOf c ∧ (s.chan c).settings.enable = true ∧ (s.newSettings c).enable = false then 0
    else if (s.conv (s.convOf c)).state = .serving ∧ (s.chan c).settings.enable = true
    then (if (s.conv (s.convOf c)).runEqual = true then (s.conv (s.convOf c)).stuck + 1 else 0)
    else (s.conv (s.convOf c)).stuck
  loose : ∀ v, (∀ c, s.convOf c ≠ v) → (t.conv v).stuck = if ∃ c : Chan, t.convOf c = v then 0 else (s.conv v).stuck

/-- A SERVING converter has at most one stuck count. -/
theorem Converter.Law.counts {x : Converter} (h : x.Law) (serving : x.state = .serving) : x.stuck ≤ 1 := by
  obtain ⟨-, -, -, low, -⟩ := h
  exact low serving

theorem Converter.stuck_examined {x : Converter} (low : x.stuck ≤ 1) :
    x.examined.stuck = if x.runEqual = true then x.stuck + 1 else 0 := by
  unfold Converter.examined
  split_ifs
  · rfl
  · exact (by omega : 2 = x.stuck + 1)
  · rfl

/-- The stuck count of a converter its channel keeps or loses, once the examination has counted it. -/
theorem stuck_committed {b : Bool} {x : Converter} :
    (if b = true then { x with stuck := 0 } else x).stuck = if b = true then 0 else x.stuck := by
  split_ifs <;> rfl

theorem disables_iff (s : State) (c : Chan) : ((s.chan c).settings.enable && !(s.newSettings c).enable) = true ↔
    (s.chan c).settings.enable = true ∧ (s.newSettings c).enable = false := by simp

theorem counted_periodBoundary (h : s.TrimLaw) (running : s.cap.state = .capturing) : Counted s s.periodBoundary := by
  have work := work h running
  have sound := worked_sound h running
  have conv := conv_periodBoundary s
  refine ⟨fun c => ?_, fun v unassigned => ?_⟩
  · have map := work.map c
    have counted : (s.worked.conv (s.convOf c)).stuck =
        if (s.conv (s.convOf c)).state = .serving ∧ (s.chan c).settings.enable = true
        then (if (s.conv (s.convOf c)).runEqual = true then (s.conv (s.convOf c)).stuck + 1 else 0)
        else (s.conv (s.convOf c)).stuck := by
      have same := work.moved.assigned c
      rw [map] at same
      refine same.trans ((congrArg Converter.stuck (work.examined.assigned c)).trans ?_)
      split_ifs with examined equal
      · exact (Converter.stuck_examined ((work.before.conv _).counts examined.1)).trans (if_pos equal)
      · exact (Converter.stuck_examined ((work.before.conv _).counts examined.1)).trans (if_neg equal)
      · rfl
    have own : s.worked.channelOf (s.convOf c) = if s.periodBoundary.convOf c = s.convOf c then some c else none := by
      have worked (d : Chan) : s.periodBoundary.convOf d = s.worked.convOf d := work.carried.map d
      split_ifs with kept
      · rw [← kept, worked]
        exact channelOf_convOf sound.built (sound.law.apart sound.built) c
      · refine channelOf_eq_none.mpr (.inr fun d hd => ?_)
        rcases work.handed d with ⟨same, -⟩ | ⟨-, free, -⟩
        · obtain rfl := work.before.apart work.built d c ((same.symm.trans (worked d)).trans hd)
          exact kept same
        · rw [worked, hd] at free
          exact work.free_apart free c rfl
    rw [conv, stuck_committed, counted, own]
    by_cases kept : s.periodBoundary.convOf c = s.convOf c
    · simp only [kept, if_true, Option.any_some, disables_iff, true_and]
    · simp only [kept, if_false, Option.any_none, Bool.false_eq_true, false_and]
  · have free : ∀ c, s.boundaryExamined.bank.map c ≠ v := fun c => by rw [work.map]; exact unassigned c
    have stuck := work.moved.unassigned v free
    simp only [← work.carried.map] at stuck
    have rested : (s.boundaryExamined.bank.conv v).stuck = (s.conv v).stuck := by
      have rested := work.examined.unassigned v unassigned
      refine (congrArg Converter.stuck rested).trans ?_
      rw [State.rested]
      cases s.trim.engine with
      | none => rfl
      | some e =>
        simp only [Converter.trimmed]
        split_ifs <;> rfl
    rw [rested] at stuck
    by_cases serves : ∃ c, s.periodBoundary.convOf c = v
    · rw [if_pos serves] at stuck ⊢
      exact work.carried.reset v stuck
    · rw [work.loose v fun c hc => serves ⟨c, hc⟩]
      exact stuck

theorem counted_finalBoundary (h : s.TrimLaw) (running : s.cap.state = .capturing) : Counted s s.finalBoundary := by
  obtain ⟨law, -, built⟩ := law_of_running h running
  have conv := conv_committedFinally s
  have map := convOf_finalBoundary s
  have worked (v : Conv) : (s.workedFinally.conv v).stuck = (s.examinedConverter v).stuck := by
    rw [conv_of_bank (bank_workedFinally_eq s)]
    simp only [Bank.abandoned]
    split_ifs <;> rfl
  generalize s.workedFinally = w at conv worked
  generalize s.finalBoundary = t at conv map ⊢
  refine ⟨fun c => ?_, fun v unassigned => ?_⟩
  · have own := channelOf_convOf built (law.apart built) c
    have kept : t.convOf c = s.convOf c := congrFun map c
    rw [conv, stuck_committed, worked, State.examinedConverter, own]
    simp only [Option.any_some, disables_iff, kept, true_and]
    split_ifs with disables examined equal
    · rfl
    · exact (Converter.stuck_examined ((law.conv _).counts examined.1)).trans (if_pos equal)
    · exact (Converter.stuck_examined ((law.conv _).counts examined.1)).trans (if_neg equal)
    · rfl
  · have none : s.channelOf v = none := channelOf_eq_none.mpr (.inr unassigned)
    have unserved : ¬ ∃ c, s.convOf c = v := fun ⟨c, hc⟩ => unassigned c hc
    rw [conv, stuck_committed, worked, State.examinedConverter, none, map]
    exact (if_neg unserved).symm

/-! ## The obligation -/

/-- What the counts come to in a channel that keeps its converter, and in a converter that was not SERVING. -/
theorem Counted.kept (h : Counted s t) (serving : (s.conv (s.convOf c)).state = .serving) (kept : t.convOf c = s.convOf c) :
    (t.conv (s.convOf c)).stuck = if (s.chan c).settings.enable = false then (s.conv (s.convOf c)).stuck
      else if (s.conv (s.convOf c)).runEqual = true ∧ (s.newSettings c).enable = true
      then (s.conv (s.convOf c)).stuck + 1 else 0 := by
  rw [h.served c]
  simp only [kept, serving, true_and]
  cases (s.chan c).settings.enable <;> cases (s.newSettings c).enable <;> simp

theorem Counted.unexamined (h : Counted s t) (idle : (s.conv v).state ≠ .serving) :
    (t.conv v).stuck = (s.conv v).stuck ∨ (t.conv v).stuck = 0 := by
  by_cases assigned : ∃ c, s.convOf c = v
  · obtain ⟨c, rfl⟩ := assigned
    rw [h.served c]
    simp only [idle, false_and, if_false]
    split_ifs
    · exact .inr rfl
    · exact .inl rfl
  · rw [h.loose v fun c hc => assigned ⟨c, hc⟩]
    split_ifs
    · exact .inr rfl
    · exact .inl rfl

theorem mem_stuckEntries (found : s.FoundStuck c) (p : Nat) : s.stuckEntries p ≠ [] := by
  refine List.ne_nil_of_mem (a := ⟨.faulted, .stuck, s.convOf c, some c, none, s.cap.number, p⟩) ?_
  refine List.mem_flatMap.mpr ⟨s.convOf c, List.mem_finRange _, List.mem_map.mpr ⟨c, ?_, rfl⟩⟩
  exact List.mem_filter.mpr ⟨List.mem_finRange c, decide_eq_true ⟨rfl, found⟩⟩

theorem Logged.raised {es : List ConverterEntry} (h : Logged s t es) (some : es ≠ []) :
    flagSet t.link.raised .converter = true := by
  rw [h.flag]
  cases es with
  | nil => contradiction
  | cons => simp

/-- What the examination makes of the states (R130); the rotation's own channel stands apart at a boundary that is not final. -/
structure Stated (s t : State) (apart : Chan → Prop) : Prop where
  stuck : ∀ c, s.FoundStuck c → (t.conv (s.convOf c)).state = .faulted ∧ flagSet t.link.raised .converter = true
  serving : ∀ c, (s.conv (s.convOf c)).state = .serving → ¬ s.FoundStuck c → apart c →
    (t.conv (s.convOf c)).state = .serving ∧ t.convOf c = s.convOf c

theorem stated_periodBoundary (h : s.TrimLaw) (running : s.cap.state = .capturing) :
    Stated s s.periodBoundary fun c => ∀ r ∈ s.trim.shadow, r.channel ≠ c := by
  have work := work h running
  have state (c : Chan) (hc : ¬ s.relieved c) : (s.periodBoundary.conv (s.convOf c)).state =
      (s.boundaryExamined.conv (s.convOf c)).state := by
    have still := work.moved.still c hc
    rw [work.map c] at still
    exact (work.carried.state _).trans still
  refine ⟨fun c found => ⟨?_, ?_⟩, fun c serving unfound apart => ⟨?_, ?_⟩⟩
  · have faulty := (work.examined.faulty c).mpr (.inr found)
    rw [Bank.faulty, work.map c] at faulty
    rw [state c fun ⟨_, _, _, sound⟩ => sound (.inr found)]
    exact faulty
  · refine (logged_periodBoundary h running).raised fun none => mem_stuckEntries found s.nextPeriod ?_
    simp only [State.boundaryEntries, List.append_eq_nil_iff] at none
    exact none.1.1.1.2
  · have sound : ¬ s.Faulty c := fun faulty => faulty.elim (fun e => nomatch e.symm.trans serving) unfound
    rw [state c fun ⟨r, hr, own, _⟩ => apart r hr own]
    exact work.examined.serving work.built sound
  · have sound : ¬ s.Faulty c := fun faulty => faulty.elim (fun e => nomatch e.symm.trans serving) unfound
    exact (work.kept (fun waits => sound (mem_waiting waits).1) apart).1

theorem stated_finalBoundary (h : s.TrimLaw) (running : s.cap.state = .capturing) :
    Stated s s.finalBoundary fun _ => True := by
  obtain ⟨law, -, built⟩ := law_of_running h running
  have map := convOf_finalBoundary s
  have logged := logged_finalBoundary h running
  have final := conv_state_finalBoundary s
  rw [conv_of_bank (bank_workedFinally_eq s)] at final
  generalize s.finalBoundary = t at final map logged ⊢
  have state (c : Chan) : (t.conv (s.convOf c)).state = if s.FoundStuck c then .faulted else (s.conv (s.convOf c)).state := by
    have own := channelOf_convOf built (law.apart built) c
    have assigned : (s.conv (s.convOf c)).state = .serving ∨ (s.conv (s.convOf c)).state = .faulted := law.assigned built c
    rw [final]
    simp only [Bank.abandoned, State.examinedConverter, own, Converter.examined, State.FoundStuck]
    grind
  refine ⟨fun c found => ⟨(state c).trans (if_pos found), logged.raised (mem_stuckEntries found _)⟩,
    fun c serving unfound _ => ⟨((state c).trans (if_neg unfound)).trans serving, congrFun map c⟩⟩

/-- Settles O11: the counts and the states of both boundaries, from the examination and the commit. -/
theorem boundariesExamineTheConverters : Obligations.BoundariesExamineTheConverters := by
  unfold Obligations.BoundariesExamineTheConverters
  rintro s i law (⟨rfl, boundary⟩ | ⟨rfl, boundary⟩)
  · have running := boundary.1
    obtain ⟨stuck, serving⟩ := stated_periodBoundary law running
    have counted := counted_periodBoundary law running
    refine ⟨s.periodBoundary, exec_periodBoundary boundary, stuck, fun c on unfound apart => ?_, fun v => counted.unexamined,
      counted.served, counted.loose⟩
    obtain ⟨state, kept⟩ := serving c on unfound (apart rfl)
    exact ⟨state, counted.kept on kept⟩
  · have running := boundary.1
    obtain ⟨stuck, serving⟩ := stated_finalBoundary law running
    have counted := counted_finalBoundary law running
    refine ⟨s.finalBoundary, exec_finalBoundary boundary, stuck, fun c on unfound _ => ?_, fun v => counted.unexamined,
      counted.served, counted.loose⟩
    obtain ⟨state, kept⟩ := serving c on unfound trivial
    exact ⟨state, counted.kept on kept⟩

end Sys2Proof.Machine
end

section
/-! SUPPORT. O15: the final boundary (R13, R14, R72, R78, R100, R129, R133). -/

namespace Sys2Proof.Machine

variable {s t u x : State} {c : Chan} {v : Conv}

/-! ## The channels -/

theorem endedFinally_chan (s : State) (c : Chan) : (s.endedFinally.chan c).block = none ∧
    (s.endedFinally.chan c).filling = none ∧
    (s.endedFinally.chan c).gapTally = (if (s.chan c).filling.isSome = true then 0 else (s.chan c).gapTally) ∧
    (s.endedFinally.chan c).mismatch = (s.chan c).mismatch ∧ (s.endedFinally.chan c).noSpare = (s.chan c).noSpare := by
  have worked : Worked s s.workedFinally := workedFinally_frame s
  obtain ⟨-, -, -, -, gap, filling, -⟩ := worked.fields c
  have bank := bank_workedFinally_eq s
  have mismatch : (s.workedFinally.chan c).mismatch = (s.chan c).mismatch := congrFun (congrArg Bank.mismatch bank) c
  have noSpare : (s.workedFinally.chan c).noSpare = (s.chan c).noSpare := congrFun (congrArg Bank.noSpare bank) c
  have posted : s.endedFinally.chan c = _ := (chan_postBlocks s s.workedFinally c).1
  rw [posted]
  generalize s.workedFinally.chan c = x at gap filling mismatch noSpare ⊢
  simp only [Channel.posted, gap, filling, mismatch, noSpare, and_self]

theorem chan_finalBoundary (s : State) (c : Chan) : s.finalBoundary.chan c =
    { (s.endedFinally.chan c).commitSettings with pendingRoute := none, route := .mic, handover := false } := by
  rw [finalBoundary_eq, chan_toStandby, chan_closedMarked]

/-- What a final boundary leaves of a channel (R5, R7, R13, R77, R133). -/
structure Channel.Closed (ch after : Channel) : Prop where
  settings : after.settings = ch.settings.over ch.pendingSettings
  pending : after.pendingSettings = PendingSettings.empty ∧ after.pendingRoute = none
  route : after.route = .mic
  slot : after.block = none ∧ after.filling = none ∧ after.handover = false
  counts : after.lastSeq = ch.lastSeq ∧ after.seqCount = ch.seqCount
  gapTally : after.gapTally = if ch.filling.isSome = true then 0 else ch.gapTally
  starvation : after.starvation = ch.starvation ∧ after.starved = ch.starved ∧ after.newlyStarved = ch.newlyStarved
  marks : after.mismatch = ch.mismatch ∧ after.noSpare = ch.noSpare

theorem closed_chan (s : State) (c : Chan) : (s.chan c).Closed (s.finalBoundary.chan c) := by
  obtain ⟨block, filling, gap, mismatch, noSpare⟩ := endedFinally_chan s c
  have ended := (endedFinally_frame s).chan c
  rw [chan_finalBoundary]
  generalize s.endedFinally.chan c = x at *
  refine ⟨?_, ⟨rfl, rfl⟩, rfl, ⟨block, filling, rfl⟩, ⟨?_, ?_⟩, gap, ⟨?_, ?_, ?_⟩, ⟨mismatch, noSpare⟩⟩
  · rw [ended]
    rfl
  · exact (congrArg Channel.lastSeq ended :)
  · exact (congrArg Channel.seqCount ended :)
  · exact (congrArg Channel.starvation ended :)
  · exact (congrArg Channel.starved ended :)
  · exact (congrArg Channel.newlyStarved ended :)

theorem heard_finalBoundary (s : State) (c : Chan) :
    (s.chan c).Heard (s.finalBoundary.chan c) (s.endedFinally.chan c).chain := by
  obtain ⟨block, -⟩ := endedFinally_chan s c
  have ended := (endedFinally_frame s).chan c
  rw [chan_finalBoundary]
  generalize s.endedFinally.chan c = x at *
  have level : x.lastLevel = (s.chan c).heard.1 := by rw [ended]
  have activity : (x.activity, x.hangCounter) = (s.chan c).heard.2 := by rw [ended]
  exact .settle block level activity ⟨rfl, rfl, rfl⟩ rfl ⟨rfl, rfl⟩

/-! ## The capture engine and the trim unit -/

/-- The capture engine after a final boundary (R13, R14, R72, R78). -/
theorem cap_finalBoundary (s : State) : s.finalBoundary.cap = { s.cap with
    state := .standby, instant := 0, proceeding := .standby, pendingProceeding := none
    changes := (pushListed s.cap.changes s.cap.changesUnlisted ⟨s.cap.number, s.cap.period, s.cap.proceeding, .standby,
      s.endCause⟩).1
    changesUnlisted := (pushListed s.cap.changes s.cap.changesUnlisted ⟨s.cap.number, s.cap.period,
      s.cap.proceeding, .standby, s.endCause⟩).2
    notice := some ⟨s.endReason, s.cap.number, s.cap.period,
      (List.finRange 24).map fun c =>
        ⟨(s.chan c).lastSeq, if (s.chan c).filling.isSome = true then 0 else (s.chan c).gapTally⟩⟩ } := by
  have chans : (allChans.map fun c => (⟨(s.closedMarked.chan c).lastSeq, (s.closedMarked.chan c).gapTally⟩ : ChannelTail)) =
      (List.finRange 24).map fun c =>
        ⟨(s.chan c).lastSeq, if (s.chan c).filling.isSome = true then 0 else (s.chan c).gapTally⟩ := by
    refine List.map_congr_left fun c _ => ?_
    have closed := closed_chan s c
    rw [chan_finalBoundary] at closed
    rw [chan_closedMarked, ← closed.counts.1, ← closed.gapTally]
  have cap := cap_closedMarked s
  rw [finalBoundary_eq, toStandby_eq]
  generalize s.closedMarked = m at chans cap ⊢
  simp only [State.captureContents, chans, State.closingChange]
  rw [cap]

theorem parts_finalBoundary (s : State) : s.finalBoundary.floor = { s.floor with holder := none, challenger := none } ∧
    s.finalBoundary.pending = s.pending ∧ s.finalBoundary.ticks = s.ticks ∧ s.finalBoundary.stream = s.stream ∧
    s.finalBoundary.time = s.time ∧ s.finalBoundary.feed = s.feed := by
  obtain ⟨st, m, r, -, h⟩ := closedMarked_changes s
  have closed := closed_result s
  have ended := endedFinally_frame s
  rw [finalBoundary_eq, toStandby_eq, h]
  generalize s.endedFinally = e at closed ended
  generalize s.closed = w at closed
  refine ⟨?_, closed.pending.trans ended.pending, closed.ticks.trans ended.ticks, closed.stream.trans ended.stream,
    closed.time.trans ended.time, closed.feed.trans ended.feed⟩
  simp only [closed.floor, ended.floor]

theorem trim_kept_finally (s : State) : s.finalBoundary.trim = { s.trim with
    convs := s.finalBoundary.trim.convs, rotation := .idle, named := none, shadow := none
    events := s.finalBoundary.trim.events, unlisted := s.finalBoundary.trim.unlisted } := by
  have trim := trim_finalBoundary s
  have bank := bank_workedFinally_eq s
  have frame : TrimFrame s.completeBlocks s.workedFinally := .trimFinalWork _
  have fixed := frame.fixed
  rw [trim_completeBlocks] at fixed
  clear frame
  generalize s.finalBoundary.trim = x at trim ⊢
  generalize s.workedFinally = z at trim bank fixed
  have map := convOf_of_bank bank
  have built := built_of_bank bank
  have engine : z.trim.engine = s.trim.engine := congrArg Bank.engine bank
  have rotation : z.trim.rotation = .idle := congrArg Bank.rotation bank
  have named : z.trim.named = none := congrArg Bank.named bank
  have shadow : z.trim.shadow = none := congrArg Bank.shadow bank
  have matchSum : z.trim.matchSum = s.trim.matchSum := congrArg Bank.matchSum bank
  have timer : z.trim.timer = s.trim.timer := congrArg Bank.timer bank
  have same : z.trim.map = s.trim.map := by
    refine Vector.ext fun i hi => ?_
    have at' := congrFun map ⟨i, hi⟩
    exact at'
  clear bank map
  generalize z.trim = w at *
  obtain ⟨k, rfl⟩ : ∃ k, x = { w with convs := k } := ⟨_, trim⟩
  simp only [TrimUnit.fixed, Prod.mk.injEq] at fixed
  obtain ⟨interval, limit, clock⟩ := fixed
  have built : w.mapBuilt = s.trim.mapBuilt := built
  cases w
  cases hs : s.trim
  rw [hs] at interval limit clock built same engine matchSum timer
  simp_all

theorem state_shadow_finally (shadow : (s.conv v).state = .shadow) : (s.finalBoundary.conv v).state = .spare := by
  have still : s.examinedConverter v = s.conv v := by
    rw [State.examinedConverter]
    cases s.channelOf v with
    | none => rfl
    | some c => exact if_neg fun h => by rw [shadow] at h; cases h.1
  rw [conv_state_finalBoundary, conv_of_bank (bank_workedFinally_eq s)]
  simp only [Bank.abandoned, still]
  rw [if_pos shadow]

/-- The examination of a channel's converter changes its state and its stuck count alone (R130). -/
theorem examinedConverter_own (own : s.channelOf (s.convOf c) = some c) : s.examinedConverter (s.convOf c) =
    { s.conv (s.convOf c) with
      stuck := (s.examinedConverter (s.convOf c)).stuck
      state := if s.FoundStuck c then .faulted else (s.conv (s.convOf c)).state } := by
  rw [State.examinedConverter, own]
  simp only []
  split_ifs with examined found found
  · obtain ⟨-, -, equal, once⟩ := found
    rw [Converter.examined, if_pos equal, if_neg (by omega)]
  · rw [Converter.examined]
    split_ifs with equal first
    · rfl
    · exact absurd ⟨examined.1, examined.2, equal, by omega⟩ found
    · rfl
  · exact absurd ⟨found.1, found.2.1⟩ examined
  · rfl

theorem conv_kept_finally (h : s.TrimLaw) (running : s.cap.state = .capturing) (v : Conv) :
    s.finalBoundary.conv v = { s.conv v with
      stuck := (s.finalBoundary.conv v).stuck
      state := if (s.conv v).state = .shadow then .spare
        else if ∃ c : Chan, s.convOf c = v ∧ s.FoundStuck c then .faulted else (s.conv v).state } := by
  obtain ⟨law, -, built⟩ := law_of_running h running
  have worked : s.workedFinally.conv v = { s.conv v with
      stuck := (s.workedFinally.conv v).stuck
      state := if (s.conv v).state = .shadow then .spare
        else if ∃ c : Chan, s.convOf c = v ∧ s.FoundStuck c then .faulted else (s.conv v).state } := by
    rw [conv_of_bank (bank_workedFinally_eq s)]
    simp only [Bank.abandoned]
    cases own : s.channelOf v with
    | none =>
      have examined : s.examinedConverter v = s.conv v := by rw [State.examinedConverter, own]
      have unfound : ¬ ∃ c : Chan, s.convOf c = v ∧ s.FoundStuck c := fun ⟨c, hc, _⟩ => channelOf_none own built c hc
      rw [examined, if_neg unfound]
      split_ifs <;> rfl
    | some c =>
      obtain ⟨-, rfl⟩ := channelOf_some own
      have found : (∃ d : Chan, s.convOf d = s.convOf c ∧ s.FoundStuck d) ↔ s.FoundStuck c :=
        ⟨fun ⟨d, hd, found⟩ => law.apart built d c hd ▸ found, fun found => ⟨c, rfl, found⟩⟩
      have assigned : (s.conv (s.convOf c)).state = .serving ∨ (s.conv (s.convOf c)).state = .faulted := law.assigned built c
      have calm : (s.conv (s.convOf c)).state ≠ .shadow := by rcases assigned with e | e <;> rw [e] <;> nofun
      have examined := examinedConverter_own own
      generalize s.examinedConverter (s.convOf c) = y at examined ⊢
      have still : y.state ≠ .shadow := by
        rw [examined]
        simp only []
        split_ifs
        · nofun
        · exact calm
      simp only [if_neg still, if_neg calm, found]
      exact examined
  have final := conv_committedFinally s v
  generalize s.workedFinally.conv v = w at worked final
  generalize s.finalBoundary.conv v = x at final ⊢
  rw [final]
  split_ifs at * <;> rw [worked]

end Sys2Proof.Machine
end

section
/-! SUPPORT. O15: the records, the flags and the answers of a final boundary (R5, R6, R13, R40, R111, R171). -/

namespace Sys2Proof.Machine

variable {s t u x : State} {c : Chan} {v : Conv}

/-! ## The records -/

/-- The state a final boundary's marker step finds. -/
structure ClosedFrame (s u : State) (recs : List AudioRecord) : Prop where
  store : u.store = { s.store with
    posted := s.store.posted ++ recs.map fun r => ⟨.audio r, s.ticks⟩, lastCustody := s.store.lastCustody + recs.length }
  marks : u.marks = s.marks
  ticks : u.ticks = s.ticks
  number : u.cap.number = s.cap.number
  store_flag : flagSet u.link.raised .store = flagSet s.link.raised .store
  marker_flag : flagSet u.link.raised .marker = flagSet s.link.raised .marker

theorem closed_frame (s : State) : ∃ recs, ClosedFrame s s.closed recs ∧
    Posting s s.workedFinally s.endedFinally allChans recs := by
  obtain ⟨recs, posting⟩ := postBlocks_posting s s.workedFinally
  have posting : Posting s s.workedFinally s.endedFinally allChans recs := posting
  have closed := closed_result s
  have ended := endedFinally_frame s
  have worked : Worked s s.workedFinally := workedFinally_frame s
  have store := posting.store
  refine ⟨recs, ?_, posting⟩
  clear posting
  generalize s.workedFinally = w at store worked
  generalize s.endedFinally = e at store closed ended
  generalize s.closed = u at closed ⊢
  have link : u.link.raised = e.link.raised := by rw [closed.link]
  refine ⟨?_, closed.marks.trans ended.marks, closed.ticks.trans ended.ticks, ?_, ?_, ?_⟩
  · rw [closed.store, store, worked.store, worked.ticks]
  · rw [closed.cap, ended.cap]
  · rw [link, ended.flags.same (by decide)]
  · rw [link, ended.flags.same (by decide)]

/-- The marker step of a final boundary: the only slot request (R13, R111). -/
theorem closed_turn (s : State) : ∃ recs ms, ClosedFrame s s.closed recs ∧
    Posting s s.workedFinally s.endedFinally allChans recs ∧
    MarkerTurn s.closed s.closedMarked s.cap.period (markerTag s.cap.proceeding) s.cap.stamp ms := by
  obtain ⟨recs, frame, posting⟩ := closed_frame s
  obtain ⟨ms, turn⟩ := takeMarkers_turn s.closed s.closed.cap.period (markerTag s.closed.cap.proceeding) s.closed.cap.stamp
  have cap : s.closed.cap = { s.cap with pendingProceeding := none } := by
    rw [(closed_result s).cap, (endedFinally_frame s).cap]
  refine ⟨recs, ms, frame, posting, ?_⟩
  rw [State.closedMarked]
  generalize s.closed = u at turn cap ⊢
  rw [cap] at turn ⊢
  exact turn

/-- Store and marker unit are those of the marker step; the flags are its flags, PROCEEDING and CAPTURE. -/
theorem marked_parts (s : State) : s.finalBoundary.store = s.closedMarked.store ∧ s.finalBoundary.marks = s.closedMarked.marks ∧
    flagSet s.finalBoundary.link.raised .marker = flagSet s.closedMarked.link.raised .marker ∧
    flagSet s.finalBoundary.link.raised .store = flagSet s.closedMarked.link.raised .store := by
  rw [finalBoundary_eq, toStandby_eq]
  simp only [flagSet_or]
  simp

/-- Blocks and markers of a final boundary (R5, R6, R86, R111 to R115). -/
structure ClosingRecords (s t : State) (recs : List AudioRecord) (ms : List MarkerRecord) : Prop where
  blocks : s.BlocksPosted t recs
  markers : s.marks.Step t.marks (none ∈ (s.store.run s.marks.request).1) s.cap.number
    (s.store.lastCustody + recs.length + 1) s.cap.period (markerTag s.cap.proceeding) s.cap.stamp ms
  posted : t.store.posted = s.store.posted ++ recs.map (fun r => ⟨.audio r, s.ticks⟩) ++ ms.map (fun m => ⟨.marker m, s.ticks⟩)
  lastCustody : t.store.lastCustody = s.store.lastCustody + recs.length + ms.length
  sending : t.store.sending = s.store.sending
  allocated : s.store.Allocated t.store s.marks.request
  flag : flagSet t.link.raised .marker = (flagSet s.link.raised .marker || !ms.isEmpty)
  store : flagSet t.link.raised .store = (flagSet s.link.raised .store ||
    decide (t.store.level ≠ s.store.level ∨ t.store.custody ≠ s.store.custody))

theorem closing_records (s : State) : ∃ recs ms, ClosingRecords s s.finalBoundary recs ms := by
  obtain ⟨recs, ms, frame, posting, turn⟩ := closed_turn s
  have worked : Worked s s.workedFinally := workedFinally_frame s
  have blocks : s.BlocksPosted s.finalBoundary recs := blocksPosted worked posting (conv_state_finalBoundary s)
    (heard_finalBoundary s)
  obtain ⟨store, marks, marker, raised⟩ := marked_parts s
  have run : s.closed.store.run s.marks.request = s.store.run s.marks.request := by rw [frame.store]; rfl
  clear posting worked
  generalize s.closed = u at frame turn run
  generalize s.closedMarked = m at store marks marker raised turn
  generalize s.finalBoundary = t at blocks store marks marker raised ⊢
  have allocated := turn.allocated (allocated_nil m.store)
  have step := turn.step
  rw [List.append_nil, frame.marks, frame.store] at allocated
  rw [frame.marks, run, frame.number, frame.store] at step
  have level : u.store.level = s.store.level := by rw [frame.store]; rfl
  have custody : u.store.custody = s.store.custody := by rw [frame.store]
  have flag := turn.run.flag
  rw [level, custody, frame.store_flag, or_false] at flag
  refine ⟨recs, ms, blocks, ?_, ?_, ?_, ?_, ?_, ?_, ?_⟩
  · rw [marks]
    exact step
  · rw [store, turn.posted, frame.store, frame.ticks]
  · rw [store, turn.lastCustody, frame.store]
  · rw [store, turn.run.sending, frame.store]
  · rw [store]
    exact allocated
  · rw [marker, turn.flag, frame.marker_flag]
  · rw [raised, store, Bool.eq_iff_iff, flag, Bool.or_eq_true, decide_eq_true_iff]

/-! ## The obligation -/

/-- The answers of a final boundary, request by request (R13, R72). -/
theorem finalAnswers_apply (s : State) : s.finalAnswers = fun q => match q with
    | .settings => some (.ok, [])
    | .route _ => some (.superseded, [])
    | .proceeding r => some (.superseded, be 1 r.code ++ be 1 s.cap.proceeding.code ++ [0x00#8] ++ be 4 s.cap.period)
    | .close => some (.ok, be 4 s.cap.period) := by
  funext q
  cases q <;> rfl

/-- Settles O15. -/
theorem finalBoundaryEndsTheCapture : Obligations.FinalBoundaryEndsTheCapture := by
  unfold Obligations.FinalBoundaryEndsTheCapture
  intro s boundary
  have running := boundary.1
  have run := exec_finalBoundary boundary
  have cap := cap_finalBoundary s
  obtain ⟨r, flags, capture, proceeding, link⟩ := link_finalBoundary s
  have logged := fun law : s.TrimLaw => logged_finalBoundary law running
  have conv := fun law : s.TrimLaw => conv_kept_finally law running
  have chan := closed_chan s
  have heard := heard_finalBoundary s
  obtain ⟨floor, pending, ticks, stream, time, feed⟩ := parts_finalBoundary s
  have trim := trim_kept_finally s
  have shadow (v : Conv) := state_shadow_finally (s := s) (v := v)
  obtain ⟨recs, ms, records⟩ := closing_records s
  generalize s.finalBoundary = t at *
  have raised : t.link.raised = r := by rw [link]
  subst raised
  refine ⟨t, run, ?_, capture, proceeding, ?_, fun k => flags.keeps, records.store, fun law => ⟨(logged law).events, ?_, conv law⟩,
    fun c => ?_, floor, trim, shadow, ⟨recs, ms, records.blocks, records.markers, records.posted, records.lastCustody,
      records.sending, records.allocated, records.flag⟩, ?_, pending, ticks, stream, time, feed⟩
  · rw [cap]
    rfl
  · intro k hk
    refine flags.same ?_
    simp only [List.mem_cons, List.not_mem_nil, or_false] at hk
    rcases hk with rfl | rfl | rfl <;> decide
  · refine (logged law).flag.trans ?_
    cases s.stuckEntries s.cap.period <;> rfl
  · obtain ⟨settings, ⟨none, route⟩, mic, ⟨block, filling, mark⟩, ⟨lastSeq, seqCount⟩, gap, ⟨starvation, starved, newly⟩,
      mismatch, noSpare⟩ := chan c
    exact ⟨settings, none, route, mic, block, filling, mark, lastSeq, seqCount, gap, starvation, starved, newly, mismatch, noSpare,
      (heard c).lastLevel⟩
  · rw [finalAnswers_apply] at link
    exact link

end Sys2Proof.Machine
end

section
/-! SUPPORT. OPEN_CAPTURE: the replacements and the opening allocation (R2, R3, R130 to R134). -/

namespace Sys2Proof.Machine

variable {s t u w : State} {c : Chan} {v : Conv}

/-! ## The replacements -/

theorem noSpare_of_bank {b : Bank} (h : t.bank = b) (c : Chan) : (t.chan c).noSpare = b.noSpare c :=
  congrFun (congrArg Bank.noSpare h) c

/-- The channels on a FAULTED converter, in the order of their turns, and the converters they take (R131). -/
def State.openBad (s : State) : List Chan :=
  (turns fun c => (s.chan c).settings.enable).filter fun c => (s.conv (s.convOf c)).state = .faulted

def State.openSpares (s : State) : List Conv := (List.finRange 26).filter fun v => (s.conv v).state = .spare

theorem openBad_nodup (s : State) : s.openBad.Nodup := (turns_nodup _).filter _

theorem openSpares_nodup (s : State) : s.openSpares.Nodup := (List.nodup_finRange 26).filter _

/-- The bank an OPEN_CAPTURE's replacements begin with (R125, R130). -/
def State.openBank (s : State) : Bank := { s.bank with
  conv := fun v => { s.conv v with stuck := 0 }, rotation := .idle, shadow := none, named := none, timer := 0 }

/-- The state of an OPEN_CAPTURE once the trim unit's work is done. -/
abbrev State.openWorked (s : State) : State := s.openState.trimOpenWork

theorem bank_openCleared (s : State) : s.openState.cleared.bank = s.openBank := by
  have bank := bank_openState s
  rw [bank_cleared, State.openBank, bank, conv_of_bank bank]
  rfl

theorem openState_keeps (s : State) : s.openState.trim = s.trim ∧ s.openState.store = s.store ∧ s.openState.ticks = s.ticks ∧
    s.openState.link = { s.link with raised := s.link.raised ||| NoticeKind.proceeding.flag } := by
  obtain ⟨k, ch, m, fl, x, h⟩ := openState_frame s
  rw [h]
  exact ⟨rfl, rfl, rfl, rfl⟩

theorem cleared_logged (s : State) : Logged s s.cleared [] := by
  have mapped (f : Conv → Converter → Converter) : ∃ y, s.mapConvs f = { s with trim := { s.trim with convs := y } } :=
    ⟨_, rfl⟩
  refine .silent ?_ ?_ ?_ <;> simp only [State.cleared, State.clearStuck] <;> rw [(mapped _).choose_spec] <;> rfl

theorem logged_openState (s : State) : Logged s s.openState [] := by
  obtain ⟨trim, -, -, link⟩ := openState_keeps s
  refine .silent (by rw [trim]) (by rw [trim]) ?_
  rw [link]
  simp

/-- What the replacements of an OPEN_CAPTURE make of a state. -/
structure OpenReplaced (s w : State) : Prop where
  bank : w.bank = s.openBank.assign s.openBad s.openSpares
  logged : Logged s w (s.replacementEntries s.openBad s.openSpares ((s.cap.number + 1) % 65536) 0)

theorem openReplaced (s : State) : OpenReplaced s s.openWorked := by
  have bank := bank_openCleared s
  have chan (c : Chan) : (s.openState.cleared.chan c).noSpare = (s.chan c).noSpare :=
    noSpare_of_bank bank c
  have settings (c : Chan) : (s.openState.chan c).settings = (s.chan c).settings := by rw [chan_openState]; rfl
  have logged := (logged_openState s).trans (cleared_logged s.openState)
  have cap : s.openState.cap.period = 0 ∧ s.openState.cap.number = (s.cap.number + 1) % 65536 := by
    rw [cap_openState]
    exact ⟨rfl, rfl⟩
  have number : s.openState.cleared.cap.number = s.openState.cap.number := by
    simp only [State.cleared, State.clearStuck, State.endRotation, State.mapConvs]
  have idle : s.openState.cleared.shadowing = none := by
    rw [shadowing_bank, bank]
    rfl
  have map (c : Chan) : s.openState.cleared.convOf c = s.convOf c := congrFun (convOf_of_bank bank) c
  rw [State.openWorked, trimOpenWork_eq]
  simp only [settings]
  rw [cap.1]
  rw [cap.2] at number
  generalize s.openState.cleared = o at bank chan logged number idle map ⊢
  have target : o.replaceTarget 0 = o := by
    unfold State.replaceTarget
    rw [idle]
  have work : o.replaceFaulted 0 (fun c => (s.chan c).settings.enable) =
      (turns fun c => (s.chan c).settings.enable).foldl (State.replace 0) o := by
    unfold State.replaceFaulted
    rw [target]
    rfl
  have bad : ((turns fun c => (s.chan c).settings.enable).filter fun c => o.bank.faulty c) = s.openBad := by
    rw [bank]
    rfl
  have spares : o.bank.spares = s.openSpares := by rw [bank]; rfl
  obtain ⟨aid, assign⟩ := Bank.aid_idle (b := o.bank) (by rw [bank]; rfl)
  have fold := replace_fold 0 (turns fun c => (s.chan c).settings.enable) o (turns_nodup _) fun r hr => by
    rw [← shadowing_bank, idle] at hr
    cases hr
  rw [bad] at fold
  rw [work]
  obtain ⟨after, entries⟩ := fold
  rw [assign, spares, bank] at after
  rw [aid, spares, number, replacementEntries_congr fun c _ => ⟨map c, chan c⟩] at entries
  exact ⟨after, logged.trans entries⟩

theorem openAssigned (s : State) : Assigned s.openBank s.openWorked.bank s.openBad s.openSpares := by
  rw [(openReplaced s).bank]
  exact assign_result (openBad_nodup s) (openSpares_nodup s) _

/-! ## The opening allocation -/

/-- What the trim unit's work leaves of the parts the opening allocation reads. -/
structure OpenedFrame (s w : State) : Prop where
  store : w.store = s.store
  ticks : w.ticks = s.ticks
  marks : w.marks = { s.marks with sequence := 0, chain := 0xFFFFFFFF#32 }
  number : w.cap.number = (s.cap.number + 1) % 65536
  stamp : w.stampNow.day = s.time.day ∧ w.stampNow.instant = s.time.instant ∧ w.stampNow.quality = s.time.quality
  chan : ∀ c, w.chan c = { (s.chan c).opened with
    mismatch := (w.chan c).mismatch, handover := (w.chan c).handover, noSpare := (w.chan c).noSpare }
  store_flag : flagSet w.link.raised .store = flagSet s.link.raised .store
  marker_flag : flagSet w.link.raised .marker = flagSet s.link.raised .marker

theorem openedFrame (s : State) : OpenedFrame s s.openWorked := by
  have frame := TrimFrame.trimOpenWork s.openState
  obtain ⟨-, store, ticks, link⟩ := openState_keeps s
  have marks : s.openState.marks = { s.marks with sequence := 0, chain := 0xFFFFFFFF#32 } := by
    simp [State.openState, State.addChange, State.raise, State.mapChans]
  have time : s.openState.time = { s.time with stepMark := false } := by
    simp [State.openState, State.addChange, State.raise, State.mapChans]
  have cap := cap_openState s
  have chan := chan_openState s
  have stamp : s.openWorked.time = s.openState.time := frame.time
  have flag (k : NoticeKind) (h : k ≠ .proceeding) : flagSet s.openState.link.raised k = flagSet s.link.raised k := by
    rw [link]
    simp [h]
  refine ⟨frame.store.trans store, frame.ticks.trans ticks, frame.marks.trans marks, ?_, ?_, fun c => ?_, ?_, ?_⟩
  · rw [frame.cap, cap]
  · rw [State.stampNow, stamp, time]
    exact ⟨rfl, rfl, rfl⟩
  · rw [← chan c]
    exact frame.chan c
  · rw [frame.flags.same (by decide), flag _ (by decide)]
  · rw [frame.flags.same (by decide), flag _ (by decide)]

/-- The requests of an OPEN_CAPTURE's allocation run. -/
abbrev State.openRequests (s : State) : List (Option Chan × Class) :=
  s.marks.request ++ audioRequests fun c => (s.chan c).settings

theorem openCapture_opened (s : State) : ∃ ms,
    PeriodOpened s.openWorked s.openCapture 0 .recess s.openWorked.stampNow s.openRequests ms := by
  have opened := allocate_opened s.openWorked 0 .recess s.openWorked.stampNow
  have frame := openedFrame s
  have eq : s.openCapture = (s.openWorked.takeMarkers 0 .recess s.openWorked.stampNow).allocate := by
    rw [openCapture_eq]
    rfl
  rw [eq]
  generalize s.openWorked = w at opened frame ⊢
  have settings (c : Chan) : (w.chan c).settings = (s.chan c).settings := by rw [frame.chan c]; rfl
  have request : w.marks.request = s.marks.request := by rw [frame.marks]; rfl
  rwa [request, audioRequests_congr settings] at opened

/-- Of the trim unit the opening allocation leaves all, and CONVERTER is raised by the replacements alone (R171). -/
theorem openCapture_trim (s : State) : s.openCapture.trim = s.openWorked.trim ∧
    flagSet s.openCapture.link.raised .converter = flagSet s.openWorked.link.raised .converter := by
  have eq : s.openCapture = (s.openWorked.takeMarkers 0 .recess s.openWorked.stampNow).allocate := by
    rw [openCapture_eq]
    rfl
  rw [eq]
  generalize s.openWorked = u
  obtain ⟨st, m, r, flags, e⟩ := takeMarkers_changes u 0 .recess u.stampNow
  generalize u.takeMarkers 0 .recess u.stampNow = x at e ⊢
  obtain ⟨⟨st', ch', r', flags', e'⟩, -⟩ := allocate_changes x
  rw [e', e]
  rw [e] at flags'
  exact ⟨rfl, (flags'.same (by decide)).trans (flags.same (by decide))⟩

end Sys2Proof.Machine
end

section
/-! SUPPORT. O34 and O35: OPEN_CAPTURE (R2, R3). -/

namespace Sys2Proof.Machine

variable {s t u w : State} {c : Chan} {v : Conv}

/-! ## The converters -/

theorem openCapture_assigned (s : State) : Assigned s.openBank s.openCapture.bank s.openBad s.openSpares := by
  rw [bank_openCapture]
  exact openAssigned s

theorem openSpares_state (h : v ∈ s.openSpares) : (s.conv v).state = .spare := of_decide_eq_true (List.mem_filter.mp h).2

theorem openBad_state (h : c ∈ s.openBad) : (s.conv (s.convOf c)).state = .faulted :=
  of_decide_eq_true (List.mem_filter.mp h).2

/-- A FAULTED converter is not among those the channels take. -/
theorem openBad_apart (hc : c ∈ s.openBad) (hv : v ∈ s.openSpares) : s.convOf c ≠ v := fun e => by
  have faulted := openBad_state hc
  rw [e, openSpares_state hv] at faulted
  cases faulted

theorem openCapture_replaced (assigned : Assigned s.openBank t.bank s.openBad s.openSpares) :
    s.Replaced t s.openBad s.openSpares := by
  intro i c hc
  have mem := List.mem_of_getElem? hc
  refine ⟨?_, fun v hv => ?_, fun none => ?_⟩
  · have unused := assigned.unused (s.convOf c) fun j d _ hj => openBad_apart mem (List.mem_of_getElem? hj) rfl
    exact (congrArg Converter.state unused).trans (openBad_state mem)
  · obtain ⟨map, conv, mark, mismatch, noSpare⟩ := assigned.given i c v hc hv
    exact ⟨map, congrArg Converter.state conv, congrArg Converter.stuck conv, mark, mismatch, noSpare⟩
  · obtain ⟨map, -, mismatch, noSpare⟩ := assigned.left i c hc none
    exact ⟨map, noSpare, mismatch⟩

theorem openCapture_conv (assigned : Assigned s.openBank t.bank s.openBad s.openSpares) (v : Conv) :
    t.conv v = { s.conv v with
      stuck := 0
      state := if ∃ c ∈ s.openBad, t.convOf c = v ∧ s.convOf c ≠ v then .serving else (s.conv v).state } := by
  by_cases used : ∃ (i : Nat) (c : Chan), s.openBad[i]? = some c ∧ s.openSpares[i]? = some v
  · obtain ⟨i, c, hc, hv⟩ := used
    obtain ⟨map, conv, -⟩ := assigned.given i c v hc hv
    have mem := List.mem_of_getElem? hc
    rw [if_pos ⟨c, mem, map, openBad_apart mem (List.mem_of_getElem? hv)⟩]
    exact conv
  · have idle : ¬ ∃ c ∈ s.openBad, t.convOf c = v ∧ s.convOf c ≠ v := by
      rintro ⟨c, mem, map, moved⟩
      obtain ⟨i, hi⟩ := List.mem_iff_getElem?.mp mem
      cases hv : s.openSpares[i]? with
      | none => exact moved ((assigned.left i c hi hv).1.symm.trans map)
      | some w =>
        obtain rfl : w = v := (assigned.given i c w hi hv).1.symm.trans map
        exact used ⟨i, c, hi, hv⟩
    rw [if_neg idle]
    exact assigned.unused v fun i c hc hv => used ⟨i, c, hc, hv⟩

/-- Of the trim unit an OPEN_CAPTURE leaves all but the rotation, the converters, the map and the entries. -/
theorem openCapture_trim_kept (s : State) : s.openCapture.trim = { s.trim with
    convs := s.openCapture.trim.convs, map := s.openCapture.trim.map, rotation := .idle, named := none, shadow := none
    timer := 0, events := s.openCapture.trim.events, unlisted := s.openCapture.trim.unlisted } := by
  have rest := (openCapture_assigned s).rest
  have fixed := (TrimFrame.trimOpenWork s.openState).fixed
  have same := (openCapture_trim s).1
  rw [(openState_keeps s).1] at fixed
  change s.openWorked.trim.fixed = _ at fixed
  rw [← same] at fixed
  clear same
  generalize s.openCapture = t at *
  have engine : t.trim.engine = s.trim.engine := congrArg Bank.engine rest
  have built : t.trim.mapBuilt = s.trim.mapBuilt := congrArg Bank.built rest
  have rotation : t.trim.rotation = .idle := congrArg Bank.rotation rest
  have named : t.trim.named = none := congrArg Bank.named rest
  have shadow : t.trim.shadow = none := congrArg Bank.shadow rest
  have matchSum : t.trim.matchSum = s.trim.matchSum := congrArg Bank.matchSum rest
  have timer : t.trim.timer = 0 := congrArg Bank.timer rest
  simp only [TrimUnit.fixed, Prod.mk.injEq] at fixed
  obtain ⟨interval, limit, clock⟩ := fixed
  clear rest
  generalize t.trim = x at *
  cases x
  cases hs : s.trim
  rw [hs] at interval limit clock built engine matchSum
  simp_all

theorem Logged.flag_ne {es : List ConverterEntry} (h : Logged s t es) :
    flagSet t.link.raised .converter = (flagSet s.link.raised .converter || decide (es ≠ [])) := by
  rw [h.flag]
  cases es <;> rfl

theorem openCapture_logged (s : State) : Logged s s.openCapture
    (s.replacementEntries s.openBad s.openSpares ((s.cap.number + 1) % 65536) 0) := by
  obtain ⟨events, flag⟩ := (openReplaced s).logged
  obtain ⟨trim, same⟩ := openCapture_trim s
  exact ⟨by rw [trim]; exact events, same.trans flag⟩

/-! ## The opening allocation -/

/-- The opening allocation, from the state in which the OPEN_CAPTURE came (R3, R8, R9, R33 to R35). -/
structure Opened (s t : State) (ms : List MarkerRecord) : Prop where
  step : ({ s.marks with sequence := 0, chain := 0xFFFFFFFF#32 } : Markers).Step t.marks
    (none ∈ (s.store.run s.openRequests).1) ((s.cap.number + 1) % 65536) (s.store.lastCustody + 1) 0 .recess
    ⟨s.time.day, s.time.instant, s.time.quality, false⟩ ms
  posted : t.store.posted = s.store.posted ++ ms.map fun m => ⟨.marker m, s.ticks⟩
  lastCustody : t.store.lastCustody = s.store.lastCustody + ms.length
  sending : t.store.sending = s.store.sending
  marker_flag : flagSet t.link.raised .marker = (flagSet s.link.raised .marker || !ms.isEmpty)
  allocated : s.store.Allocated t.store s.openRequests
  store_flag : flagSet t.link.raised .store = (flagSet s.link.raised .store ||
    decide (t.store.level ≠ s.store.level ∨ t.store.custody ≠ s.store.custody ∨ ∃ c : Chan,
      (s.chan c).settings.enable = true ∧ some c ∉ (s.store.run s.openRequests).1))
  granted : ∀ c, (s.chan c).settings.enable = true → some c ∈ (s.store.run s.openRequests).1 →
    (t.chan c).lastSeq = some 0 ∧ (t.chan c).seqCount = 1 ∧ (t.chan c).filling = some [] ∧ (t.chan c).gapTally = 0 ∧
    (t.chan c).starved = false ∧ (t.chan c).starvation = (s.chan c).starvation ∧
    (t.chan c).newlyStarved = (s.chan c).newlyStarved
  refused : ∀ c, (s.chan c).settings.enable = true → some c ∉ (s.store.run s.openRequests).1 →
    (t.chan c).lastSeq = some 0 ∧ (t.chan c).seqCount = 1 ∧ (t.chan c).filling = (s.chan c).filling ∧
    (t.chan c).gapTally = 1 ∧ (t.chan c).starved = true ∧
    (t.chan c).starvation = satInc 4294967295 (s.chan c).starvation ∧ (t.chan c).newlyStarved = true
  disabled : ∀ c, (s.chan c).settings.enable ≠ true →
    (t.chan c).lastSeq = none ∧ (t.chan c).seqCount = 0 ∧ (t.chan c).filling = (s.chan c).filling ∧
    (t.chan c).gapTally = 0 ∧ (t.chan c).starved = false ∧ (t.chan c).starvation = (s.chan c).starvation ∧
    (t.chan c).newlyStarved = (s.chan c).newlyStarved

/-- The stamp of a marker record is its day, its instant and its quality (R112). -/
theorem markersStep_stamp {m m' : Markers} {g : Prop} {n k p : Nat} {tag : Tag} {a b : Stamp} {ms : List MarkerRecord}
    (h : m.Step m' g n k p tag a ms) (day : a.day = b.day) (instant : a.instant = b.instant) (quality : a.quality = b.quality) :
    m.Step m' g n k p tag b ms := by
  unfold Markers.Step at h ⊢
  rwa [day, instant, quality] at h

theorem openCapture_allotted (s : State) : ∃ ms, Opened s s.openCapture ms := by
  obtain ⟨ms, opened⟩ := openCapture_opened s
  have frame := openedFrame s
  generalize s.openWorked = w at opened frame
  generalize s.openCapture = t at opened ⊢
  have run (rs : List (Option Chan × Class)) : w.store.run rs = s.store.run rs := by rw [frame.store]
  have settings (c : Chan) : (w.chan c).settings = (s.chan c).settings := by rw [frame.chan c]; rfl
  have supplied (c : Chan) : (w.chan c).starved = false := by rw [frame.chan c]; rfl
  obtain ⟨day, instant, quality⟩ := frame.stamp
  have chan (c : Chan) := opened.chan c
  simp only [settings, run] at chan
  have turn (c : Chan) : (w.chan c).seqCount = 0 ∧ (w.chan c).lastSeq = none ∧ (w.chan c).filling = (s.chan c).filling ∧
      (w.chan c).gapTally = 0 ∧ (w.chan c).starvation = (s.chan c).starvation ∧
      (w.chan c).newlyStarved = (s.chan c).newlyStarved := by
    rw [frame.chan c]
    exact ⟨rfl, rfl, rfl, rfl, rfl, rfl⟩
  refine ⟨ms, ?_, ?_, ?_, ?_, ?_, ?_, ?_, fun c on some => ?_, fun c on none => ?_, fun c off => ?_⟩
  · have step := opened.step
    have first := opened.marker
    rw [run, run] at first
    have request : w.marks.request = s.marks.request := by rw [frame.marks]; rfl
    rw [request] at step first
    rw [run, ← first, frame.marks, frame.number, frame.store] at step
    exact markersStep_stamp step day instant quality
  · rw [opened.posted, frame.store, frame.ticks]
  · rw [opened.lastCustody, frame.store]
  · rw [opened.run.sending, frame.store]
  · rw [opened.markerFlag, frame.marker_flag]
  · have allocated := opened.allocated
    rwa [frame.store] at allocated
  · have flag := opened.run.flag
    simp only [settings, supplied, true_and, frame.store_flag, frame.store] at flag
    rw [Bool.eq_iff_iff, flag, Bool.or_eq_true, decide_eq_true_iff]
  · obtain ⟨seqCount, lastSeq, filling, gap, starvation, newly⟩ := turn c
    rw [chan c, if_pos on, if_pos some]
    generalize w.chan c = ch at *
    simp [Channel.granted, Channel.countPeriod, wrapInc, seqCount, gap, starvation, newly]
  · obtain ⟨seqCount, lastSeq, filling, gap, starvation, newly⟩ := turn c
    have fed := supplied c
    rw [chan c, if_pos on, if_neg none]
    generalize w.chan c = ch at *
    simp [Channel.refused, Channel.countPeriod, wrapInc, seqCount, gap, starvation, newly, filling, fed]
  · obtain ⟨seqCount, lastSeq, filling, gap, starvation, newly⟩ := turn c
    rw [chan c, if_neg off]
    exact ⟨lastSeq, seqCount, filling, gap, supplied c, starvation, newly⟩

theorem floor_openState (s : State) : s.openState.floor = { s.floor with holder := none, challenger := none, lastDecision := none } := by
  simp [State.openState, State.addChange, State.raise, State.mapChans]

/-! ## The command -/

/-- An OPEN_CAPTURE that is taken (R2). -/
theorem exec_openCapture {f : Command} {rest : List Command} (h : s.Executes f rest 1) (hf : f.Is 0x10#8 1)
    (standby : s.cap.state = .standby) (built : s.trim.mapBuilt = true) (below : s.store.lastCustody + 1 ≤ 4294967246) {u : State}
    (hu : u = { s with link := { s.link with cmdQueue := rest } }) :
    exec .openCapture s = .next { u.openCapture with link := { u.openCapture.link with
      replyQueue := u.openCapture.link.replyQueue ++ [.reply ⟨f.tag, 0x10#8, .ok, be 2 u.openCapture.cap.number⟩] } } := by
  refine next_runCommand (need := ownReply) h hf.1 (lengthIs_of_length hf.2) ?_
  have off : u.capturing = false := capturing_false_iff.mpr (by rw [hu]; exact standby)
  have map : u.trim.mapBuilt = true := by rw [hu]; exact built
  have limit : u.atLimit = false := by rw [hu]; exact decide_eq_false (Nat.not_lt.mpr below)
  have code : f.code = 0x10#8 := by
    rw [Command.code, List.headD_eq_head?_getD, hf.1]
    rfl
  rw [← hu, openCaptureBody, off, map, limit]
  simp only [Bool.false_eq_true, if_false, Bool.not_true, State.reply, code]
  rfl

/-- Settles O34. -/
theorem openCaptureRule : Obligations.OpenCaptureRule := by
  unfold Obligations.OpenCaptureRule
  intro s f rest h hf
  have run {t : State} (hb : openCaptureBody f { s with link := { s.link with cmdQueue := rest } } = t) :
      exec .openCapture s = .next t :=
    next_runCommand (need := ownReply) h hf.1 (lengthIs_of_length hf.2) hb
  refine ⟨fun running => run ?_, fun standby unbuilt => run ?_, fun standby built limit => run ?_,
    fun n standby built below hn => ?_⟩
  · have on : State.capturing { s with link := { s.link with cmdQueue := rest } } = true := capturing_iff.mpr running
    rw [openCaptureBody, on]
    rfl
  · have off : State.capturing { s with link := { s.link with cmdQueue := rest } } = false := capturing_false_iff.mpr standby
    simp only [openCaptureBody, off, unbuilt]
    rfl
  · have off : State.capturing { s with link := { s.link with cmdQueue := rest } } = false := capturing_false_iff.mpr standby
    have full : State.atLimit { s with link := { s.link with cmdQueue := rest } } = true := decide_eq_true limit
    simp only [openCaptureBody, off, built, full]
    rfl
  · obtain ⟨u, hu⟩ : ∃ u, u = { s with link := { s.link with cmdQueue := rest } } := ⟨_, rfl⟩
    have run := exec_openCapture h hf standby built below hu
    have frame := open_frame u
    have trim := openCapture_trim_kept u
    obtain ⟨ms, opened⟩ := openCapture_allotted u
    have cap := frame.cap.trans (cap_openState u)
    have floor := frame.floor.trans (floor_openState u)
    have time := frame.time.trans (time_openState u)
    generalize u.openCapture = t at *
    have number : t.cap.number = n := by rw [cap, hu, hn]
    rw [number] at run
    refine ⟨_, run, ?_, frame.flag, ?_, fun c => ?_, ?_, ?_, fun k hk => ?_, fun k hk => ?_, ?_, ?_, ?_, ?_, ?_⟩
    · rw [cap, hu, hn]
    · simp only []
      rw [frame.link, hu]
    · have chan := frame.chan c
      have kept : (t.chan c).settings = (s.chan c).settings ∧ (t.chan c).route = (s.chan c).route ∧
          (t.chan c).lastLevel = (s.chan c).lastLevel := by
        rw [chan, hu]
        exact ⟨rfl, rfl, rfl⟩
      have fresh : (t.chan c).pendingSettings = PendingSettings.empty ∧ (t.chan c).pendingRoute = none ∧
          (t.chan c).block = none ∧ (t.chan c).chain = 0xFFFFFFFF#32 ∧ (t.chan c).activity = .quiet ∧
          (t.chan c).hangCounter = 0 := by
        rw [chan]
        exact ⟨rfl, rfl, rfl, rfl, rfl, rfl⟩
      obtain ⟨settings, route, level⟩ := kept
      obtain ⟨pending, pendingRoute, block, chain, activity, hang⟩ := fresh
      refine ⟨settings, pending, route, pendingRoute, block, level, chain, activity, hang, ?_⟩
      have same : u.chan c = s.chan c := by rw [hu]; rfl
      have granted := opened.granted c
      have refused := opened.refused c
      have disabled := opened.disabled c
      rw [same] at granted refused disabled
      split_ifs with on
      · by_cases some : some c ∈ (u.store.run u.openRequests).1
        · obtain ⟨lastSeq, seqCount, counts⟩ := granted on some
          exact ⟨lastSeq, seqCount, .inl counts⟩
        · obtain ⟨lastSeq, seqCount, filling, gap, starved, starvation, newly⟩ := refused on some
          have flag := opened.store_flag
          rw [decide_eq_true (.inr (.inr ⟨c, by rw [same]; exact on, some⟩)), Bool.or_true] at flag
          exact ⟨lastSeq, seqCount, .inr ⟨filling, gap, starved, starvation, newly, flag⟩⟩
      · exact disabled on
    · rw [floor, hu]
    · rw [trim, hu]
    · have other : k ∉ [NoticeKind.proceeding, .converter, .store, .marker] := by
        simp only [List.mem_cons, List.not_mem_nil, or_false] at hk
        rcases hk with rfl | rfl | rfl | rfl <;> decide
      refine (frame.flags.same other).trans ?_
      rw [hu]
    · exact frame.flags.keeps (by rw [hu]; exact hk)
    · rw [time, hu]
    · rw [frame.pending, hu]
    · rw [frame.ticks, hu]
    · rw [frame.stream, hu]
    · rw [frame.feed, hu]

/-- Settles O35. -/
theorem openCaptureReplacesAndAllocates : Obligations.OpenCaptureReplacesAndAllocates := by
  unfold Obligations.OpenCaptureReplacesAndAllocates
  intro s f rest n h hf standby built below hn
  obtain ⟨u, hu⟩ : ∃ u, u = { s with link := { s.link with cmdQueue := rest } } := ⟨_, rfl⟩
  have run := exec_openCapture h hf standby built below hu
  have assigned := openCapture_assigned u
  have logged := openCapture_logged u
  obtain ⟨ms, opened⟩ := openCapture_allotted u
  generalize u.openCapture = t at *
  refine ⟨_, run, fun bad spares rs hbad hspares hrs => ?_⟩
  subst hu
  obtain rfl : bad = s.openBad := hbad
  obtain rfl : spares = s.openSpares := hspares
  obtain rfl : rs = s.openRequests := hrs
  subst hn
  refine ⟨openCapture_replaced assigned, fun c hc => ?_, openCapture_conv assigned, logged.events, logged.flag_ne,
    ⟨ms, opened.step, opened.posted, opened.lastCustody, opened.sending, opened.marker_flag⟩, opened.allocated, opened.store_flag,
    fun c on => ?_⟩
  · obtain ⟨map, mark, mismatch, noSpare⟩ := assigned.others c hc
    exact ⟨map, mismatch, noSpare, mark⟩
  · split_ifs with some
    · obtain ⟨-, -, filling, -, starved, -⟩ := opened.granted c on some
      exact ⟨filling, starved⟩
    · obtain ⟨-, -, filling, -, starved, -⟩ := opened.refused c on some
      exact ⟨filling, starved⟩

end Sys2Proof.Machine
end

section
/-! SUPPORT. The map build, channel by channel (R123). -/

namespace Sys2Proof.Machine

variable {s t u w : State} {c : Chan} {v : Conv} {p : Nat}

namespace Bank

/-- The channels whose own converter is not SPARE, and the spare ones of CV24 and CV25 (R123). -/
def without (b : Bank) (l : List Chan) : List Chan := l.filter fun c => (b.conv (ownConv c)).state ≠ .spare

def lent (b : Bank) : List Conv := [24, 25].filter fun v => (b.conv v).state = .spare

theorem without_congr {b b' : Bank} {l : List Chan} (h : ∀ c ∈ l, (b'.conv (ownConv c)).state = (b.conv (ownConv c)).state) :
    b'.without l = b.without l := List.filter_congr fun c hc => by rw [h c hc]

theorem without_free {b : Bank} {c : Chan} (h : (b.conv (ownConv c)).state = .spare) (l : List Chan) :
    b.without (c :: l) = b.without l :=
  List.filter_cons_of_neg (by rw [decide_eq_true_iff]; exact not_not.mpr h)

theorem without_taken {b : Bank} {c : Chan} (h : (b.conv (ownConv c)).state ≠ .spare) (l : List Chan) :
    b.without (c :: l) = c :: b.without l :=
  List.filter_cons_of_pos (decide_eq_true h)

theorem mem_of_left {b : Bank} {l : List Chan} {n : Nat} {c : Chan} (h : c ∈ (b.without l).drop n) : c ∈ l :=
  (List.mem_filter.mp (List.mem_of_mem_drop h)).1

theorem lent_eq (b : Bank) : b.lent = (if (b.conv 24).state = .spare then [24] else []) ++
    if (b.conv 25).state = .spare then [25] else [] := by
  unfold lent
  by_cases first : (b.conv 24).state = .spare
  · rw [List.filter_cons_of_pos (by simpa using first), if_pos first, List.filter_singleton]
    simp
  · rw [List.filter_cons_of_neg (by simpa using first), if_neg first, List.filter_singleton]
    simp

theorem lent_serve_own (b : Bank) (c : Chan) : (b.serve c (ownConv c)).lent = b.lent := by
  obtain ⟨-, not24, not25⟩ := Building.own_facts c c
  simp only [lent_eq, serve, Function.update_of_ne not24.symm, Function.update_of_ne not25.symm]

/-- The first of the spare ones leaves the others, and is no channel's own. -/
theorem lent_serve (b : Bank) (c : Chan) {more : List Conv} (h : b.lent = v :: more) :
    (b.serve c v).lent = more ∧ (b.conv v).state = .spare ∧ ∀ d, ownConv d ≠ v := by
  have apart : (25 : Conv) ≠ 24 := by decide
  rw [lent_eq] at h
  by_cases first : (b.conv 24).state = .spare
  · rw [if_pos first, List.singleton_append, List.cons.injEq] at h
    obtain ⟨rfl, rfl⟩ := h
    refine ⟨?_, first, fun d => (Building.own_facts d d).2.1⟩
    simp only [lent_eq, serve, Function.update_self, Function.update_of_ne apart, reduceCtorEq, if_false, List.nil_append]
  · rw [if_neg first, List.nil_append] at h
    split_ifs at h with second
    rw [List.cons.injEq] at h
    obtain ⟨rfl, rfl⟩ := h
    refine ⟨?_, second, fun d => (Building.own_facts d d).2.2⟩
    simp only [lent_eq, serve, Function.update_self, Function.update_of_ne apart.symm, reduceCtorEq, if_neg first, if_false,
      List.nil_append]

end Bank

/-! ## One channel's turn -/

theorem mapChannel_cases (p : Nat) (s : State) (c : Chan) :
    ((s.conv (ownConv c)).state = .spare ∧ State.mapChannel p s c = s.serve c (ownConv c)) ∨
    ((s.conv (ownConv c)).state ≠ .spare ∧ ∃ v more, s.bank.lent = v :: more ∧ State.mapChannel p s c = s.serve c v) ∨
    ((s.conv (ownConv c)).state ≠ .spare ∧ s.bank.lent = [] ∧ State.mapChannel p s c =
      State.joinNoSpare { s with trim := { s.trim with map := s.trim.map.set c (ownConv c) } } p c) := by
  have own : (c.castLE (by decide) : Conv) = ownConv c := rfl
  have lent : s.bank.lent = (if (s.conv 24).state = .spare then [24] else []) ++
      if (s.conv 25).state = .spare then [25] else [] := s.bank.lent_eq
  rw [lent]
  simp only [State.mapChannel, own]
  by_cases free : (s.conv (ownConv c)).state = .spare
  · exact .inl ⟨free, if_pos free⟩
  · refine .inr ?_
    rw [if_neg free]
    by_cases first : (s.conv 24).state = .spare
    · rw [if_pos first, if_pos first]
      exact .inl ⟨free, 24, _, rfl, rfl⟩
    · rw [if_neg first, if_neg first]
      by_cases second : (s.conv 25).state = .spare
      · rw [if_pos second, if_pos second]
        exact .inl ⟨free, 25, _, rfl, rfl⟩
      · rw [if_neg second, if_neg second]
        exact .inr ⟨free, rfl, rfl⟩

theorem bank_ownMap (s : State) (c : Chan) :
    State.bank { s with trim := { s.trim with map := s.trim.map.set c (ownConv c) } } =
      { s.bank with map := Function.update s.bank.map c (ownConv c) } := by
  have map : State.convOf { s with trim := { s.trim with map := s.trim.map.set c (ownConv c) } } =
      Function.update s.convOf c (ownConv c) := funext fun d => (vector_get_set _ c d _).trans (Function.update_apply _ _ _ _).symm
  rw [State.bank, map]
  rfl

/-! ## All channels -/

/-- What the map build of the channels `l` leads to. -/
structure Mapped (s t : State) (l : List Chan) (p : Nat) : Prop where
  own : ∀ c ∈ l, (s.conv (ownConv c)).state = .spare → t.convOf c = ownConv c ∧ (t.conv (ownConv c)).state = .serving
  given : ∀ (i : Nat) c v, (s.bank.without l)[i]? = some c → s.bank.lent[i]? = some v →
    t.convOf c = v ∧ (t.conv v).state = .serving
  left : ∀ (i : Nat) c, (s.bank.without l)[i]? = some c → s.bank.lent[i]? = none →
    t.convOf c = ownConv c ∧ (t.chan c).noSpare = true
  others : ∀ c, c ∉ l → t.convOf c = s.convOf c ∧ (t.chan c).noSpare = (s.chan c).noSpare
  unused : ∀ v, (s.conv v).state ≠ .spare → t.conv v = s.conv v
  results : ∀ v, (t.conv v).offset = (s.conv v).offset ∧ (t.conv v).doneAt = (s.conv v).doneAt
  engine : t.trim.engine = s.trim.engine
  logged : Logged s t ((((s.bank.without l).drop s.bank.lent.length).filter fun c => (s.chan c).noSpare = false).map fun c =>
    ⟨.noSpare, .none, ownConv c, some c, none, s.cap.number, p⟩)

/-- The first turn, and the turns after it: what they share. -/
structure MapTurn (s u : State) (c : Chan) : Prop where
  map : ∀ d, d ≠ c → u.convOf d = s.convOf d
  noSpare : ∀ d, d ≠ c → (u.chan d).noSpare = (s.chan d).noSpare
  owns : ∀ d, d ≠ c → (u.conv (ownConv d)).state = (s.conv (ownConv d)).state
  unused : ∀ v, (s.conv v).state ≠ .spare → u.conv v = s.conv v
  results : ∀ v, (u.conv v).offset = (s.conv v).offset ∧ (u.conv v).doneAt = (s.conv v).doneAt
  engine : u.trim.engine = s.trim.engine
  cap : u.cap = s.cap

theorem MapTurn.of_serve (bank : u.bank = s.bank.serve c v) (spare : (s.conv v).state = .spare)
    (apart : ∀ d, d ≠ c → ownConv d ≠ v) (cap : u.cap = s.cap) : MapTurn s u c := by
  have conv (w : Conv) : u.conv w = if w = v then { s.conv v with state := .serving, stuck := 0 } else s.conv w :=
    (congrFun (conv_of_bank bank) w).trans (Function.update_apply _ _ _ _)
  refine ⟨fun d hd => ?_, fun d _ => noSpare_of_bank bank d, fun d hd => ?_, fun w hw => ?_, fun w => ?_,
    congrArg Bank.engine bank, cap⟩
  · exact (congrFun (convOf_of_bank bank) d).trans (Function.update_of_ne hd _ _)
  · rw [conv, if_neg (apart d hd)]
  · rw [conv, if_neg fun e => hw ((congrArg (fun z => (s.conv z).state) e).trans spare)]
  · rw [conv]
    split_ifs with e
    · rw [e]
      exact ⟨rfl, rfl⟩
    · exact ⟨rfl, rfl⟩

theorem MapTurn.without (h : MapTurn s u c) {l : List Chan} (apart : c ∉ l) : u.bank.without l = s.bank.without l :=
  Bank.without_congr fun d hd => h.owns d fun e => apart (e ▸ hd)

/-- What stands of the later turns stands of all. -/
theorem MapTurn.after (h : MapTurn s u c) {l : List Chan} (m : Mapped u t l p) :
    (∀ d, d ∉ c :: l → t.convOf d = s.convOf d ∧ (t.chan d).noSpare = (s.chan d).noSpare) ∧
    (∀ v, (s.conv v).state ≠ .spare → t.conv v = s.conv v) ∧
    (∀ v, (t.conv v).offset = (s.conv v).offset ∧ (t.conv v).doneAt = (s.conv v).doneAt) ∧
    t.trim.engine = s.trim.engine := by
  refine ⟨fun d hd => ?_, fun v hv => ?_, fun v => ?_, m.engine.trans h.engine⟩
  · rw [List.mem_cons, not_or] at hd
    obtain ⟨map, noSpare⟩ := m.others d hd.2
    exact ⟨map.trans (h.map d hd.1), noSpare.trans (h.noSpare d hd.1)⟩
  · have same := h.unused v hv
    exact (m.unused v (same ▸ hv)).trans same
  · obtain ⟨offset, doneAt⟩ := m.results v
    obtain ⟨offset', doneAt'⟩ := h.results v
    exact ⟨offset.trans offset', doneAt.trans doneAt'⟩

/-- The entries of later turns read what the first turn leaves. -/
theorem MapTurn.entries (h : MapTurn s u c) {l : List Chan} (apart : c ∉ l) (p : Nat) :
    (l.filter fun d => (u.chan d).noSpare = false).map (fun d =>
      (⟨.noSpare, .none, ownConv d, some d, none, u.cap.number, p⟩ : ConverterEntry)) =
    (l.filter fun d => (s.chan d).noSpare = false).map fun d => ⟨.noSpare, .none, ownConv d, some d, none, s.cap.number, p⟩ := by
  rw [h.cap, List.filter_congr fun d hd => by rw [h.noSpare d fun e => apart (e ▸ hd)]]

/-- A channel whose own converter is SPARE takes it. -/
theorem Mapped.own_turn {l : List Chan} (bank : u.bank = s.bank.serve c (ownConv c)) (cap : u.cap = s.cap)
    (entry : Logged s u []) (free : (s.conv (ownConv c)).state = .spare) (apart : c ∉ l) (later : Mapped u t l p) :
    Mapped s t (c :: l) p := by
  have turn : MapTurn s u c := .of_serve bank free (fun d hd e => hd ((Bank.Building.own_facts d c).1 e)) cap
  have without : s.bank.without (c :: l) = u.bank.without l := (Bank.without_free free l).trans (turn.without apart).symm
  have same : s.bank.lent = u.bank.lent := by rw [bank, Bank.lent_serve_own]
  obtain ⟨others, unused, results, engine⟩ := turn.after later
  have mine : (u.conv (ownConv c)).state = .serving := by
    rw [conv_of_bank bank]
    simp only [Bank.serve, Function.update_self]
  refine ⟨fun d hd spare => ?_, ?_, ?_, others, unused, results, engine, ?_⟩
  · rcases List.mem_cons.mp hd with rfl | hd
    · rw [(later.others d apart).1, later.unused _ (by rw [mine]; nofun), convOf_of_bank bank]
      exact ⟨Function.update_self _ _ _, mine⟩
    · exact later.own d hd ((turn.owns d fun e => apart (e ▸ hd)).trans spare)
  · rw [without, same]
    exact later.given
  · rw [without, same]
    exact later.left
  · rw [without, same]
    have logged := later.logged
    rw [turn.entries (fun mem => apart (Bank.mem_of_left mem)) p] at logged
    exact entry.before logged

/-- Another takes the first of the spare ones left. -/
theorem Mapped.lent_turn {l : List Chan} {more : List Conv} (bank : u.bank = s.bank.serve c v) (cap : u.cap = s.cap)
    (entry : Logged s u []) (taken : (s.conv (ownConv c)).state ≠ .spare) (lent : s.bank.lent = v :: more) (apart : c ∉ l)
    (later : Mapped u t l p) : Mapped s t (c :: l) p := by
  obtain ⟨fewer, spare, other⟩ := s.bank.lent_serve c lent
  have turn : MapTurn s u c := .of_serve bank spare (fun d _ => other d) cap
  have without : s.bank.without (c :: l) = c :: u.bank.without l :=
    (Bank.without_taken taken l).trans (congrArg _ (turn.without apart).symm)
  have left : u.bank.lent = more := by rw [bank, fewer]
  obtain ⟨others, unused, results, engine⟩ := turn.after later
  have mine : (u.conv v).state = .serving := by
    rw [conv_of_bank bank]
    simp only [Bank.serve, Function.update_self]
  refine ⟨fun d hd free => ?_, fun i d w hd hw => ?_, fun i d hd hw => ?_, others, unused, results, engine, ?_⟩
  · rcases List.mem_cons.mp hd with rfl | hd
    · exact absurd free taken
    · exact later.own d hd ((turn.owns d fun e => apart (e ▸ hd)).trans free)
  · rw [without] at hd
    rw [lent] at hw
    cases i with
    | zero =>
      obtain rfl := Option.some.inj hd
      obtain rfl := Option.some.inj hw
      rw [(later.others c apart).1, later.unused v (by rw [mine]; nofun), convOf_of_bank bank]
      exact ⟨Function.update_self _ _ _, mine⟩
    | succ i => exact later.given i d w hd (left ▸ hw)
  · rw [without] at hd
    rw [lent] at hw
    cases i with
    | zero => cases hw
    | succ i => exact later.left i d hd (left ▸ hw)
  · rw [without, lent]
    have logged := later.logged
    rw [turn.entries (fun mem => apart (Bank.mem_of_left mem)) p, left] at logged
    exact entry.before logged

/-- Without one a channel stays on its own, in the no-spare set. -/
theorem Mapped.left_turn {l : List Chan}
    (bank : u.bank = ({ s.bank with map := Function.update s.bank.map c (ownConv c) } : Bank).join c) (cap : u.cap = s.cap)
    (entry : Logged s u (if (s.chan c).noSpare = true then [] else
      [⟨.noSpare, .none, ownConv c, some c, none, s.cap.number, p⟩]))
    (taken : (s.conv (ownConv c)).state ≠ .spare) (lent : s.bank.lent = []) (apart : c ∉ l) (later : Mapped u t l p) :
    Mapped s t (c :: l) p := by
  have conv : u.conv = s.conv := conv_of_bank bank
  have turn : MapTurn s u c := by
    refine ⟨fun d hd => ?_, fun d hd => ?_, fun d _ => by rw [conv], fun w _ => by rw [conv],
      fun w => by rw [conv]; exact ⟨rfl, rfl⟩, congrArg Bank.engine bank, cap⟩
    · exact (congrFun (convOf_of_bank bank) d).trans (Function.update_of_ne hd _ _)
    · exact (noSpare_of_bank bank d).trans (Function.update_of_ne hd _ _)
  have without : s.bank.without (c :: l) = c :: u.bank.without l :=
    (Bank.without_taken taken l).trans (congrArg _ (turn.without apart).symm)
  have none : u.bank.lent = [] := by
    rw [← lent]
    exact congrArg (fun f : Conv → Converter => [24, 25].filter fun v => (f v).state = .spare) conv
  obtain ⟨others, unused, results, engine⟩ := turn.after later
  refine ⟨fun d hd free => ?_, fun i d w hd hw => ?_, fun i d hd hw => ?_, others, unused, results, engine, ?_⟩
  · rcases List.mem_cons.mp hd with rfl | hd
    · exact absurd free taken
    · exact later.own d hd ((turn.owns d fun e => apart (e ▸ hd)).trans free)
  · rw [lent] at hw
    cases hw
  · rw [without] at hd
    cases i with
    | zero =>
      obtain rfl := Option.some.inj hd
      obtain ⟨map, noSpare⟩ := later.others c apart
      rw [map, noSpare, convOf_of_bank bank, noSpare_of_bank bank]
      exact ⟨Function.update_self _ _ _, Function.update_self _ _ _⟩
    | succ i => exact later.left i d hd (by rw [none]; rfl)
  · have logged := later.logged
    rw [turn.entries (fun mem => apart (Bank.mem_of_left mem)) p, none] at logged
    have both := entry.trans logged
    rw [without, lent]
    simp only [List.length_nil, List.drop_zero] at both ⊢
    by_cases member : (s.chan c).noSpare = true
    · rw [if_pos member] at both
      rw [List.filter_cons_of_neg (by simp [member])]
      exact both
    · rw [if_neg member] at both
      rw [List.filter_cons_of_pos (by simpa using member)]
      exact both

/-- The channels take their turns in ascending order. -/
theorem mapped_fold (p : Nat) : ∀ (l : List Chan) (s : State), l.Nodup → Mapped s (l.foldl (State.mapChannel p) s) l p
  | [], s, _ => ⟨nofun, nofun, nofun, fun _ _ => ⟨rfl, rfl⟩, fun _ _ => rfl, fun _ => ⟨rfl, rfl⟩, rfl, by
      simpa [Bank.without] using Logged.refl s⟩
  | c :: l, s, nodup => by
    obtain ⟨apart, nodup⟩ := List.nodup_cons.mp nodup
    have later := mapped_fold p l (State.mapChannel p s c) nodup
    rw [List.foldl_cons]
    rcases mapChannel_cases p s c with ⟨free, e⟩ | ⟨taken, v, more, lent, e⟩ | ⟨taken, lent, e⟩ <;> rw [e] at later ⊢
    · exact .own_turn (bank_serve s c (ownConv c)) rfl (.silent rfl rfl rfl) free apart later
    · exact .lent_turn (bank_serve s c v) rfl (.silent rfl rfl rfl) taken lent apart later
    · have map := bank_ownMap s c
      have bank := bank_joinNoSpare { s with trim := { s.trim with map := s.trim.map.set c (ownConv c) } } p c
      have entry := Logged.joinNoSpare { s with trim := { s.trim with map := s.trim.map.set c (ownConv c) } } p c
      have own : State.convOf { s with trim := { s.trim with map := s.trim.map.set c (ownConv c) } } c = ownConv c :=
        (congrFun (convOf_of_bank map) c).trans (Function.update_self _ _ _)
      rw [own] at entry
      rw [map] at bank
      exact .left_turn bank (TrimFrame.joinNoSpare _ p c).cap ⟨entry.events, entry.flag⟩ taken lent apart later

end Sys2Proof.Machine
end

section
/-! SUPPORT. O20: the start-up trims and the map build (R121 to R123, R134). -/

namespace Sys2Proof.Machine

variable {s t u : State} {c : Chan} {v : Conv} {p : Nat} {e : Engine}

/-- The entries of a trim that ends, in range or not (R134). -/
def State.rangeEntries (s : State) (e : Engine) (good : Prop) [Decidable good] : List ConverterEntry :=
  if good then [] else [⟨.faulted, .trim, e.conv, none, none, s.cap.number, s.cap.period⟩]

/-- What the end of a start-up trim makes of the state before the next one, or the map build, follows; `good` says which
converters are left in range (R121, R122). -/
structure StartUpEnded (s u : State) (e : Engine) (good : Conv → Prop) [DecidablePred good] : Prop where
  states : ∀ v, good v ↔ (u.conv v).state = .spare
  inRange : good e.conv → (u.conv e.conv).offset = (e.sum + 1280) / 2560 ∧ (u.conv e.conv).doneAt = some s.trim.trimClock
  beyond : ¬ good e.conv → (u.conv e.conv).state = .faulted ∧ (u.conv e.conv).offset = (s.conv e.conv).offset ∧
    (u.conv e.conv).doneAt = (s.conv e.conv).doneAt
  built : u.trim.mapBuilt = s.trim.mapBuilt
  engine : u.trim.engine = none
  logged : Logged s u (s.rangeEntries e (good e.conv))
  cap : u.cap = s.cap
  noSpare : ∀ c, (u.chan c).noSpare = (s.chan c).noSpare

theorem startUp_ended {good : Conv → Prop} [DecidablePred good] (engine : s.trim.engine = some e) (kind : e.kind = .long)
    (others : ∀ v, v ≠ e.conv → (good v ↔ (s.conv v).state = .spare))
    (own : good e.conv ↔ -24000 ≤ (e.sum + 1280) / 2560 ∧ (e.sum + 1280) / 2560 ≤ 24000) :
    ∃ u, s.completeTrim s.cap.period = u.afterTrim s.cap.period e.conv ∧ StartUpEnded s u e good := by
  obtain ⟨u, eq, bank, logged, cap, chans⟩ := completeTrim_ended engine s.cap.period
  have result : trimResult e.kind e.sum = (e.sum + 1280) / 2560 := by rw [trimResult_eq, kind]
  rw [result] at bank logged
  have conv (v : Conv) : u.conv v = if v = e.conv then (s.conv e.conv).trimmed ((e.sum + 1280) / 2560) s.trim.trimClock
      else s.conv v := (congrFun (conv_of_bank bank) v).trans (Function.update_apply _ _ _ _)
  have mine := conv e.conv
  rw [if_pos rfl, Converter.trimmed] at mine
  refine ⟨u, eq, fun v => ?_, fun yes => ?_, fun no => ?_, built_of_bank bank, congrArg Bank.engine bank, ?_, cap,
    fun c => congrArg Channel.noSpare (State.chan_congr chans c)⟩
  · by_cases same : v = e.conv
    · subst same
      rw [mine, own]
      split_ifs with range <;> simp [range]
    · rw [conv, if_neg same]
      exact others v same
  · rw [mine, if_pos (own.mp yes)]
    exact ⟨rfl, rfl⟩
  · rw [mine, if_neg fun range => no (own.mpr range)]
    exact ⟨rfl, rfl, rfl⟩
  · rw [State.rangeEntries]
    simpa only [own] using logged

/-- The next start-up trim begins (R122). -/
theorem startUp_next {good : Conv → Prop} [DecidablePred good] (h : StartUpEnded s u e good) (more : e.conv ≠ 25) {t : State}
    (ht : t = u.startTrim (e.conv + 1) .long) :
    Logged s t (s.rangeEntries e (good e.conv)) ∧ t.trim.mapBuilt = s.trim.mapBuilt ∧
      t.trim.engine = some ⟨e.conv + 1, .long, 2560, 0⟩ ∧ (t.conv (e.conv + 1)).state = .trimming ∧
      t.conv e.conv = u.conv e.conv := by
  have bank := bank_startTrim u (e.conv + 1) .long
  have entry := h.logged.after (.startTrim u (e.conv + 1) .long)
  rw [← ht] at bank entry
  have apart : e.conv ≠ e.conv + 1 := by
    have := e.conv.isLt
    have last : e.conv.val ≠ 25 := fun h => more (Fin.ext h)
    have val : (e.conv + 1).val = e.conv.val + 1 := Fin.val_add_one_of_lt' (by omega)
    rw [Ne, Fin.ext_iff]
    omega
  refine ⟨entry, (built_of_bank bank).trans h.built, congrArg Bank.engine bank, ?_, ?_⟩
  · rw [conv_of_bank bank]
    simp only [Bank.trim, Function.update_self]
  · rw [conv_of_bank bank]
    exact Function.update_of_ne apart _ _

/-- The entries of the map build (R123, R134). -/
def State.mapEntries (s : State) (left : List Chan) : List ConverterEntry :=
  (left.filter fun c => (s.chan c).noSpare = false).map fun c =>
    ⟨.noSpare, .none, ownConv c, some c, none, s.cap.number, s.cap.period⟩

theorem startUp_lists {good : Conv → Prop} [DecidablePred good] (h : StartUpEnded s u e good) :
    u.bank.without allChans = (List.finRange 24).filter (fun c => ¬ good (ownConv c)) ∧
      u.bank.lent = [24, 25].filter (fun v => good v) :=
  ⟨List.filter_congr fun _ _ => decide_eq_decide.mpr (not_congr (h.states _)).symm,
    List.filter_congr fun _ _ => decide_eq_decide.mpr (h.states _).symm⟩

/-- The last start-up trim builds the map (R123). -/
structure MapBuilt (s u t : State) (good : Conv → Prop) (bad : List Chan) (free : List Conv) (es : List ConverterEntry) : Prop where
  built : t.trim.mapBuilt = true
  engine : t.trim.engine = u.trim.engine
  own : ∀ c, good (ownConv c) → t.convOf c = ownConv c ∧ (t.conv (ownConv c)).state = .serving
  given : ∀ (i : Nat) c v, bad[i]? = some c → free[i]? = some v → t.convOf c = v ∧ (t.conv v).state = .serving
  left : ∀ (i : Nat) c, bad[i]? = some c → free[i]? = none → t.convOf c = ownConv c ∧ (t.chan c).noSpare = true
  unused : ∀ v, ¬ good v → t.conv v = u.conv v
  results : ∀ v, (t.conv v).offset = (u.conv v).offset ∧ (t.conv v).doneAt = (u.conv v).doneAt
  logged : Logged s t (es ++ s.mapEntries (bad.drop free.length))

theorem startUp_map {good : Conv → Prop} [DecidablePred good] (h : StartUpEnded s u e good) :
    MapBuilt s u (u.buildMap s.cap.period) good ((List.finRange 24).filter (fun c => ¬ good (ownConv c)))
      ([24, 25].filter (fun v => good v)) (s.rangeEntries e (good e.conv)) := by
  have mapped := mapped_fold s.cap.period allChans u (List.nodup_finRange 24)
  obtain ⟨bad, free⟩ := startUp_lists h
  obtain ⟨own, given, left, -, unused, results, engine, logged⟩ := mapped
  rw [bad, free] at given left logged
  rw [State.buildMap]
  generalize allChans.foldl (State.mapChannel s.cap.period) u = w at *
  refine ⟨rfl, engine, fun c yes => own c (List.mem_finRange c) ((h.states _).mp yes), given, left,
    fun v no => unused v fun spare => no ((h.states v).mpr spare), results, ?_⟩
  have entries := h.logged.trans logged
  simp only [h.noSpare, h.cap] at entries
  exact ⟨entries.events, entries.flag⟩

theorem mem_mapEntries {left : List Chan} (mem : c ∈ left) (new : (s.chan c).noSpare = false) : s.mapEntries left ≠ [] :=
  List.ne_nil_of_mem (List.mem_map_of_mem (List.mem_filter.mpr ⟨mem, decide_eq_true new⟩))

/-- Settles O20: the end of a trim, then the next one, or with CV25's the map build channel by channel. -/
theorem startUpTrimsAndMapBuild : Obligations.StartUpTrimsAndMapBuild := by
  unfold Obligations.StartUpTrimsAndMapBuild
  intro s e good _ own bad free engine done kind unbuilt others mine hown hbad hfree
  obtain rfl : own = ownConv := funext hown
  have run : exec .trimEnd s = .next (s.completeTrim s.cap.period) :=
    congrArg Host.Outcome.next (if_pos (trimDue_of_engine engine done))
  obtain ⟨u, eq, ended⟩ := startUp_ended engine kind others mine
  have off : ¬ u.trim.mapBuilt = true := by rw [ended.built, unbuilt]; nofun
  rw [eq, State.afterTrim, if_neg off] at run
  by_cases last : e.conv = 25
  · rw [if_pos last] at run
    have map := startUp_map ended
    rw [← hbad, ← hfree] at map
    generalize u.buildMap s.cap.period = t at run map
    refine ⟨t, run, fun yes => ?_, fun no => ?_, ?_, fun no => ?_, fun more => absurd last more, fun _ => ⟨map.built,
      map.engine.trans ended.engine, map.own, fun i c hc => ⟨fun v => map.given i c v hc, fun none => ?_⟩⟩⟩
    · obtain ⟨offset, doneAt⟩ := map.results e.conv
      rw [offset, doneAt]
      exact ended.inRange yes
    · rw [map.unused e.conv no]
      exact ended.beyond no
    · rw [if_neg (not_not.mpr last)]
      exact map.logged.events
    · exact map.logged.raised (by rw [State.rangeEntries, if_neg no]; nofun)
    · obtain ⟨place, member⟩ := map.left i c hc none
      refine ⟨place, member, fun new => map.logged.raised ?_⟩
      have beyond : free.length ≤ i := List.getElem?_eq_none_iff.mp none
      have mem : c ∈ bad.drop free.length := by
        refine List.mem_of_getElem? (i := i - free.length) ?_
        rw [List.getElem?_drop, Nat.add_sub_cancel' beyond]
        exact hc
      exact fun empty => mem_mapEntries mem new (List.append_eq_nil_iff.mp empty).2
  · rw [if_neg last] at run
    obtain ⟨logged, built, next, trimming, same⟩ := startUp_next ended last rfl
    generalize u.startTrim (e.conv + 1) .long = t at run logged built next trimming same
    refine ⟨t, run, fun yes => ?_, fun no => ?_, ?_, fun no => ?_, fun _ => ⟨built.trans unbuilt, next, trimming, ?_⟩,
      fun e => absurd e last⟩
    · rw [same]
      exact ended.inRange yes
    · rw [same]
      exact ended.beyond no
    · rw [if_pos last, List.append_nil]
      exact logged.events
    · exact logged.raised (by rw [State.rangeEntries, if_neg no]; nofun)
    · rw [same]
      split_ifs with yes
      · exact (ended.states _).mp yes
      · exact (ended.beyond yes).1

end Sys2Proof.Machine
end
